-- ==== Sys2Proof/Word.lean ====
section
/-! DEFINITION. The plainest words of the model: bytes, model time and the numbers by which the
spec counts its levers, channels, heads, sections and block ends. -/

namespace Sys2Proof

/-- One byte as it stands in the configuration image, on the block line or at the maintenance port. -/
abbrev Byte := BitVec 8

/-- Model time: a count of quanta of 1/48000 s since the end of reset. Part time (R178) is read off it. -/
abbrev Time := Nat

/-- Levers 1 to 32, counted from 0. -/
abbrev LeverNo := Fin 32

/-- Track circuit channels TC1 to TC12, counted from 0. -/
abbrev ChannelNo := Fin 12

/-- Axle counting heads H1 to H4, counted from 0. -/
abbrev HeadNo := Fin 4

/-- Count sections CS1 to CS6, counted from 0. -/
abbrev SectNo := Fin 6

/-- Detection sections DS1 to DS16, counted from 0. -/
abbrev DetNo := Fin 16

/-- Block ends 0 to 2, by the spec's own numbers. -/
abbrev EndNo := Fin 3

/-- A sense value, 0 to 1023 (section 3.1). -/
abbrev Sense := Fin 1024

end Sys2Proof
end

