-- ==== Sys2Proof/Syntax.lean ====
section
/-! DEFINITION. The commands of the part: one constructor of `Instr` for each row of spec/opcode_table.json.
A row that stands for an expiry, a debounced change or another event of the part's own carries the number of
the thing it happens to; a row that brings something in from outside carries what it brings. -/

namespace Sys2Proof

/-- The two proving contacts of a lever. -/
inductive LeverContact
  | n
  | r
deriving DecidableEq, Repr

/-- The two sensors of an axle counting head. -/
inductive Side
  | a
  | b
deriving DecidableEq, Repr

/-- The two entries of a lever (R19). -/
inductive EntryKind
  | fromNormal
  | fromReverse
deriving DecidableEq, Repr

/-- The debounced field inputs of the part (section 2 of the scope; R1, R59, R71, R118, R137, R163). -/
inductive FieldInput
  | lever (lever : LeverNo) (contact : LeverContact)
  | sensor (head : HeadNo) (side : Side)
  | resetKey (sect : SectNo)
  | tapper (e : EndNo)
  | blockSwitch (e : EndNo)
  | tosPlunger (e : EndNo)
  | cancelPlunger (e : EndNo)
  | keyIn
  | keyOut
deriving DecidableEq, Repr

/-- The inputs whose debounced release is the row PLUNGER_OR_KEY_RELEASE (R71, R137). -/
inductive ReleaseInput
  | tosPlunger (e : EndNo)
  | cancelPlunger (e : EndNo)
  | resetKey (sect : SectNo)
deriving DecidableEq, Repr

/-- The commands of the part, one constructor per row of spec/opcode_table.json. -/
inductive Instr
  | resetAsserted
  | endOfReset
  | readAttemptFailed
  | readRetryExpiry
  /-- The 8 header bytes, as read from the memory. -/
  | headerReadComplete (header : Vector Byte 8)
  /-- The bytes of the image after the header, to the end of the CRC trailer. -/
  | imageReadComplete (rest : List Byte)
  /-- The input and the level it takes: true is made, active, pressed, closed or ACCEPT. -/
  | rawInputChange (input : FieldInput) (level : Bool)
  | provingContactChange (lever : LeverNo)
  | transitLimitExpiry (lever : LeverNo)
  | readbackChange (lever : LeverNo) (made : Bool)
  | readbackMismatchExpiry (lever : LeverNo)
  | lockDecisionArrival (lever : LeverNo) (entry : EntryKind)
  /-- The index in the pool of the LEVER_NORMAL_FOR term. -/
  | normalForExpiry (term : Nat)
  /-- The twelve sense values at the boundary, TC1 first. -/
  | halfPeriodBoundary (sense : Vector Sense 12)
  | minOccupiedExpiry (channel : ChannelNo)
  | headStep (head : HeadNo)
  | countResetKeyPress (sect : SectNo)
  | resetRequestWindowExpiry (sect : SectNo)
  | heldRequestWindowExpiry (sect : SectNo)
  | flasherHalfExpiry
  | frameStart
  | contentionLost
  | lineError
  | frameBrokenOff
  /-- The characters the decoder took: H0, H1, H2, the payload and the two CRC characters. -/
  | acknowledgeDecision (chars : List Byte)
  /-- The character read in the acknowledge slot with a sound stop bit, or none. -/
  | attemptEnd (slot : Option Byte)
  | frameTaking
  | statusRefreshExpiry (e : EndNo)
  | lastHeardExpiry (identity : Fin 16)
  | listeningPeriodEnd
  | tapperStrike (e : EndNo)
  | tapperRelease (e : EndNo)
  | quietTimerExpiry (e : EndNo)
  | heldTimerExpiry (e : EndNo)
  | codeTimerExpiry (e : EndNo)
  | beatDue (e : EndNo)
  | strikeEnd (e : EndNo)
  | offerHoldExpiry (e : EndNo)
  | blockSwitchToAccept (e : EndNo)
  | blockSwitchToNormal (e : EndNo)
  | tosPlungerPress (e : EndNo)
  | cancelPlungerPress (e : EndNo)
  | plungerOrKeyRelease (input : ReleaseInput)
  | acceptanceTimerExpiry (e : EndNo)
  | cancellationTimerExpiry (e : EndNo)
  | refusalMarkExpiry (e : EndNo)
  | switchKeyMovement
  | agreementLimitExpiry
  | holdTimerExpiry
  | statusCommand
  | snapshotCommand
  /-- The area number and the start index the master sends. -/
  | readCommand (area : Byte) (start : BitVec 16)
  | takeCommand
  /-- The command code the master sent. -/
  | unknownCommand (code : Byte)
  | snapshotCompletion
  | takeRecordRemoved
  | selectDeasserted
  | startBitSeen
deriving DecidableEq, Repr

end Sys2Proof
end

