-- ==== Sys2Proof/Config.lean ====
section
/-! DEFINITION. The free values: what the spec leaves without a value. Each is an opaque constant, so no
proof can lean on what it is; each is named in the assumption log. What an installation fixes (the
configuration image) is state, read from the serial memory, and stands in Machine/State.lean. -/

namespace Sys2Proof

/-- R182 check 5: the fault subject where every section's length is right and the ten sections still do
not exactly fill the image. The spec states a subject only for a wrong length and for a wrong count.
A function of the image's bytes; bounded by the range R183 gives (0 to 10). Assumption 8. -/
opaque Config.unfilledImageSubject : List Byte → Fin 11

/-- R176 detail byte 3, "the identity of the other party", where both neighbours are the other party or no
single end is concerned. Applied to the state's counter of free values. Assumption 9. -/
opaque Config.bothPartiesByte : Nat → Byte

/-- R176 old value, the direction, of a REVERTED record with cause FAR_DIRECT: the overheard STATUS names no
direction. True is OUT, false is IN. Applied to the state's counter of free values. Assumption 10. -/
opaque Config.farDirectDirection : Nat → Bool

/-- R65 and R98: what a received net above 4095 comes to. R98 says that a net is a number from 0 to 4095 and R95 discards no frame for
a net outside it. A function of the number received; a net all the same. Assumption 26. -/
opaque Config.netOutOfRange : Nat → Fin 4096

/-- R176: the byte by which the snapshot shows the key's last proved position, for which the spec gives no codes. The argument is 0 for
absent, 1 for IN and 2 for OUT. Assumption 45. -/
opaque Config.provedPositionByte : Nat → Byte

/-- R117, R176, section 7.11: what the snapshot shows for the values of a frame, record, offer, agreement, hold or overheard entry that
is absent, where the spec states none. The argument is the place of the byte in Machine/Snapshot.lean. Assumption 45. -/
opaque Config.unstatedByte : Nat → Byte

end Sys2Proof
end

