-- ==== Sys2Proof/Machine/Image.lean ====
section
/-! DEFINITION. The configuration image as the loader holds it (section 10.4): one record type per kind of
record of R181. A field that the owning chapter has not yet checked is held as read, so a coded value outside
its table stands as `other`, and numbers are natural numbers. -/

namespace Sys2Proof.Machine

/-- A block end record (R105, R162, R181 section 1). Identity 0 stands for an absent alternate peer. -/
structure EndRecord where
  configured : Bool := false
  directId : Nat := 0
  directEnd : Nat := 0
  altId : Nat := 0
  altEnd : Nat := 0
  /-- The overlap detection section, 1 to 16, or 0 where absent. -/
  overlap : Nat := 0
  repetition : Bool := false
deriving DecidableEq, Repr

/-- A lever's role (R6, R181 section 2). -/
inductive Role
  | ordinary
  | starter (e : Nat)
  | spare
  | other (code : Nat)
deriving DecidableEq, Repr

/-- A term of the pool (R17, R181 section 3), its operands as the image numbers them. -/
inductive Term
  | leverNormal (n : Nat)
  | leverReverse (n : Nat)
  | leverNormalFor (n seconds : Nat)
  | detectionClear (d : Nat)
  | detectionOccupied (d : Nat)
  | releaseUnused (e : Nat)
  | blockNormal (e : Nat)
  | countClear (c : Nat)
  | other (kind op1 op2 : Nat)
deriving DecidableEq, Repr

/-- An alternative: a run of the pool (R18). -/
structure Alternative where
  first : Nat := 0
  length : Nat := 0
deriving DecidableEq, Repr

/-- The two entries of a lever, each a list of alternatives (R19). -/
structure LeverEntries where
  fromNormal : List Alternative := []
  fromReverse : List Alternative := []
deriving DecidableEq, Repr

/-- A channel record as the image holds it (R39): P and the minimum occupied time are image values. -/
structure ChannelRecord where
  enabled : Bool := false
  phase : Nat := 0
  tDrop : Nat := 0
  tPick : Nat := 0
  tWarn : Nat := 0
  strayLimit : Nat := 0
  persistence : Nat := 0
  minOccupied : Nat := 0
deriving DecidableEq, Repr

/-- The type of a count section (R64). -/
inductive SectType
  | localSect
  | block
  | other (code : Nat)
deriving DecidableEq, Repr

/-- The orientation of a boundary (R64). -/
inductive Orientation
  | upIn
  | downIn
  | other (code : Nat)
deriving DecidableEq, Repr

/-- A boundary of a count section: a head, 1 to 4, and an orientation (R64). -/
structure Boundary where
  head : Nat := 0
  orientation : Orientation := .upIn
deriving DecidableEq, Repr

/-- A count section record (R64, R82). -/
structure SectRecord where
  configured : Bool := false
  type : SectType := .localSect
  blockEnd : Nat := 0
  boundaries : List Boundary := []
deriving DecidableEq, Repr

/-- A detection section record (R83); 0 stands for an absent component. -/
structure DetRecord where
  configured : Bool := false
  channel : Nat := 0
  count : Nat := 0
deriving DecidableEq, Repr

/-- The class of a bell code (R124), coded as in R135. -/
inductive CodeClass
  | offer
  | cancelOffer
  | obstruction
  | obstructionRemoved
  | attention
  | entering
  | inform
  | other (code : Nat)
deriving DecidableEq, Repr

/-- An entry of the bell code table (R124). -/
structure CodeEntry where
  present : Bool := false
  pattern : List Nat := []
  cls : CodeClass := .other 0
deriving DecidableEq, Repr

/-- The image as parsed: the header's fields, the ten sections and the CRC trailer. Its defaults are the
values every block shows until an image is validated (R191: configuration fields shown as 0). -/
structure Image where
  /-- Whether this is a validated image handed over at the entry into RUNNING. -/
  validated : Bool := false
  length : Nat := 0
  identity : Nat := 0
  /-- 1 for 4800 bit/s, 2 for 9600 bit/s. -/
  rate : Nat := 0
  crc : Nat := 0
  ends : Vector EndRecord 3 := Vector.replicate 3 {}
  transitLimit : Nat := 0
  roles : Vector Role 32 := Vector.replicate 32 .ordinary
  poolCount : Nat := 0
  pool : List Term := []
  entries : Vector LeverEntries 32 := Vector.replicate 32 {}
  halfPeriod : Nat := 0
  channels : Vector ChannelRecord 12 := Vector.replicate 12 {}
  /-- The fitted field of each head record: 0 or 1 where it passes R82. -/
  fitted : Vector Nat 4 := Vector.replicate 4 0
  sects : Vector SectRecord 6 := Vector.replicate 6 {}
  detections : Vector DetRecord 16 := Vector.replicate 16 {}
  gGroup : Nat := 0
  gEnd : Nat := 0
  codeLimit : Nat := 0
  heldStrike : Nat := 0
  strikeLength : Nat := 0
  offerHold : Nat := 0
  codes : Vector CodeEntry 16 := Vector.replicate 16 {}
  cancellation : Nat := 0
  switchable : Bool := false
  firstEnd : Nat := 0
  secondEnd : Nat := 0
  altNamed : Bool := false
  alternative : Alternative := {}
deriving DecidableEq, Repr

end Sys2Proof.Machine
end

