-- ==== Sys2Proof/Machine/State.lean ====
section
/-! DEFINITION. The state of the part as plain data, block by block as section 3 of the scope divides it, and
its value right after reset. A field marked "model's own" is not named by the spec; the assumption log says what
it is for. Numbers that the spec counts from 1 index the vectors from 0. -/

namespace Sys2Proof.Machine

/-! ### Reasons to stop -/

/-- Faults. The part has none: every event the spec describes leaves the part in a next state (a lever's FAULT
and LOCK_FAULT, and CONFIG_FAULT, are states of the part). No meaning raises a fault, which is safe. -/
inductive Fault
deriving DecidableEq, Repr

/-- Refusals. -/
inductive Refusal
  /-- Raised by an arm of `exec` for a command that has no meaning yet (none now). Safe: the run stops. -/
  | notModelled (mnemonic : String)
deriving DecidableEq, Repr

/-! ### Field inputs -/

/-- A debounced field input (R1 and the rules that follow its manner). `since` is the moment from which the
raw level has been held: its last raw change, or the end of reset. -/
structure Contact where
  raw : Bool := false
  value : Bool := false
  since : Time := 0
deriving DecidableEq, Repr

/-! ### Configuration loader (Chapter 10) -/

/-- Part states (R179). -/
inductive PartState
  | starting
  | running
  | switchedOut
  | configFault
deriving DecidableEq, Repr

/-- Fault codes (R183). -/
inductive FaultCode
  | noFault
  | noImage
  | imageMark
  | imageVersion
  | imageLength
  | imageCrc
  | imageStructure
  | headerIdentity
  | headerRate
  | blockEnd
  | blockPeerDuplicate
  | blockTimer
  | leverTransit
  | leverRole
  | leverStarterMissing
  | trackFeed
  | trackChannel
  | countHead
  | countSection
  | countEndMissing
  | countHeadShared
  | detectionEmpty
  | detectionChannel
  | detectionCount
  | tablePool
  | tableTerm
  | tableEntry
  | tableStarter
  | bellTiming
  | bellGap
  | bellCode
  | bellDuplicate
  | switchRecord
deriving DecidableEq, Repr

/-- Where the reading of the memory stands (R180). -/
inductive ReadPhase
  /-- No reading: before the end of reset, after a complete read, and in CONFIG_FAULT. -/
  | stopped
  /-- An attempt is under way and the header has not yet been read. -/
  | header
  /-- An attempt has read the header, and reading goes on to the image length. -/
  | body (header : List Byte)
  /-- An attempt has failed; the next begins at the moment held. -/
  | waiting (until_ : Time)
deriving DecidableEq, Repr

/-- The configuration loader's state (R178 to R183). -/
structure Loader where
  partState : PartState := .starting
  faultCode : FaultCode := .noFault
  faultSubject : Nat := 0
  phase : ReadPhase := .header
  failedAttempts : Nat := 0
  /-- The bytes read, held as the image until the next reset. -/
  image : List Byte := []
deriving DecidableEq, Repr

/-! ### Lever scanner (Chapter 1) -/

/-- Lever positions (R2). -/
inductive Position
  | transit
  | normal
  | reverse
  | fault
deriving DecidableEq, Repr

/-- Causes of a lever's FAULT (section 1.9). -/
inductive FaultCause
  | bothMade
  | transitLimit
deriving DecidableEq, Repr

/-- One lever's scanner state (R7). -/
structure Lever where
  n : Contact := {}
  r : Contact := {}
  position : Position := .transit
  /-- The start of the running transit timer; none when stopped. -/
  transitFrom : Option Time := none
  /-- The time of last normal in units of 10 ms since the end of reset, before the wrap of part time. -/
  lastNormal : Option Nat := none
  /-- The cause by which a lever in FAULT entered it (R4). -/
  faultCause : Option FaultCause := none
  /-- The TRANSIT hold value (R10); de-energised outside TRANSIT. -/
  hold : Bool := false
  /-- The lock output; true is energised. -/
  output : Bool := false
  /-- The raw readback contact; true is made. -/
  readback : Bool := false
  /-- The start of the running readback mismatch timer; none when stopped. -/
  mismatchFrom : Option Time := none
  lockFault : Bool := false
  /-- The decisions held from the evaluator on the two entries. -/
  decNormal : Bool := false
  decReverse : Bool := false
deriving DecidableEq, Repr

/-! ### Locking evaluator (Chapter 2) -/

/-- Releases (section 8.1). -/
inductive Release
  | none
  | unused
  | suspended
  | taken
  | spent
deriving DecidableEq, Repr

/-- Block end states (section 8.1). -/
inductive BlockState
  | normal
  | accepting
  | clearIn
  | clearOut
  | cancelling
  | occupiedIn
  | occupiedOut
  | obstructed
  | switching
  | inactive
  | recovering
deriving DecidableEq, Repr

/-- Count section states (R66). -/
inductive SectState
  | clear
  | occupied
  | disturbed
  | resetPrep
  | unknown
deriving DecidableEq, Repr

/-- The first-holding alternative of an entry (R19, R35). -/
inductive FirstHolding
  | noAlternatives
  | noneHolds
  | alternative (k : Nat)
deriving DecidableEq, Repr

/-- The evaluator's view (R25). A detection state is true when CLEAR. -/
structure View where
  position : Vector Position 32 := Vector.replicate 32 .transit
  lastNormal : Vector (Option Nat) 32 := Vector.replicate 32 Option.none
  detection : Vector Bool 16 := Vector.replicate 16 false
  release : Vector Release 3 := Vector.replicate 3 .none
  block : Vector BlockState 3 := Vector.replicate 3 .recovering
  count : Vector SectState 6 := Vector.replicate 6 .disturbed
deriving DecidableEq, Repr

/-- The elapsed mark and expiry of one term of the pool (R21); only LEVER_NORMAL_FOR terms use them. The expiry
is in units of 10 ms since the end of reset. -/
structure TermTimer where
  elapsed : Bool := false
  expiry : Option Nat := none
deriving DecidableEq, Repr

/-- The evaluator's decisions on one lever's entries. -/
structure Decision where
  normal : Bool := false
  reverse : Bool := false
  firstNormal : FirstHolding := .noneHolds
  firstReverse : FirstHolding := .noneHolds
deriving DecidableEq, Repr

/-- A decision handed to the lever scanner and not yet arrived (R14, R26). -/
structure Handed where
  lever : LeverNo
  entry : EntryKind
  holds : Bool
deriving DecidableEq, Repr

/-- The locking evaluator's state. -/
structure Evaluator where
  view : View := {}
  /-- One per term of the pool, in order of index. -/
  timers : List TermTimer := []
  decisions : Vector Decision 32 := Vector.replicate 32 {}
  /-- The decision on the switch-out alternative (R31). -/
  altDecision : Bool := false
  /-- Decisions on their way to the scanner, oldest first. -/
  handed : List Handed := []
deriving DecidableEq, Repr

/-! ### Track circuit unit (Chapter 3) -/

/-- One channel (R53). -/
structure Channel where
  /-- The sense input's value. -/
  sense : Sense := 0
  feed : Bool := false
  pendingOn : Option Nat := none
  lastOn : Nat := 0
  lastOff : Nat := 0
  lastD : Nat := 0
  f : Nat := 0
  count : Nat := 0
  /-- The end of the running minimum-occupied timer; none when expired or not started. -/
  minUntil : Option Time := none
  /-- The state; true is CLEAR, false is OCCUPIED. -/
  clear : Bool := false
  interference : Bool := false
  marginLow : Bool := false
deriving DecidableEq, Repr

/-- The feed timer (R36): the number of the current half-period and the moment it ends. -/
structure FeedTimer where
  number : Nat
  until_ : Time
deriving DecidableEq, Repr

/-- The track circuit unit. -/
structure Track where
  feedTimer : Option FeedTimer := none
  channels : Vector Channel 12 := Vector.replicate 12 {}
deriving DecidableEq, Repr

/-! ### Axle counting unit (Chapter 4) -/

/-- A head's pattern (R60). -/
inductive Pattern
  | none
  | a
  | ab
  | b
deriving DecidableEq, Repr

/-- A head's tracking state (R60), with what is held in PASSAGE. -/
inductive Tracking
  | idle
  | passage (entry : Side) (last : Pattern)
  | resync
deriving DecidableEq, Repr

/-- One axle counting head (R63). -/
structure Head where
  a : Contact := {}
  b : Contact := {}
  tracking : Tracking := .idle
  error : Bool := false
  up : Nat := 0
  down : Nat := 0
  errors : Nat := 0
deriving DecidableEq, Repr

/-- A count section's latch (R66). -/
inductive Latch
  | none
  | disturbed
  | resetPrep
deriving DecidableEq, Repr

/-- A pending request of the section's own (R74): the end of its window, and the number of its RESET_REQ
(model's own). -/
structure PendingRequest where
  until_ : Time
  seq : Nat
deriving DecidableEq, Repr

/-- One count section (R79). -/
structure Sect where
  key : Contact := {}
  localNet : Nat := 0
  remote : Option Nat := Option.none
  latch : Latch := .disturbed
  swept : Bool := false
  pairingCheck : Bool := false
  pending : Option PendingRequest := Option.none
  /-- The end of the window of the held request of the peer's. -/
  held : Option Time := Option.none
  /-- A confirmation outstanding, as the number of its RESET_CONFIRM (model's own). -/
  confirming : Option Nat := Option.none
deriving DecidableEq, Repr

/-! ### Detection combiner (Chapter 5) -/

/-- Lamp modes (R87). -/
inductive LampMode
  | dark
  | steady
  | flashing
deriving DecidableEq, Repr

/-- One detection section (R85, R87). -/
structure Detection where
  clear : Bool := false
  lamp : LampMode := .dark
deriving DecidableEq, Repr

/-- The part's flasher (R87): its current half and the moment it ends. -/
structure Flasher where
  lit : Bool
  until_ : Time
deriving DecidableEq, Repr

/-- The detection combiner (R90). -/
structure Combiner where
  channelClear : Vector Bool 12 := Vector.replicate 12 false
  interference : Vector Bool 12 := Vector.replicate 12 false
  count : Vector SectState 6 := Vector.replicate 6 .disturbed
  sects : Vector Detection 16 := Vector.replicate 16 {}
  flasher : Option Flasher := none
deriving DecidableEq, Repr

/-! ### Line controller (Chapter 6) -/

/-- Frame kinds (R97). -/
inductive FrameKind
  | status
  | accept
  | withdraw
  | cancel
  | tos
  | count
  | bellCode
  | beat
  | resetReq
  | resetConfirm
  | switchPropose
  | switchAgree
  | switchRefuse
  | switchCommit
  | switchAbandon
deriving DecidableEq, Repr

/-- The cause of a frame's last failed attempt (R103, R116). -/
inductive AttemptFailure
  | none
  | noAcknowledge
  | lineError
deriving DecidableEq, Repr

/-- A frame in a transmit slot (R107). `seq` numbers frames in the order they entered the slots: it is the age, and
it tells two frames of one kind and end apart. For STATUS and COUNT the destination and payload are those composed at
the last start. -/
structure Frame where
  kind : FrameKind
  e : EndNo
  dest : Nat
  payload : List Byte := []
  attempts : Nat := 0
  seq : Nat := 0
  onLine : Bool := false
  renewed : Bool := false
  failure : AttemptFailure := .none
deriving DecidableEq, Repr

/-- A frame as decoded from the line (R94). -/
structure RxFrame where
  cls : Nat
  sender : Nat
  kind : FrameKind
  dest : Nat
  senderEnd : Nat
  payload : List Byte
deriving DecidableEq, Repr

/-- Where the decoder stands (R93). -/
inductive DecoderPhase
  /-- No frame in progress. -/
  | noFrame
  /-- A frame in progress whose CRC characters have not yet been judged. -/
  | receiving
  /-- A frame in progress that was discarded at the acknowledge decision. -/
  | discarded
  /-- A frame in progress with good CRC and well formed. -/
  | sound (f : RxFrame)
deriving DecidableEq, Repr

/-- The supervision of one identity (R113): when it was last heard, and whether its timer is running. -/
structure Heard where
  last : Option Time := none
  running : Bool := false
deriving DecidableEq, Repr

/-- The frame being sent: its slot, its characters, the moment at which the start bit of its H0 began, the refresh timer to put back should
the contention be lost (model's own; R111 restarts it only for a start that is not lost), and whether the station's own decoder has broken
it off (R93; model's own). -/
structure Sending where
  slot : Fin 8
  chars : List Byte
  since : Time := 0
  refreshBefore : Option Time
  brokenOff : Bool := false
deriving DecidableEq, Repr

/-- The line controller (R115). -/
structure Line where
  slots : Vector (Option Frame) 8 := Vector.replicate 8 none
  /-- The number the next frame to enter a slot takes (model's own). -/
  nextSeq : Nat := 0
  sending : Option Sending := none
  owed : Vector Bool 3 := Vector.replicate 3 false
  /-- The end of each end's running refresh timer. -/
  refresh : Vector (Option Time) 3 := Vector.replicate 3 none
  /-- Last-heard timers by identity; index 0 is not used. -/
  heard : Vector Heard 16 := Vector.replicate 16 {}
  /-- The link of each end; true is UP. -/
  link : Vector Bool 3 := Vector.replicate 3 false
  decoder : DecoderPhase := .noFrame
  /-- The moment at which the start bit of H0 of the latest frame in progress began. -/
  frameFrom : Time := 0
  /-- The moment from which idle bit times are counted. -/
  idleFrom : Time := 0
  /-- Whether the part drives 0x96 in the acknowledge slot of the frame in progress. -/
  acknowledging : Bool := false
  /-- The end of the start listening period (R187). -/
  listenUntil : Option Time := none
  framesTaken : Nat := 0
  crcFailures : Nat := 0
  malformed : Nat := 0
  contentionLosses : Nat := 0
  lineErrors : Nat := 0
deriving DecidableEq, Repr

/-! ### Bell unit (Chapter 7) -/

/-- Parser states (section 7.3). -/
inductive Parser
  | idle
  | collecting
  | waitQuiet
deriving DecidableEq, Repr

/-- The quiet timer (R119). -/
inductive QuietTimer
  | expired
  | stopped
  | running (until_ : Time)
deriving DecidableEq, Repr

/-- Terminations of a code (R121). -/
inductive Termination
  | endGap
  | tooLong
  | tooMany
  | held
  | abandoned
deriving DecidableEq, Repr

/-- A code record (R123). The time is in units of 10 ms since the end of reset; `seq` is the number of the CODE frame
that carries an outbound record (model's own). -/
structure CodeRecord where
  groups : List Nat
  termination : Termination
  index : Option Nat
  time : Nat
  notSent : Bool := false
  seq : Option Nat := none
deriving DecidableEq, Repr

/-- An offer record (R129): the code index, the time in units of 10 ms since the end of reset, and the end of its
hold. -/
structure Offer where
  index : Nat
  time : Nat
  until_ : Time
deriving DecidableEq, Repr

/-- A beat in a playout queue (R131). -/
structure Beat where
  interval : Nat
  held : Bool
  /-- The part time of its taking, before the wrap. -/
  arrival : Nat
deriving DecidableEq, Repr

/-- The last strike played (R132). R132 does not say in what grain its start and its end are kept; they are kept to the quantum, so that the next
beat's aim is counted from the exact moment (DESIGN CHOICE, log entry 64). -/
structure Played where
  start : Time
  stop : Time
deriving DecidableEq, Repr

/-- The bell unit's state for one block end (R134). R134 gives no reset value to the first-strike and latest-strike times (0 here), nor by name to
the previous strike of R125 (none here) (DESIGN CHOICE, log entry 62). -/
structure Bell where
  tapper : Contact := {}
  /-- A strike has been taken and its release is awaited. -/
  down : Bool := false
  /-- The interval of a strike taken whose BEAT has not yet been queued. -/
  beat : Option Nat := none
  /-- The time of the last strike taken, in units of 10 ms since the end of reset. -/
  lastStrike : Option Nat := none
  parser : Parser := .idle
  groups : List Nat := []
  firstStrike : Nat := 0
  latestStrike : Nat := 0
  quiet : QuietTimer := .expired
  heldUntil : Option Time := none
  codeUntil : Option Time := none
  lastOut : Option CodeRecord := none
  lastIn : Option CodeRecord := none
  offer : Option Offer := none
  playout : List Beat := []
  lastPlayed : Option Played := none
  /-- The end of the strike under way; the bell coil is energised while it is some. -/
  strikeUntil : Option Time := none
deriving DecidableEq, Repr

/-! ### Block controller (Chapter 8) -/

/-- Reasons of refusal, which are also the values of the refusal mark (R161). -/
inductive Reason
  | notNormal
  | link
  | part
  | count
  | noOffer
  | noRepeat
  | overlap
  | slots
  | switching
  | starter
deriving DecidableEq, Repr

/-- A refusal mark and the end of its time (R144). -/
structure RefusalMark where
  reason : Reason
  until_ : Time
deriving DecidableEq, Repr

/-- The kinds of frame that may be outstanding (section 8.1). -/
inductive OutKind
  | accept
  | withdraw
  | cancel
  | tos
deriving DecidableEq, Repr

/-- The outstanding frame: its kind, and its number (model's own). -/
structure Outstanding where
  kind : OutKind
  seq : Nat
deriving DecidableEq, Repr

/-- One block end record (R160). The link is the line controller's. -/
structure BlockEnd where
  switch : Contact := {}
  tos : Contact := {}
  cancel : Contact := {}
  state : BlockState := .recovering
  release : Release := .none
  /-- The pairing; true is LONG, false is DIRECT. -/
  long : Bool := false
  refusal : Option RefusalMark := Option.none
  acceptUntil : Option Time := Option.none
  acceptDelivered : Bool := false
  cancelUntil : Option Time := Option.none
  outstanding : Option Outstanding := Option.none
  /-- The number of the ACCEPT of the end's own acceptance (model's own). -/
  acceptSeq : Option Nat := Option.none
  mismatch : Bool := false
  acceptedIndex : Option Nat := Option.none
deriving DecidableEq, Repr

/-! ### Switching controller (Chapter 9) -/

/-- The switch-out key's proved positions (R163). -/
inductive KeyPosition
  | keyIn
  | keyOut
deriving DecidableEq, Repr

/-- The states of the switching controller (R164). -/
inductive SwitchState
  | inUse
  | proposingOut
  | out
  | proposingIn
deriving DecidableEq, Repr

/-- The direction of an agreement (R164). -/
inductive Direction
  | out
  | into
deriving DecidableEq, Repr

/-- Commit marks (R164), with the number of the queued COMMIT (model's own). -/
inductive CommitMark
  | notQueued
  | queued (seq : Nat)
  | acknowledged
deriving DecidableEq, Repr

/-- The agreement record (R164); an answer is true when AGREED. -/
structure Agreement where
  direction : Direction
  until_ : Time
  agreed1 : Bool := false
  agreed2 : Bool := false
  commit1 : CommitMark := .notQueued
  commit2 : CommitMark := .notQueued
deriving DecidableEq, Repr

/-- A hold at a neighbour (R166). -/
structure Hold where
  direction : Direction
  proposer : Nat
  e : EndNo
  until_ : Time
deriving DecidableEq, Repr

/-- An entry of the overheard long section record (R172): the state as its code. -/
structure Overheard where
  state : Nat
  long : Bool
  net : Nat
  /-- The part time of the STATUS, before the wrap. -/
  time : Nat
deriving DecidableEq, Repr

/-- Reasons of the switching controller (R176). -/
inductive SwitchReason
  | notNormal
  | link
  | long
  | alternate
  | count
  | offer
  | busy
  | obstructed
  | alternative
  | longSection
  | notLong
  | part
  | slots
  /-- The reason byte of a received SWITCH_REFUSE, as it came. -/
  | given (n : Nat)
deriving DecidableEq, Repr

/-- Who a SWITCHING record concerns: one end with the other party's identity, or both designated ends. -/
inductive Concern
  | one (e : EndNo) (party : Nat)
  | both
deriving DecidableEq, Repr

/-- A failing judgement of the proposer's conditions, made within an event and acted on at its close (model's own;
none between events). -/
structure Failing where
  reason : SwitchReason
  concern : Concern
deriving DecidableEq, Repr

/-- The switching controller (R175). -/
structure Switching where
  keyIn : Contact := {}
  keyOut : Contact := {}
  proved : Option KeyPosition := none
  state : SwitchState := .inUse
  agreement : Option Agreement := none
  hold : Option Hold := none
  startWatch : Bool := false
  overheard1 : Option Overheard := none
  overheard2 : Option Overheard := none
  failing : Option Failing := none
deriving DecidableEq, Repr

/-! ### Maintenance port and event queue (Chapter 11) -/

/-- Event kinds (R193). -/
inductive EventKind
  | leverMoved
  | leverFault
  | lockFault
  | detectionChanged
  | trackInterference
  | trackMarginLow
  | headError
  | countStateChanged
  | countReset
  | blockStateChanged
  | acceptRefused
  | stateMismatch
  | codeSent
  | codeReceived
  | beatDropped
  | frameUndelivered
  | linkLost
  | linkRestored
  | duplicateIdentity
  | switching
  | partStarted
  | queueOverflow
deriving DecidableEq, Repr

/-- An event record (R193): the part time, the kind, and the bytes the raising chapter gives. -/
structure Event where
  time : Nat := 0
  kind : EventKind
  subject : Nat
  old : Nat
  new : Nat
  d1 : Nat := 0
  d2 : Nat := 0
  d3 : Nat := 0
  d4 : Nat := 0
deriving DecidableEq, Repr

/-- The snapshot condition (R191); BUSY holds the capture and the moment of its completion. -/
inductive SnapCondition
  | empty
  | busy (until_ : Time) (capture : Vector (List Byte) 10)
  | ready
deriving DecidableEq, Repr

/-- The transaction under way at the port (R190): what it returns next. -/
inductive Transaction
  /-- No command of a transaction has been taken. -/
  | idle
  /-- The status reply, with its error mark, whose first byte is due and has not yet been formed. -/
  | status (error : Nat)
  /-- The status reply or the bytes of an area from the start index; `State.returned` says what follows them. -/
  | reply (bytes : List Byte)
  /-- A TAKE: its 12 bytes, and whether a record is still to leave the queue at the twelfth. -/
  | take (bytes : List Byte) (removes : Bool)
deriving DecidableEq, Repr

/-- The maintenance port (R191, R195, R197). -/
structure Port where
  condition : SnapCondition := .empty
  /-- The ten areas of the snapshot store. An empty list stands for an area of zeros. -/
  store : Vector (List Byte) 10 := Vector.replicate 10 []
  /-- The event queue, oldest first. -/
  queue : List Event := []
  /-- The moment of the last arrival that was discarded and counted in the overflow record (model's own, for R196). -/
  discardAt : Option Time := none
  transaction : Transaction := .idle
deriving DecidableEq, Repr

/-! ### The whole -/

/-- The state of the part, with the commands that wait. -/
structure State where
  /-- Quanta of 1/48000 s since the end of reset. -/
  now : Time := 0
  /-- Whether reset is applied (R178). -/
  underReset : Bool := false
  loader : Loader := {}
  /-- The image handed to the blocks at the entry into RUNNING. -/
  cfg : Image := {}
  levers : Vector Lever 32 := Vector.replicate 32 {}
  evaluator : Evaluator := {}
  track : Track := {}
  heads : Vector Head 4 := Vector.replicate 4 {}
  sects : Vector Sect 6 := Vector.replicate 6 {}
  combiner : Combiner := {}
  line : Line := {}
  bells : Vector Bell 3 := Vector.replicate 3 {}
  blocks : Vector BlockEnd 3 := Vector.replicate 3 {}
  switching : Switching := {}
  port : Port := {}
  /-- How many free values have been used (model's own). -/
  freeCount : Nat := 0
  /-- The commands that wait, first in, first out. -/
  pending : List Instr := []
deriving DecidableEq, Repr

/-- The machine right after reset (R178): the end of reset, with the part STARTING, part time 0 and the first read
attempt begun. Every field holds the value its owner's rule gives for reset. -/
def State.reset : State := {}

end Sys2Proof.Machine
end

