-- ==== Sys2Proof/Machine/Ops.lean ====
section
/-! DEFINITION. The operations every block shares: time, the named updates of State, debounced inputs, what the
configuration says, the event queue and the CRC. -/

namespace Sys2Proof.Machine

/-! ### Time (R178, section 5.5)

One quantum is 1/48000 s, the coarsest grain in which the bit times of R92, the 2 ms of R59 and every other period
of the spec are whole numbers. -/

/-- A period of `n` milliseconds, in quanta. -/
def ms (n : Nat) : Time := 48 * n

/-- A period of `n` units of 10 ms, in quanta. -/
def units (n : Nat) : Time := 480 * n

/-- A period of `n` seconds, in quanta. -/
def secs (n : Nat) : Time := 48000 * n

/-- A moment in whole units of 10 ms since the end of reset, before the wrap of part time. -/
def unitsAt (t : Time) : Nat := t / 480

/-- A count of units of 10 ms as a 32-bit part time (R178). -/
def wrap32 (n : Nat) : Nat := n % 4294967296

/-- Part time (R178). -/
def State.partTime (s : State) : Nat := wrap32 (unitsAt s.now)

/-- The time that remains to a moment, in whole units of 10 ms, 0 once it has come. -/
def remaining (now until_ : Time) : Nat := (until_ - now + 479) / 480

/-- Whether a timer that is running has come to its end. -/
def expired (now : Time) : Option Time → Bool
  | some t => decide (t ≤ now)
  | none => false

/-! ### Vectors and numbers -/

/-- Replaces the item at `i` by its image under `f`. -/
def upd {α : Type} {n : Nat} (v : Vector α n) (i : Fin n) (f : α → α) : Vector α n := v.set i (f v[i])

/-- The item numbered `k`, counting from 1, where there is one. -/
def item {α : Type} {n : Nat} (v : Vector α n) (k : Nat) : Option α :=
  if h : 1 ≤ k ∧ k ≤ n then some (v[k - 1]'(by omega)) else none

/-- The item numbered `k`, counting from 0, where there is one. -/
def item0 {α : Type} {n : Nat} (v : Vector α n) (k : Nat) : Option α :=
  if h : k < n then some v[k] else none

/-- The Boolean as 0 or 1. -/
def bit (b : Bool) : Nat := if b then 1 else 0

/-- The high byte of a two-byte quantity (R194). -/
def hi (n : Nat) : Nat := n / 256 % 256

/-- The low byte of a two-byte quantity (R194). -/
def lo (n : Nat) : Nat := n % 256

/-- A number as a byte. -/
def byte (n : Nat) : Byte := BitVec.ofNat 8 n

/-- A number in two bytes, high byte first. -/
def bytes2 (n : Nat) : List Byte := [byte (hi n), byte (lo n)]

/-- A number in four bytes, high byte first. -/
def bytes4 (n : Nat) : List Byte := [byte (n / 16777216), byte (n / 65536), byte (n / 256), byte n]

/-! ### The named updates of State, one per field that commands change -/

def State.modLoader (s : State) (f : Loader → Loader) : State := { s with loader := f s.loader }
def State.modLever (s : State) (i : LeverNo) (f : Lever → Lever) : State := { s with levers := upd s.levers i f }
def State.modEvaluator (s : State) (f : Evaluator → Evaluator) : State := { s with evaluator := f s.evaluator }
def State.modTrack (s : State) (f : Track → Track) : State := { s with track := f s.track }
def State.modHead (s : State) (h : HeadNo) (f : Head → Head) : State := { s with heads := upd s.heads h f }
def State.modSect (s : State) (c : SectNo) (f : Sect → Sect) : State := { s with sects := upd s.sects c f }
def State.modCombiner (s : State) (f : Combiner → Combiner) : State := { s with combiner := f s.combiner }
def State.modLine (s : State) (f : Line → Line) : State := { s with line := f s.line }
def State.modBell (s : State) (e : EndNo) (f : Bell → Bell) : State := { s with bells := upd s.bells e f }
def State.modBlock (s : State) (e : EndNo) (f : BlockEnd → BlockEnd) : State := { s with blocks := upd s.blocks e f }
def State.modSwitching (s : State) (f : Switching → Switching) : State := { s with switching := f s.switching }
def State.modPort (s : State) (f : Port → Port) : State := { s with port := f s.port }

/-! ### Part state (R179) -/

/-- Whether the part state is RUNNING or SWITCHED_OUT, in which the blocks act. -/
def PartState.active : PartState → Bool
  | .running => true
  | .switchedOut => true
  | .starting => false
  | .configFault => false

/-- Whether the part is out of reset and RUNNING or SWITCHED_OUT. -/
def State.active (s : State) : Bool := !s.underReset && s.loader.partState.active

/-- Whether the part is out of reset and RUNNING. -/
def State.isRunning (s : State) : Bool := !s.underReset && decide (s.loader.partState = .running)

/-! ### Debounced inputs (R1, R59, R71, R118, R137, R163) -/

/-- The raw contact takes a level: a change begins the count afresh at `now`. -/
def Contact.takeRaw (now : Time) (level : Bool) (c : Contact) : Contact :=
  if c.raw = level then c else { c with raw := level, since := now }

/-- Whether the raw level differs from the debounced value and has been held for the debounce period. -/
def Contact.due (period now : Time) (c : Contact) : Bool :=
  c.raw != c.value && decide (c.since + period ≤ now)

/-- The change event, where it has come: the debounced value takes the raw level. -/
def Contact.settle (period now : Time) (c : Contact) : Contact :=
  if c.due period now then { c with value := c.raw } else c

/-- A contact that the configuration takes out of use: its debounced value is set open. -/
def Contact.disuse (c : Contact) : Contact := { c with value := false }

/-- What a contact keeps through reset: its raw level, which is outside the part. Its debounced value is open, and the
count begins at the end of reset. -/
def Contact.reset (c : Contact) : Contact := { raw := c.raw, value := false, since := 0 }

/-- Debounce of a lever's proving contact (R1), a reset key (R71), a block instrument (R137), the switch-out key (R163). -/
def debounce50 : Time := ms 50

/-- Debounce of a wheel sensor (R59). -/
def debounce2 : Time := ms 2

/-- Debounce of a tapper (R118). -/
def debounce20 : Time := ms 20

/-! ### What the configuration says -/

/-- Whether a lever's role is SPARE (R6). Before the entry into RUNNING no lever is. -/
def State.spare (s : State) (i : LeverNo) : Bool := decide (s.cfg.roles[i] = .spare)

/-- Whether a head is fitted (R82). -/
def State.fitted (s : State) (h : HeadNo) : Bool := decide (s.cfg.fitted[h] = 1)

/-- Whether a block end is configured. -/
def State.endConfigured (s : State) (e : EndNo) : Bool := s.cfg.ends[e].configured

/-- Whether the inputs of an object are debounced: every one until the entry into RUNNING, and after it those of
the objects in use (R1, R59, R118, R137). -/
def State.inUse (s : State) (configured : Bool) : Bool :=
  !s.underReset && (!s.cfg.validated || configured)

/-- The identity of an end's current peer (R105). -/
def State.peerId (s : State) (e : EndNo) : Nat :=
  if s.blocks[e].long then s.cfg.ends[e].altId else s.cfg.ends[e].directId

/-- The end number of an end's current peer (R105). -/
def State.peerEnd (s : State) (e : EndNo) : Nat :=
  if s.blocks[e].long then s.cfg.ends[e].altEnd else s.cfg.ends[e].directEnd

/-- The block ends in ascending order. -/
def ends : List EndNo := [0, 1, 2]

/-- The BLOCK count section of an end, where it has one (R64, R82). -/
def State.sectOf (s : State) (e : EndNo) : Option SectNo :=
  (List.finRange 6).find? fun c =>
    s.cfg.sects[c].configured && decide (s.cfg.sects[c].type = .block) && decide (s.cfg.sects[c].blockEnd = e.val)

/-- The lever that is the STARTER of an end (R6, R185). -/
def State.starterOf (s : State) (e : EndNo) : Option LeverNo :=
  (List.finRange 32).find? fun i => decide (s.cfg.roles[i] = .starter e.val)

/-- One bit time of the line, in quanta (R92). -/
def State.bitTime (s : State) : Time := if s.cfg.rate = 2 then 5 else 10

/-- The transit limit (R3): 0 selects 10 s. -/
def State.transitLimit (s : State) : Time := secs (if s.cfg.transitLimit = 0 then 10 else s.cfg.transitLimit)

/-- The half-period in units of 10 ms (R36): 0 selects 20. -/
def Image.halfUnits (g : Image) : Nat := if g.halfPeriod = 0 then 20 else g.halfPeriod

/-- A channel's pick-up persistence P (R39): 0 selects 5. -/
def ChannelRecord.p (r : ChannelRecord) : Nat := if r.persistence = 0 then 5 else r.persistence

/-- A channel's minimum occupied time (R39), image units of 100 ms: 255 selects 3.0 s. -/
def ChannelRecord.minTime (r : ChannelRecord) : Time :=
  ms (100 * (if r.minOccupied = 255 then 30 else r.minOccupied))

/-- G_group in units of 10 ms (R136). -/
def Image.gGroupUnits (g : Image) : Nat := if g.gGroup = 0 then 60 else g.gGroup

/-- G_end in units of 10 ms (R136). -/
def Image.gEndUnits (g : Image) : Nat := if g.gEnd = 0 then 200 else g.gEnd

/-- The code time limit in seconds (R136). -/
def Image.codeLimitSecs (g : Image) : Nat := if g.codeLimit = 0 then 12 else g.codeLimit

/-- The held-strike time in units of 10 ms (R136). -/
def Image.heldStrikeUnits (g : Image) : Nat := if g.heldStrike = 0 then 100 else g.heldStrike

/-- The strike length in units of 10 ms (R136). -/
def Image.strikeUnits (g : Image) : Nat := if g.strikeLength = 0 then 8 else g.strikeLength

/-- The offer hold in seconds (R136). -/
def Image.offerHoldSecs (g : Image) : Nat := if g.offerHold = 0 then 180 else g.offerHold

/-- The cancellation time in seconds (R162). -/
def Image.cancellationSecs (g : Image) : Nat := if g.cancellation = 0 then 120 else g.cancellation

/-- A designated end as an end number (R163); validation keeps it from 0 to 2 (R177). -/
def endOf (n : Nat) : EndNo := Fin.ofNat 3 n

/-- The first designated end. -/
def State.first (s : State) : EndNo := endOf s.cfg.firstEnd

/-- The second designated end. -/
def State.second (s : State) : EndNo := endOf s.cfg.secondEnd

/-- An identity as the index of its last-heard timer. -/
def identityIndex (id : Nat) : Fin 16 := Fin.ofNat 16 id

/-! ### The event queue (R195) -/

/-- The code of an event kind (R193). -/
def EventKind.code : EventKind → Nat
  | .leverMoved => 1
  | .leverFault => 2
  | .lockFault => 3
  | .detectionChanged => 4
  | .trackInterference => 5
  | .trackMarginLow => 6
  | .headError => 7
  | .countStateChanged => 8
  | .countReset => 9
  | .blockStateChanged => 10
  | .acceptRefused => 11
  | .stateMismatch => 12
  | .codeSent => 13
  | .codeReceived => 14
  | .beatDropped => 15
  | .frameUndelivered => 16
  | .linkLost => 17
  | .linkRestored => 18
  | .duplicateIdentity => 19
  | .switching => 20
  | .partStarted => 21
  | .queueOverflow => 22

/-- The discard count of an overflow record, in its detail bytes 3 and 4. -/
def Event.discards (r : Event) : Nat := r.d3 * 256 + r.d4

/-- One more record discarded: the count stops at 65535. -/
def Event.discardOne (r : Event) : Event :=
  { r with d3 := min 65535 (r.discards + 1) / 256, d4 := min 65535 (r.discards + 1) % 256 }

/-- The overflow record that stands for a record arriving at 63 held (R195). -/
def Event.asOverflow (r : Event) : Event :=
  { r with kind := .queueOverflow, d1 := r.kind.code, d2 := 0, d3 := 0, d4 := 0 }

/-- A record arrives at the queue (R195). -/
def arrive (r : Event) (q : List Event) : List Event :=
  match q.getLast? with
  | some l =>
    if l.kind = .queueOverflow then q.dropLast ++ [l.discardOne]
    else if 63 ≤ q.length then q ++ [r.asOverflow]
    else q ++ [r]
  | none => [r]

/-- Whether a queue's last record is QUEUE_OVERFLOW, so that an arrival is discarded and counted (R195). -/
def overflowing (q : List Event) : Bool := q.getLast?.any fun r => decide (r.kind = .queueOverflow)

/-- A block appends an event with the part time of the event (R195). -/
def State.append (s : State) (r : Event) : State :=
  s.modPort fun p =>
    { p with
      queue := arrive { r with time := s.partTime } p.queue
      discardAt := if overflowing p.queue then some s.now else p.discardAt }

/-! ### The CRC (R96, R182) -/

/-- One bit of the CRC register with polynomial x^16 + x^12 + x^5 + 1. -/
def crcShift (r : BitVec 16) : BitVec 16 :=
  if r.msb then (r <<< 1) ^^^ 0x1021#16 else r <<< 1

/-- One byte taken into the CRC register, most significant bit first. -/
def crcByte (r : BitVec 16) (b : Byte) : BitVec 16 :=
  crcShift (crcShift (crcShift (crcShift (crcShift (crcShift (crcShift (crcShift
    (r ^^^ (b.setWidth 16 <<< 8)))))))))

/-- The CRC over a run of bytes: the register starts at all ones and the result is not inverted. -/
def crc16 (l : List Byte) : BitVec 16 := l.foldl crcByte 0xFFFF#16

end Sys2Proof.Machine
end

