-- ==== Sys2Proof/WellFormed.lean ====
section
/-! DEFINITION. What a command must satisfy to be one the spec describes. The operand types already bound
every number of a lever, channel, head, section, end and sense value; the checks here are the rest. -/

namespace Sys2Proof

/-- The payload length that the third header character carries (R94): its bits 2 to 4, most significant
bit lowest. -/
def headerPayloadLength (h2 : Byte) : Nat :=
  (h2.toNat / 4 % 2) * 4 + (h2.toNat / 8 % 2) * 2 + h2.toNat / 16 % 2

/-- A command is well formed when its operands are ones the spec's event can carry. -/
def Instr.wellFormed : Instr → Bool
  -- R182: an image of 30 to 4096 bytes, less the 8 of the header.
  | .imageReadComplete rest => decide (22 ≤ rest.length ∧ rest.length ≤ 4088)
  -- R17: pool indices run from 0 to 511.
  | .normalForExpiry term => decide (term < 512)
  -- R93: three header characters, 0 to 6 of payload as H2 gives, two of CRC.
  | .acknowledgeDecision chars =>
    match chars with
    | _ :: _ :: h2 :: rest =>
      decide (headerPayloadLength h2 ≤ 6 ∧ rest.length = headerPayloadLength h2 + 2)
    | _ => false
  -- R113: the line controller supervises identities 1 to 15.
  | .lastHeardExpiry identity => decide (identity ≠ 0)
  -- R190: a command code other than the four in the table.
  | .unknownCommand code => decide (code.toNat = 0 ∨ 4 < code.toNat)
  | _ => true

end Sys2Proof
end

