-- ==== Sys2Proof/Machine/Operands.lean ====
section
/-! DEFINITION. The coded values of the spec: what each state, kind and reason is as a number in frames, event
records, the snapshot and the image, and the frame header and CRC of the block line. -/

namespace Sys2Proof.Machine

/-! ### Codes in records and the snapshot -/

/-- Part states (R179). -/
def PartState.code : PartState → Nat
  | .starting => 0
  | .running => 1
  | .switchedOut => 2
  | .configFault => 3

/-- Fault codes (R183). -/
def FaultCode.code : FaultCode → Nat
  | .noFault => 0
  | .noImage => 1
  | .imageMark => 2
  | .imageVersion => 3
  | .imageLength => 4
  | .imageCrc => 5
  | .imageStructure => 6
  | .headerIdentity => 7
  | .headerRate => 8
  | .blockEnd => 9
  | .blockPeerDuplicate => 10
  | .blockTimer => 11
  | .leverTransit => 12
  | .leverRole => 13
  | .leverStarterMissing => 14
  | .trackFeed => 15
  | .trackChannel => 16
  | .countHead => 17
  | .countSection => 18
  | .countEndMissing => 19
  | .countHeadShared => 20
  | .detectionEmpty => 21
  | .detectionChannel => 22
  | .detectionCount => 23
  | .tablePool => 24
  | .tableTerm => 25
  | .tableEntry => 26
  | .tableStarter => 27
  | .bellTiming => 28
  | .bellGap => 29
  | .bellCode => 30
  | .bellDuplicate => 31
  | .switchRecord => 32

/-- Lever positions (section 1.9). -/
def Position.code : Position → Nat
  | .transit => 0
  | .normal => 1
  | .reverse => 2
  | .fault => 3

/-- Causes of a lever's FAULT (section 1.9). -/
def FaultCause.code : FaultCause → Nat
  | .bothMade => 1
  | .transitLimit => 2

/-- Roles (section 1.9, R181). -/
def Role.code : Role → Nat
  | .ordinary => 0
  | .starter _ => 1
  | .spare => 2
  | .other c => c

/-- First-holding alternatives (R35). -/
def FirstHolding.code : FirstHolding → Nat
  | .noAlternatives => 3
  | .noneHolds => 255
  | .alternative k => k

/-- Patterns (R80). -/
def Pattern.code : Pattern → Nat
  | .none => 0
  | .a => 1
  | .ab => 2
  | .b => 3

/-- Entry sides (R80). -/
def Side.code : Side → Nat
  | .a => 1
  | .b => 2

/-- Tracking states (R81). -/
def Tracking.code : Tracking → Nat
  | .idle => 0
  | .passage _ _ => 1
  | .resync => 2

/-- Count section states (R80, R98). -/
def SectState.code : SectState → Nat
  | .clear => 0
  | .occupied => 1
  | .disturbed => 2
  | .resetPrep => 3
  | .unknown => 4

/-- Count section types (R81). -/
def SectType.code : SectType → Nat
  | .localSect => 0
  | .block => 1
  | .other c => c

/-- A net that may be absent (R80). -/
def netCode : Option Nat → Nat
  | some n => n
  | none => 65535

/-- Lamp modes (R89). -/
def LampMode.code : LampMode → Nat
  | .dark => 0
  | .steady => 1
  | .flashing => 2

/-- Block end states (R98). -/
def BlockState.code : BlockState → Nat
  | .normal => 0
  | .accepting => 1
  | .clearIn => 2
  | .clearOut => 3
  | .cancelling => 4
  | .occupiedIn => 5
  | .occupiedOut => 6
  | .obstructed => 7
  | .switching => 8
  | .inactive => 9
  | .recovering => 10

/-- The block end state of a code, where the table of R98 has it. -/
def BlockState.ofCode : Nat → Option BlockState
  | 0 => some .normal
  | 1 => some .accepting
  | 2 => some .clearIn
  | 3 => some .clearOut
  | 4 => some .cancelling
  | 5 => some .occupiedIn
  | 6 => some .occupiedOut
  | 7 => some .obstructed
  | 8 => some .switching
  | 9 => some .inactive
  | 10 => some .recovering
  | _ => none

/-- Releases (R98). -/
def Release.code : Release → Nat
  | .none => 0
  | .unused => 1
  | .suspended => 2
  | .taken => 3
  | .spent => 4

/-- The release of a code, where the table of R98 has it. -/
def Release.ofCode : Nat → Option Release
  | 0 => some .none
  | 1 => some .unused
  | 2 => some .suspended
  | 3 => some .taken
  | 4 => some .spent
  | _ => Option.none

/-- Reasons of refusal (R161). -/
def Reason.code : Reason → Nat
  | .notNormal => 1
  | .link => 2
  | .part => 3
  | .count => 4
  | .noOffer => 5
  | .noRepeat => 6
  | .overlap => 7
  | .slots => 8
  | .switching => 9
  | .starter => 10

/-- Causes of a BLOCK_STATE_CHANGED record (R161). -/
inductive Cause
  | blockSwitch
  | acceptTaken
  | peerClearOut
  | peerRefused
  | acceptExpired
  | acceptUndelivered
  | crossed
  | starter
  | withdrawTaken
  | trainEntry
  | tosPlunger
  | tosTaken
  | cancelPlunger
  | cancelExpired
  | cancelTaken
  | obstruction
  | obstructionRemoved
  | link
  | reconciled
  | recovered
  | switching
deriving DecidableEq, Repr

/-- The codes of the causes (R161). -/
def Cause.code : Cause → Nat
  | .blockSwitch => 1
  | .acceptTaken => 2
  | .peerClearOut => 3
  | .peerRefused => 4
  | .acceptExpired => 5
  | .acceptUndelivered => 6
  | .crossed => 7
  | .starter => 8
  | .withdrawTaken => 9
  | .trainEntry => 10
  | .tosPlunger => 11
  | .tosTaken => 12
  | .cancelPlunger => 13
  | .cancelExpired => 14
  | .cancelTaken => 15
  | .obstruction => 16
  | .obstructionRemoved => 17
  | .link => 18
  | .reconciled => 19
  | .recovered => 20
  | .switching => 21

/-- Refused operations (R161). -/
inductive RefusedOp
  | cancelTaken
  | tosCount
  | tosSlots
  | withdrawSlots
  | withdrawTaken
deriving DecidableEq, Repr

/-- The codes of the refused operations (R161). -/
def RefusedOp.code : RefusedOp → Nat
  | .cancelTaken => 1
  | .tosCount => 2
  | .tosSlots => 3
  | .withdrawSlots => 4
  | .withdrawTaken => 5

/-- Outcomes of a COUNT_RESET record (R80). -/
inductive ResetOutcome
  | localReset
  | requested
  | confirmed
  | crossed
  | completed
  | expired
  | linkLost
  | pairingChanged
  | requestUndelivered
  | confirmUndelivered
  | refusedClear
  | refusedLink
  | refusedBlockState
  | refusedSlots
deriving DecidableEq, Repr

/-- The codes of the outcomes (R80). -/
def ResetOutcome.code : ResetOutcome → Nat
  | .localReset => 1
  | .requested => 2
  | .confirmed => 3
  | .crossed => 4
  | .completed => 5
  | .expired => 6
  | .linkLost => 7
  | .pairingChanged => 8
  | .requestUndelivered => 9
  | .confirmUndelivered => 10
  | .refusedClear => 11
  | .refusedLink => 12
  | .refusedBlockState => 13
  | .refusedSlots => 14

/-- Terminations (R98). -/
def Termination.code : Termination → Nat
  | .endGap => 1
  | .tooLong => 2
  | .tooMany => 3
  | .held => 4
  | .abandoned => 5

/-- The termination of a code, where R98 has it. -/
def Termination.ofCode : Nat → Option Termination
  | 1 => some .endGap
  | 2 => some .tooLong
  | 3 => some .tooMany
  | 4 => some .held
  | 5 => some .abandoned
  | _ => none

/-- Classes of bell codes (R135). -/
def CodeClass.code : CodeClass → Nat
  | .offer => 1
  | .cancelOffer => 2
  | .obstruction => 3
  | .obstructionRemoved => 4
  | .attention => 5
  | .entering => 6
  | .inform => 7
  | .other c => c

/-- The class of a code of R135. -/
def CodeClass.ofCode : Nat → CodeClass
  | 1 => .offer
  | 2 => .cancelOffer
  | 3 => .obstruction
  | 4 => .obstructionRemoved
  | 5 => .attention
  | 6 => .entering
  | 7 => .inform
  | c => .other c

/-- Parser states (section 7.11). -/
def Parser.code : Parser → Nat
  | .idle => 0
  | .collecting => 1
  | .waitQuiet => 2

/-- Directions of switching (R98, R176). -/
def Direction.code : Direction → Nat
  | .out => 1
  | .into => 2

/-- The direction of a code, where R98 has it. -/
def Direction.ofCode : Nat → Option Direction
  | 1 => some .out
  | 2 => some .into
  | _ => none

/-- Controller states (R176). -/
def SwitchState.code : SwitchState → Nat
  | .inUse => 0
  | .proposingOut => 1
  | .out => 2
  | .proposingIn => 3

/-- Reasons of the switching controller (R176). -/
def SwitchReason.code : SwitchReason → Nat
  | .notNormal => 1
  | .link => 2
  | .long => 3
  | .alternate => 4
  | .count => 5
  | .offer => 6
  | .busy => 7
  | .obstructed => 8
  | .alternative => 9
  | .longSection => 10
  | .notLong => 11
  | .part => 12
  | .slots => 13
  | .given n => n

/-- Outcomes of a SWITCHING record (R176). -/
inductive SwitchOutcome
  | proposed
  | refusedLocally
  | abandoned
  | switchedOut
  | switchedIn
  | resumed
  | outAtStart
  | agreed
  | refused
  | committed
  | holdEnded
  | commitDisregarded
  | reverted
  | longAtStart
  | agreeUnsolicited
deriving DecidableEq, Repr

/-- The codes of the outcomes (R176). -/
def SwitchOutcome.code : SwitchOutcome → Nat
  | .proposed => 1
  | .refusedLocally => 2
  | .abandoned => 3
  | .switchedOut => 4
  | .switchedIn => 5
  | .resumed => 6
  | .outAtStart => 7
  | .agreed => 8
  | .refused => 9
  | .committed => 10
  | .holdEnded => 11
  | .commitDisregarded => 12
  | .reverted => 13
  | .longAtStart => 14
  | .agreeUnsolicited => 15

/-- Causes of a SWITCHING record (R176). -/
inductive SwitchCause
  | refused
  | limit
  | conditions
  | commitUndelivered
  | key
  | slots
  | abandon
  | expired
  | farDirect
  | noneStands
deriving DecidableEq, Repr

/-- The codes of the causes (R176). -/
def SwitchCause.code : SwitchCause → Nat
  | .refused => 1
  | .limit => 2
  | .conditions => 3
  | .commitUndelivered => 4
  | .key => 5
  | .slots => 6
  | .abandon => 7
  | .expired => 8
  | .farDirect => 9
  | .noneStands => 10

/-! ### Frames (section 6.2, section 6.3) -/

/-- The code of a frame kind (R97). -/
def FrameKind.code : FrameKind → Nat
  | .status => 1
  | .accept => 2
  | .withdraw => 3
  | .cancel => 4
  | .tos => 5
  | .count => 6
  | .bellCode => 7
  | .beat => 8
  | .resetReq => 9
  | .resetConfirm => 10
  | .switchPropose => 11
  | .switchAgree => 12
  | .switchRefuse => 13
  | .switchCommit => 14
  | .switchAbandon => 15

/-- The frame kind of a code (R97). -/
def FrameKind.ofCode : Nat → Option FrameKind
  | 1 => some .status
  | 2 => some .accept
  | 3 => some .withdraw
  | 4 => some .cancel
  | 5 => some .tos
  | 6 => some .count
  | 7 => some .bellCode
  | 8 => some .beat
  | 9 => some .resetReq
  | 10 => some .resetConfirm
  | 11 => some .switchPropose
  | 12 => some .switchAgree
  | 13 => some .switchRefuse
  | 14 => some .switchCommit
  | 15 => some .switchAbandon
  | _ => none

/-- The class of a frame kind, 0 most urgent (R97). -/
def FrameKind.cls : FrameKind → Nat
  | .status => 3
  | .count => 1
  | .bellCode => 2
  | .beat => 2
  | .resetReq => 1
  | .resetConfirm => 1
  | .accept | .withdraw | .cancel | .tos => 0
  | .switchPropose | .switchAgree | .switchRefuse | .switchCommit | .switchAbandon => 0

/-- The payload length of a frame kind (R97). -/
def FrameKind.length : FrameKind → Nat
  | .status => 6
  | .accept => 1
  | .withdraw => 0
  | .cancel => 0
  | .tos => 2
  | .count => 2
  | .bellCode => 6
  | .beat => 2
  | .resetReq => 0
  | .resetConfirm => 0
  | .switchPropose => 5
  | .switchAgree => 1
  | .switchRefuse => 2
  | .switchCommit => 5
  | .switchAbandon => 1

/-- Whether the destination and payload are composed at each start (R98). -/
def FrameKind.composed : FrameKind → Bool
  | .status => true
  | .count => true
  | _ => false

/-- A two-bit field with its most significant bit lowest (R94); the same map in both directions. -/
def rev2 (v : Nat) : Nat := (v % 2) * 2 + v / 2 % 2

/-- A three-bit field with its most significant bit lowest (R94). -/
def rev3 (v : Nat) : Nat := (v % 2) * 4 + (v / 2 % 2) * 2 + v / 4 % 2

/-- A four-bit field with its most significant bit lowest (R94). -/
def rev4 (v : Nat) : Nat := (v % 2) * 8 + (v / 2 % 2) * 4 + (v / 4 % 2) * 2 + v / 8 % 2

/-- The header and payload characters of a frame (R94). -/
def RxFrame.body (f : RxFrame) : List Byte :=
  byte (rev2 f.cls + 4 * rev4 f.sender) :: byte (rev4 f.kind.code + 16 * rev4 f.dest)
    :: byte (rev2 f.senderEnd + 4 * rev3 f.payload.length) :: f.payload

/-- The characters of a frame up to its CRC, the high eight bits of the check first (R93, R96). -/
def RxFrame.chars (f : RxFrame) : List Byte :=
  f.body ++ bytes2 (crc16 f.body).toNat

/-! ### The levels of a character (R92) -/

/-- A level of the block line. A driven level prevails over an idle one. -/
inductive LineLevel
  | driven
  | idle
deriving DecidableEq, Repr

/-- The level a data bit is sent as (R92). -/
def bitLevel (b : Bool) : LineLevel := if b then .idle else .driven

/-- The levels a character is sent as, one a bit time: the start bit, the eight data bits least significant first, the stop bit (R92). -/
def charLevels (c : Byte) : List LineLevel := .driven :: ((List.range 8).map fun k => bitLevel (c.getLsbD k)) ++ [.idle]

/-- The levels characters are sent as, one a bit time, with no idle time between them (R92). -/
def charsLevels (chars : List Byte) : List LineLevel := chars.flatMap charLevels

/-- What a receiver reads in the ten bit times of a character that is due. -/
inductive CharRead
  /-- The line was idle at the middle of the start bit. -/
  | noStart
  /-- The stop bit was sampled driven. -/
  | framingError
  | char (c : Byte)
deriving DecidableEq, Repr

/-- The character in ten samples of the line, each taken at the middle of its bit time (R92). -/
def readChar (samples : List LineLevel) : CharRead :=
  if samples.getD 0 .idle = .idle then .noStart
  else if samples.getD 9 .idle = .driven then .framingError
  else .char (byte (((List.range 8).map fun k => if samples.getD (k + 1) .idle = .idle then 2 ^ k else 0).sum))

/-- The next characters of a frame in samples of the line; none where one of them breaks the frame off (R93). -/
def readChars : Nat → List LineLevel → Option (List Byte)
  | 0, _ => some []
  | n + 1, samples =>
    match readChar samples with
    | .char c => (readChars n (samples.drop 10)).map (c :: ·)
    | .noStart | .framingError => none

/-- The characters up to the CRC that a decoder finds in the samples of the line from the start bit of H0; none where it breaks the frame
off: at a framing error, at an idle start bit of a character that is due, or at a payload length above 6 (R93). -/
def readFrameChars (samples : List LineLevel) : Option (List Byte) :=
  match readChars 3 samples with
  | some [_, _, h2] => if headerPayloadLength h2 ≤ 6 then readChars (headerPayloadLength h2 + 5) samples else none
  | _ => none

/-- The character that a decoder reads in ten samples of the acknowledge slot, where there is one with a sound stop bit (R93). -/
def readAcknowledge (samples : List LineLevel) : Option Byte :=
  match readChar samples with
  | .char c => some c
  | .noStart | .framingError => none

/-- What the receiver makes of the characters up to the CRC. -/
inductive Verdict
  /-- The characters are not a frame's: no event of the line (see `Instr.wellFormed`). -/
  | notAFrame
  | badCrc
  | malformed
  | sound (f : RxFrame)
deriving DecidableEq, Repr

/-- The judgement of a received frame (R95, R96): the CRC first, then the form. -/
def judgeChars (chars : List Byte) : Verdict :=
  match chars with
  | h0 :: h1 :: h2 :: rest =>
    if rest.length = headerPayloadLength h2 + 2 ∧ headerPayloadLength h2 ≤ 6 then
      let n := headerPayloadLength h2
      let payload := rest.take n
      if rest.drop n = bytes2 (crc16 (h0 :: h1 :: h2 :: payload)).toNat then
        let cls := rev2 (h0.toNat % 4)
        let sender := rev4 (h0.toNat / 4 % 16)
        match FrameKind.ofCode (rev4 (h1.toNat % 16)) with
        | some k =>
          if h0.toNat / 64 = 0 ∧ h2.toNat / 32 = 0 ∧ 1 ≤ sender ∧ cls = k.cls ∧ n = k.length then
            .sound
              { cls := cls, sender := sender, kind := k, dest := rev4 (h1.toNat / 16),
                senderEnd := rev2 (h2.toNat % 4), payload := payload }
          else .malformed
        | none => .malformed
      else .badCrc
    else .notAFrame
  | _ => .notAFrame

/-- The byte at a place of a payload, as a number. -/
def at_ (l : List Byte) (i : Nat) : Nat := (l.getD i 0).toNat

/-- The net a payload carries from a place, high part first (R98). What a number above 4095 comes to is a free value. -/
def netAt (l : List Byte) (i : Nat) : Nat :=
  let n := at_ l i * 256 + at_ l (i + 1)
  if n < 4096 then n else (Config.netOutOfRange n).val

/-- The fields of a STATUS payload (R97, R98): the state and the count section state as their codes. -/
structure StatusFields where
  state : Nat
  release : Nat
  long : Bool
  mark : Nat
  sect : Nat
  net : Nat
deriving DecidableEq, Repr

/-- Reads a STATUS payload (R98): 16 is added to the release code where the pairing is LONG. -/
def statusFields (p : List Byte) : StatusFields :=
  { state := at_ p 0, release := at_ p 1 % 16, long := decide (16 ≤ at_ p 1), mark := at_ p 2, sect := at_ p 3,
    net := netAt p 4 }

end Sys2Proof.Machine
end

