-- ==== Sys2Proof/Machine/Flags.lean ====
section
/-! DEFINITION. What follows from the state without being stored: count section contents and states, lamps, pins,
the quiet line, and the proposer's conditions. -/

namespace Sys2Proof.Machine

/-! ### Count sections (R66) -/

/-- The content of a section of a type: none while it is undefined (R66). -/
def content (t : SectType) (x : Sect) : Option Nat :=
  match t with
  | .block => x.remote.map fun r => (x.localNet + r) % 4096
  | _ => some x.localNet

/-- The state of a section from its latch and content (R66). -/
def sectState (t : SectType) (x : Sect) : SectState :=
  match x.latch with
  | .disturbed => .disturbed
  | .resetPrep => .resetPrep
  | .none =>
    match content t x with
    | none => .unknown
    | some 0 => .clear
    | some n => if n < 2048 then .occupied else .disturbed

/-- Content indications handed to the block controller (R69). -/
inductive Indication
  | zero
  | nonzero
  | undefined
deriving DecidableEq, Repr

/-- The indication of a content (R69). -/
def indication (t : SectType) (x : Sect) : Indication :=
  match content t x with
  | none => .undefined
  | some 0 => .zero
  | some _ => .nonzero

/-- The state of count section `c` as the axle counting unit holds it. -/
def State.sectState (s : State) (c : SectNo) : SectState := Machine.sectState s.cfg.sects[c].type s.sects[c]

/-- The content indication of count section `c`. -/
def State.indication (s : State) (c : SectNo) : Indication := Machine.indication s.cfg.sects[c].type s.sects[c]

/-- The state of an end's BLOCK count section; every configured end has one (R82). -/
def State.endSectState (s : State) (e : EndNo) : SectState :=
  match s.sectOf e with
  | some c => s.sectState c
  | none => .disturbed

/-! ### Field outputs -/

/-- Whether a lever's lock output is to be energised (R9): `running` says that the part is RUNNING. -/
def lockOutput (running spare : Bool) (l : Lever) : Bool :=
  running && !spare && !l.lockFault &&
    match l.position with
    | .normal => l.decNormal
    | .reverse => l.decReverse
    | .transit => l.hold
    | .fault => false

/-- The FAULT pin (R188); true is asserted. -/
def State.faultPin (s : State) : Bool :=
  !s.active || s.levers.toList.any (·.lockFault)

/-- The attention output (R197); true is asserted. -/
def State.attention (s : State) : Bool := !s.port.queue.isEmpty

/-- A detection section's lamp output (R87). -/
def State.detectionLamp (s : State) (d : DetNo) : Bool :=
  match s.combiner.sects[d].lamp with
  | .dark => false
  | .steady => true
  | .flashing => match s.combiner.flasher with
    | some f => f.lit
    | none => false

/-- The four lamps of a block end (R138). -/
structure EndLamps where
  blocked : Bool
  clear : Bool
  train : Bool
  fail : Bool
deriving DecidableEq, Repr

/-- The lamps of an end that is not configured, and of every end while STARTING or in CONFIG_FAULT (R138). -/
def EndLamps.dark : EndLamps := ⟨false, false, false, false⟩

/-- A block end's lamps (R138). -/
def State.endLamps (s : State) (e : EndNo) : EndLamps :=
  if s.active && s.endConfigured e then
    let b := s.blocks[e]
    { blocked := decide (b.state = .normal ∨ b.state = .accepting ∨ b.state = .recovering ∨ b.state = .switching)
      clear := decide (b.state = .clearIn ∨ b.state = .clearOut ∨ b.state = .cancelling)
      train := decide (b.state = .occupiedIn ∨ b.state = .occupiedOut)
      fail := !s.line.link[e] || decide (b.state = .obstructed) || b.mismatch }
  else EndLamps.dark

/-- A bell coil (R132); true is energised. -/
def State.bellCoil (s : State) (e : EndNo) : Bool := s.bells[e].strikeUntil.isSome

/-- The switched-out lamp (R163). -/
def State.switchedOutLamp (s : State) : Bool :=
  s.active && s.cfg.switchable && decide (s.switching.state = .out ∨ s.switching.state = .proposingIn)

/-! ### The line -/

/-- Whether the decoder finds the line quiet (R93): no frame in progress, and at least 12 idle bit times counted. -/
def State.lineQuiet (s : State) : Bool :=
  decide (s.line.decoder = .noFrame) && decide (s.line.idleFrom + 12 * s.bitTime ≤ s.now)

/-- The destination of a frame in a slot (R98, R168): that of a STATUS or COUNT that is not on the line is its end's
current peer. -/
def State.frameDest (s : State) (f : Frame) : Nat :=
  if f.kind.composed && !f.onLine then s.peerId f.e else f.dest

/-! ### The switching controller's conditions (R165, R173) -/

/-- Whom a condition that fails at some designated ends concerns (R176). -/
def State.concern (s : State) (at1 at2 : Bool) : Concern :=
  if at1 && !at2 then .one s.first s.cfg.ends[s.first].directId
  else if at2 && !at1 then .one s.second s.cfg.ends[s.second].directId
  else .both

/-- A check over the two designated ends: it fails where `bad` holds of either. -/
def State.designatedCheck (s : State) (reason : SwitchReason) (bad : EndNo → Bool) : Option Failing :=
  if bad s.first || bad s.second then some ⟨reason, s.concern (bad s.first) (bad s.second)⟩ else none

/-- Check 1 of R165: both designated ends are NORMAL. -/
def State.checkNormal (s : State) : Option Failing :=
  s.designatedCheck .notNormal fun e => decide (s.blocks[e].state ≠ .normal)

/-- Check 2 of R165 and check 1 of R173: both designated ends' links are UP. -/
def State.checkLinks (s : State) : Option Failing :=
  s.designatedCheck .link fun e => !s.line.link[e]

/-- Check 3 of R165: no offer is held for either designated end. -/
def State.checkOffers (s : State) : Option Failing :=
  s.designatedCheck .offer fun e => s.bells[e].offer.isSome

/-- Check 4 of R165: both designated ends' BLOCK count sections are CLEAR. -/
def State.checkCounts (s : State) : Option Failing :=
  s.designatedCheck .count fun e => decide (s.endSectState e ≠ .clear)

/-- Whether a configured end is OBSTRUCTED. -/
def State.endObstructed (s : State) (e : EndNo) : Bool :=
  s.endConfigured e && decide (s.blocks[e].state = .obstructed)

/-- Check 5 of R165: no configured end of the part is OBSTRUCTED. -/
def State.checkObstructed (s : State) : Option Failing :=
  match ends.find? s.endObstructed with
  | some e =>
    some ⟨.obstructed,
      if s.endObstructed s.first && s.endObstructed s.second then .both else .one e s.cfg.ends[e].directId⟩
  | none => none

/-- Check 6 of R165: the switch-out alternative's decision holds, or no alternative is named. -/
def State.checkAlternative (s : State) : Option Failing :=
  if s.cfg.altNamed && !s.evaluator.altDecision then some ⟨.alternative, .both⟩ else none

/-- Checks 1, 4, 5 and 6 of R165, which are judged throughout a proposal out. -/
def State.standingConditions (s : State) : Option Failing :=
  s.checkNormal <|> s.checkCounts <|> s.checkObstructed <|> s.checkAlternative

/-- Checks 1 to 6 of R165. -/
def State.proposalConditions (s : State) : Option Failing :=
  s.checkNormal <|> s.checkLinks <|> s.checkOffers <|> s.checkCounts <|> s.checkObstructed <|> s.checkAlternative

/-- A report reaches the switching controller in PROPOSING_OUT: it judges its standing conditions (R165). The first
failure in an event is kept, and the abandonment it calls for is carried out at the event's close. -/
def State.judgeProposal (s : State) : State :=
  if s.switching.state = .proposingOut ∧ s.switching.failing = none then
    s.modSwitching fun w => { w with failing := s.standingConditions }
  else s

end Sys2Proof.Machine
end

