-- ==== Sys2Proof/Machine/Evaluator.lean ====
section
/-! DEFINITION. The locking evaluator (Chapter 2): terms, alternatives and entries over the view, the decisions
it hands to the lever scanner, and the switch-out alternative. -/

namespace Sys2Proof.Machine

/-- Whether a term of the pool, stored at an index, holds in the evaluator's view (R20 to R24). -/
def Evaluator.termHolds (v : Evaluator) (k : Nat) : Term → Bool
  | .leverNormal n => decide (item v.view.position n = some .normal)
  | .leverReverse n => decide (item v.view.position n = some .reverse)
  | .leverNormalFor n _ =>
    decide (item v.view.position n = some .normal) && ((v.timers[k]?).map (·.elapsed)).getD false
  | .detectionClear d => decide (item v.view.detection d = some true)
  | .detectionOccupied d => decide (item v.view.detection d = some false)
  | .releaseUnused e => decide (item0 v.view.release e = some .unused)
  | .blockNormal e => decide (item0 v.view.block e = some .normal)
  | .countClear c => decide (item v.view.count c = some .clear)
  | .other _ _ _ => false

/-- Whether an alternative holds: every term of its run holds (R18). -/
def Evaluator.alternativeHolds (v : Evaluator) (pool : List Term) (a : Alternative) : Bool :=
  (List.range a.length).all fun j =>
    match pool[a.first + j]? with
    | some t => v.termHolds (a.first + j) t
    | none => false

/-- Whether an entry holds: it has no alternatives, or one of them holds (R19). -/
def Evaluator.entryHolds (v : Evaluator) (pool : List Term) (l : List Alternative) : Bool :=
  l.isEmpty || l.any (v.alternativeHolds pool)

/-- The first-holding alternative of an entry (R19, R35). -/
def Evaluator.firstHolding (v : Evaluator) (pool : List Term) (l : List Alternative) : FirstHolding :=
  if l.isEmpty then .noAlternatives
  else match l.findIdx? (v.alternativeHolds pool) with
    | some k => .alternative k
    | none => .noneHolds

/-- The decision the view gives on a lever's entries (R26). -/
def Evaluator.judgeLever (v : Evaluator) (g : Image) (i : LeverNo) : Decision :=
  let x := g.entries[i]
  { normal := v.entryHolds g.pool x.fromNormal
    reverse := v.entryHolds g.pool x.fromReverse
    firstNormal := v.firstHolding g.pool x.fromNormal
    firstReverse := v.firstHolding g.pool x.fromReverse }

/-- The decision on a lever after a judgement; none is formed for a SPARE lever (R30). -/
def Evaluator.newDecision (v : Evaluator) (g : Image) (i : LeverNo) : Decision :=
  if g.roles[i] = .spare then
    { normal := false, reverse := false, firstNormal := .noAlternatives, firstReverse := .noAlternatives }
  else v.judgeLever g i

/-- The decisions of a lever that differ from those before, as they are handed to the scanner (R26). -/
def changesOf (i : LeverNo) (old new : Decision) : List Handed :=
  (if old.normal = new.normal then [] else [⟨i, .fromNormal, new.normal⟩]) ++
    (if old.reverse = new.reverse then [] else [⟨i, .fromReverse, new.reverse⟩])

/-- The decision on the switch-out alternative that the view gives; there is none where none is named (R31). -/
def Evaluator.judgeAlternative (v : Evaluator) (g : Image) : Bool :=
  g.switchable && g.altNamed && v.alternativeHolds g.pool g.alternative

/-- Every entry is judged against the view, and each changed decision is handed to the scanner (R26). An entry that
names nothing that changed keeps its decision, so judging every entry and judging those that name the change are one. -/
def Evaluator.judgeEntries (v : Evaluator) (g : Image) : Evaluator :=
  { v with
    decisions := Vector.ofFn fun i => v.newDecision g i
    handed := v.handed ++ (List.finRange 32).flatMap fun i => changesOf i v.decisions[i] (v.newDecision g i)
    altDecision := v.judgeAlternative g }

/-- The evaluator takes a change of its view, re-evaluates, and reports a changed decision on the switch-out
alternative to the switching controller (R26, R31). -/
def State.evaluate (s : State) (f : Evaluator → Evaluator) : State :=
  let s1 := s.modEvaluator fun v => (f v).judgeEntries s.cfg
  if s1.evaluator.altDecision = s.evaluator.altDecision then s1 else s1.judgeProposal

/-- The timer of one term after a report that lever `n` has taken NORMAL at a time of last normal, or has left NORMAL
(R21). -/
def termTimer (n : Nat) (lastNormal : Option Nat) (t : Term) (x : TermTimer) : TermTimer :=
  match t with
  | .leverNormalFor m seconds =>
    if m = n then { elapsed := false, expiry := lastNormal.map (· + 100 * seconds) } else x
  | _ => x

/-- The timers of the whole pool after such a report. -/
def termTimers (g : Image) (n : Nat) (lastNormal : Option Nat) (l : List TermTimer) : List TermTimer :=
  List.zipWith (termTimer n lastNormal) g.pool l

/-- The view takes a lever's position (R25), and its LEVER_NORMAL_FOR terms their expiries (R21). -/
def Evaluator.takePosition (v : Evaluator) (g : Image) (i : LeverNo) (p : Position) (lastNormal : Option Nat) :
    Evaluator :=
  let view := { v.view with position := v.view.position.set i p }
  if p = .normal then
    { v with
      view := { view with lastNormal := view.lastNormal.set i lastNormal }
      timers := termTimers g (i.val + 1) lastNormal v.timers }
  else { v with view := view, timers := termTimers g (i.val + 1) none v.timers }

/-- The lever scanner's report of a lever's position (R14). -/
def State.reportPosition (s : State) (i : LeverNo) : State :=
  s.evaluate fun v => v.takePosition s.cfg i s.levers[i].position s.levers[i].lastNormal

/-- The detection combiner's report of a detection section's state (R88). -/
def State.reportDetection (s : State) (d : DetNo) : State :=
  s.evaluate fun v => { v with view := { v.view with detection := v.view.detection.set d s.combiner.sects[d].clear } }

/-- The block controller's report of an end's state and release (R139). -/
def State.reportBlock (s : State) (e : EndNo) : State :=
  s.evaluate fun v =>
    { v with view := { v.view with
        release := v.view.release.set e s.blocks[e].release, block := v.view.block.set e s.blocks[e].state } }

/-- The axle counting unit's report of a count section's state (R69). -/
def State.reportCount (s : State) (c : SectNo) : State :=
  s.evaluate fun v => { v with view := { v.view with count := v.view.count.set c (s.sectState c) } }

/-- Whether a LEVER_NORMAL_FOR term's expiry has come (R21). -/
def State.normalForDue (s : State) (k : Nat) : Bool :=
  s.active &&
    match s.evaluator.timers[k]? with
    | some x => match x.expiry with
      | some t => decide (t ≤ unitsAt s.now)
      | none => false
    | none => false

/-- The elapsed mark of the term stored at an index is set. Identical terms always take the same value (R17), so the marks of every term
stored alike are set in the one event. -/
def Evaluator.elapse (g : Image) (k : Nat) (v : Evaluator) : Evaluator :=
  { v with timers := v.timers.mapIdx fun j x => if g.pool[j]? = g.pool[k]? then { elapsed := true, expiry := none } else x }

/-- NORMAL_FOR_EXPIRY (R17, R21): the elapsed mark is set and the entries are re-evaluated. -/
def State.normalForExpiry (s : State) (k : Nat) : State :=
  if s.normalForDue k then s.evaluate (Evaluator.elapse s.cfg k) else s

/-- The evaluator's part in the entry into RUNNING (R28): it takes the table and the first positions, sets the
expiries of the levers found NORMAL, and judges every entry. -/
def State.startEvaluator (s : State) : State :=
  s.evaluate fun v =>
    (List.finRange 32).foldl
      (fun v i => if s.cfg.roles[i] = .spare then v
        else v.takePosition s.cfg i s.levers[i].position s.levers[i].lastNormal)
      { v with timers := s.cfg.pool.map fun _ => {} }

end Sys2Proof.Machine
end

