-- ==== Sys2Proof/Machine/Combiner.lean ====
section
/-! DEFINITION. The detection combiner (Chapter 5): detection section states from the held values, lamp modes, the
flasher. -/

namespace Sys2Proof.Machine

/-- The held state of a channel a detection section names (R84); none where it names no channel. -/
def Combiner.heldChannel (b : Combiner) (r : DetRecord) : Option Bool := item b.channelClear r.channel

/-- The held interference condition of a channel a detection section names. -/
def Combiner.heldInterference (b : Combiner) (r : DetRecord) : Option Bool := item b.interference r.channel

/-- The held state of a count section a detection section names. -/
def Combiner.heldCount (b : Combiner) (r : DetRecord) : Option SectState := item b.count r.count

/-- Whether a detection section is CLEAR: every component it names is held CLEAR (R85). -/
def Combiner.judgeClear (b : Combiner) (r : DetRecord) : Bool :=
  decide (b.heldChannel r ≠ some false) &&
    match b.heldCount r with
    | some .clear => true
    | some _ => false
    | none => true

/-- Whether a cause of FLASHING is present (R87). -/
def Combiner.doubtful (b : Combiner) (r : DetRecord) : Bool :=
  decide (b.heldInterference r = some true) ||
    match b.heldCount r with
    | some .disturbed => true
    | some .resetPrep => true
    | some .unknown => true
    | _ => false

/-- The lamp mode of a detection section (R87). -/
def Combiner.judgeLamp (b : Combiner) (r : DetRecord) : LampMode :=
  if b.judgeClear r then .dark else if b.doubtful r then .flashing else .steady

/-- A detection section as a judgement leaves it (R85, R87). -/
def Combiner.judged (b : Combiner) (r : DetRecord) : Detection :=
  { clear := b.judgeClear r, lamp := b.judgeLamp r }

/-- The DETECTION_CHANGED record of a section that has changed (R89). -/
def State.detectionRecord (s : State) (d : DetNo) (old : Bool) : Event :=
  let r := s.cfg.detections[d]
  let b := s.combiner
  { kind := .detectionChanged, subject := d.val + 1, old := bit old, new := bit b.sects[d].clear
    d1 := match b.heldChannel r with
      | some c => bit c
      | none => 255
    d2 := match b.heldInterference r with
      | some c => bit c
      | none => 255
    d3 := match b.heldCount r with
      | some c => c.code
      | none => 255
    d4 := b.sects[d].lamp.code }

/-- One detection section is judged: it takes the state and lamp of its held values, and a change of state is recorded
and reported (R85, R88, R89). -/
def State.judgeDetection (s : State) (d : DetNo) : State :=
  let old := s.combiner.sects[d].clear
  let s1 := s.modCombiner fun b => { b with sects := b.sects.set d (b.judged s.cfg.detections[d]) }
  if s1.combiner.sects[d].clear = old then s1
  else (s1.append (s1.detectionRecord d old)).reportDetection d

/-- The configured detection sections that satisfy a condition are judged (R85), in ascending order: R27 leaves open in which their reports reach
the evaluator (DESIGN CHOICE, log entry 67). -/
def State.judgeDetections (s : State) (names : DetRecord → Bool) : State :=
  (List.finRange 16).foldl
    (fun s d => if s.cfg.detections[d].configured && names s.cfg.detections[d] then s.judgeDetection d else s) s

/-- The track circuit unit's report of a channel (R51, R84). -/
def State.reportChannel (s : State) (c : ChannelNo) : State :=
  (s.modCombiner fun b =>
    { b with
      channelClear := b.channelClear.set c s.track.channels[c].clear
      interference := b.interference.set c s.track.channels[c].interference }).judgeDetections
    fun r => decide (r.channel = c.val + 1)

/-- The axle counting unit's report of a count section to the combiner (R69, R84). -/
def State.reportCountToCombiner (s : State) (c : SectNo) : State :=
  (s.modCombiner fun b => { b with count := b.count.set c (s.sectState c) }).judgeDetections
    fun r => decide (r.count = c.val + 1)

/-- Half of the flasher's cycle (R87). -/
def flasherHalf : Time := ms 500

/-- Whether the flasher's current half has ended. -/
def State.flasherDue (s : State) : Bool :=
  s.active &&
    match s.combiner.flasher with
    | some f => decide (f.until_ ≤ s.now)
    | none => false

/-- FLASHER_HALF_EXPIRY (R87): the flasher goes to its other half. -/
def State.flasherHalfExpiry (s : State) : State :=
  if s.flasherDue then
    s.modCombiner fun b =>
      { b with flasher := b.flasher.map fun f => { lit := !f.lit, until_ := f.until_ + flasherHalf } }
  else s

/-- The combiner's part in the entry into RUNNING (R90): the flasher starts with a lit half and every configured section
is judged, without reports or events. -/
def State.startCombiner (s : State) : State :=
  s.modCombiner fun b =>
    { b with
      flasher := some { lit := true, until_ := s.now + flasherHalf }
      sects := Vector.ofFn fun d =>
        if s.cfg.detections[d].configured then b.judged s.cfg.detections[d] else b.sects[d] }

end Sys2Proof.Machine
end

