-- ==== Sys2Proof/Machine/Slots.lean ====
section
/-! DEFINITION. The transmit slots of the line controller (section 6.7): entering a slot, coalescing, eviction,
choice, and the raising of STATUS, which evicts nothing. -/

namespace Sys2Proof.Machine

/-- The answers to a queue request (R107); QUEUED carries the number the frame took (model's own). -/
inductive Answer
  | queued (seq : Nat)
  | coalesced
  | refused
deriving DecidableEq, Repr

/-- The slots by their numbers. -/
def slotNumbers : List (Fin 8) := List.finRange 8

/-- The first slot whose contents satisfy a condition. -/
def Line.findSlot (l : Line) (p : Option Frame → Bool) : Option (Fin 8) := slotNumbers.find? fun i => p l.slots[i]

/-- The slot that holds a frame of a kind for an end. -/
def Line.slotOf (l : Line) (k : FrameKind) (e : EndNo) : Option (Fin 8) :=
  l.findSlot fun x => match x with
    | some f => decide (f.kind = k) && decide (f.e = e)
    | none => false

/-- An empty slot. Which of several is taken the spec leaves open; the lowest-numbered is. -/
def Line.emptySlot (l : Line) : Option (Fin 8) := l.findSlot (·.isNone)

/-- A frame takes a slot as the youngest, with attempt count 0 (R110). -/
def Line.place (l : Line) (i : Fin 8) (f : Frame) : Line :=
  { l with slots := l.slots.set i (some { f with seq := l.nextSeq }), nextSeq := l.nextSeq + 1 }

/-- A slot's frame is changed. -/
def Line.modSlot (l : Line) (i : Fin 8) (g : Frame → Frame) : Line := { l with slots := upd l.slots i (Option.map g) }

/-- A slot is emptied. -/
def Line.clearSlot (l : Line) (i : Fin 8) : Line := { l with slots := l.slots.set i none }

/-- A request merged into a frame in its slot (R109): its attempt count goes to 0, and where it is on the line it is marked renewed. -/
def Frame.coalesce (f : Frame) : Frame := { f with attempts := 0, renewed := f.renewed || f.onLine }

/-- Of two slots' frames, the one that goes first by a class order and then by age. -/
def Line.better (l : Line) (p : Frame → Frame → Bool) (x y : Option (Fin 8)) : Option (Fin 8) :=
  match x, y with
  | some i, some j => match l.slots[i], l.slots[j] with
    | some f, some g => if p g f then some j else some i
    | some _, none => some i
    | none, _ => some j
  | some i, none => some i
  | none, y => y

/-- The best slot among those whose frames satisfy a condition. -/
def Line.bestSlot (l : Line) (p : Frame → Frame → Bool) (ok : Frame → Bool) : Option (Fin 8) :=
  slotNumbers.foldl
    (fun best i => match l.slots[i] with
      | some f => if ok f then l.better p best (some i) else best
      | none => best) none

/-- The frame a station starts (R108): of lowest class, and among those the oldest. -/
def Line.chosen (l : Line) : Option (Fin 8) :=
  l.bestSlot (fun f g => decide (f.kind.cls < g.kind.cls ∨ (f.kind.cls = g.kind.cls ∧ f.seq < g.seq)))
    fun f => !f.onLine

/-- The frame that gives way to a request of a class with all slots full (R110): not on the line, of a higher class; the
oldest of the highest class. -/
def Line.victim (l : Line) (cls : Nat) : Option (Fin 8) :=
  l.bestSlot (fun f g => decide (g.kind.cls < f.kind.cls ∨ (f.kind.cls = g.kind.cls ∧ f.seq < g.seq)))
    fun f => !f.onLine && decide (cls < f.kind.cls)

/-- STATUS is raised for an end (R111, R112): its request is coalesced, queued, or refused and owed. A STATUS is of the
highest class number, so it evicts nothing. -/
def State.raiseStatus (s : State) (e : EndNo) : State :=
  match s.line.slotOf .status e with
  | some i => s.modLine fun l => l.modSlot i Frame.coalesce
  | none => match s.line.emptySlot with
    | some i => s.modLine fun l => l.place i { kind := .status, e := e, dest := s.peerId e }
    | none => s.modLine fun l => { l with owed := l.owed.set e true }

/-- The owed STATUS of an end is served: its mark is cleared and a STATUS is queued; a refusal sets the mark again
(R112). -/
def State.serveOwed (s : State) (e : EndNo) : State :=
  (s.modLine fun l => { l with owed := l.owed.set e false }).raiseStatus e

/-- The end of lowest number whose STATUS is owed. -/
def State.firstOwed (s : State) : Option EndNo := ends.find? fun e => s.line.owed[e]

/-- A slot has been emptied, and the departed frame's owner has made its requests: the owed STATUS of the lowest-numbered
end is queued (R112). -/
def State.serveFirstOwed (s : State) : State :=
  match s.firstOwed with
  | some e => s.serveOwed e
  | none => s

/-- The FRAME_UNDELIVERED record of a frame that leaves its slot undelivered (R116): cause 1 after its attempts, 2 evicted. -/
def State.undeliveredRecord (s : State) (f : Frame) (cause : Nat) : Event :=
  { kind := .frameUndelivered, subject := f.e.val, old := f.kind.code, new := cause, d1 := s.frameDest f
    d2 := f.kind.cls, d3 := f.attempts
    d4 := match f.failure with
      | .none => 0
      | .noAcknowledge => 1
      | .lineError => 2 }

end Sys2Proof.Machine
end

