-- ==== Sys2Proof/Machine/BlockCore.lean ====
section
/-! DEFINITION. The one way a block end changes state or release (R139), and the changes that other blocks bring
about directly: the release on the starter's reports, the train's entry, link loss and obstruction. -/

namespace Sys2Proof.Machine

/-- The bell unit clears an offer, and stops its hold (R129). -/
def State.clearOffer (s : State) (e : EndNo) : State := s.modBell e fun b => { b with offer := none }

/-- A BLOCK_STATE_CHANGED record of an end as it now stands (R161). -/
def State.blockRecord (s : State) (e : EndNo) (old : BlockState) (cause : Cause) (refusedOp : Nat) : State :=
  s.append
    { kind := .blockStateChanged, subject := e.val, old := old.code, new := s.blocks[e].state.code
      d1 := s.blocks[e].release.code, d2 := cause.code, d3 := bit s.line.link[e], d4 := refusedOp }

/-- A refused operation is recorded with the state unchanged (R161). -/
def State.refuseOperation (s : State) (e : EndNo) (cause : Cause) (op : RefusedOp) : State :=
  s.blockRecord e s.blocks[e].state cause op.code

/-- Whether an end is one of the two designated ends of a switchable part (R163). -/
def State.designated (s : State) (e : EndNo) : Bool :=
  s.cfg.switchable && (decide (e = s.first) || decide (e = s.second))

/-- The block controller's report of an end's new state to the switching controller (R139): the start watch ends once both
designated ends have left RECOVERING (R175), and a proposal is judged (R165). -/
def State.reportStateToSwitching (s : State) (e : EndNo) : State :=
  let s1 :=
    if s.blocks[s.first].state ≠ .recovering ∧ s.blocks[s.second].state ≠ .recovering then
      s.modSwitching fun w => { w with startWatch := false }
    else s
  if s1.designated e || decide (s1.blocks[e].state = .obstructed) then s1.judgeProposal else s1

/-- The record of an end after a change of its state and release: a change of state clears the refusal mark (R144) and the
mismatch mark (R157), and each timer runs in its own state only (section 8.1). -/
def BlockEnd.moved (b : BlockEnd) (st : BlockState) (rel : Release) : BlockEnd :=
  if b.state = st then { b with release := rel }
  else
    { b with
      state := st, release := rel, refusal := none, mismatch := false
      acceptUntil := if st = .accepting then b.acceptUntil else none
      cancelUntil := if st = .cancelling then b.cancelUntil else none }

/-- The reports of a change of state or release (R139), after the record itself has changed from `old`. -/
def State.reportEndChange (s : State) (e : EndNo) (old : BlockState) (cause : Cause) : State :=
  let s1 := ((s.blockRecord e old cause 0).reportBlock e).raiseStatus e
  if s.blocks[e].state = old then s1
  else (if old = .normal then s1.clearOffer e else s1).reportStateToSwitching e

/-- An end takes a state and a release, with a cause. Nothing is reported where neither changes. -/
def State.changeEnd (s : State) (e : EndNo) (st : BlockState) (rel : Release) (cause : Cause) : State :=
  if s.blocks[e].state = st ∧ s.blocks[e].release = rel then s
  else (s.modBlock e (·.moved st rel)).reportEndChange e s.blocks[e].state cause

/-- The refusal mark is set for 5 s, and a STATUS is raised (R142, R144). -/
def State.setRefusal (s : State) (e : EndNo) (r : Reason) : State :=
  (s.modBlock e fun b => { b with refusal := some ⟨r, s.now + secs 5⟩ }).raiseStatus e

/-- The starter's report "starter left NORMAL" (R15, R145). -/
def State.starterLeft (s : State) (e : EndNo) : State :=
  match s.blocks[e].release with
  | .unused => s.changeEnd e s.blocks[e].state .taken .starter
  | .suspended => s.changeEnd e s.blocks[e].state .taken .starter
  | _ => s

/-- The starter's report "starter returned to NORMAL" (R15, R145). -/
def State.starterReturned (s : State) (e : EndNo) : State :=
  match s.blocks[e].release with
  | .taken => s.changeEnd e s.blocks[e].state .spent .starter
  | _ => s

/-- A train's entry: the content indication of the end's section goes from zero to nonzero (R148). -/
def State.trainEntry (s : State) (e : EndNo) : State :=
  match s.blocks[e].state with
  | .clearOut => s.changeEnd e .occupiedOut .none .trainEntry
  | .cancelling => s.changeEnd e .occupiedOut .none .trainEntry
  | .clearIn => s.changeEnd e .occupiedIn s.blocks[e].release .trainEntry
  | _ => s

/-- The block controller's part in link loss (R154): an UNUSED release becomes SUSPENDED. -/
def State.suspendRelease (s : State) (e : EndNo) : State :=
  match s.blocks[e].release with
  | .unused => s.changeEnd e s.blocks[e].state .suspended .link
  | _ => s

/-- An OBSTRUCTION report (R153). -/
def State.obstruct (s : State) (e : EndNo) : State :=
  match s.blocks[e].state with
  | .inactive => s
  | .obstructed => s
  | _ =>
    (s.modBlock e fun b => { b with acceptDelivered := false }).changeEnd e .obstructed .none .obstruction

/-- An OBSTRUCTION_REMOVED report (R153). -/
def State.unobstruct (s : State) (e : EndNo) : State :=
  match s.blocks[e].state with
  | .obstructed => s.changeEnd e .normal .none .obstructionRemoved
  | _ => s

end Sys2Proof.Machine
end

