-- ==== Sys2Proof/Machine/AxleCore.lean ====
section
/-! DEFINITION. Count sections (sections 4.4 to 4.7): the judgement of a section, the reports of a change, remote nets,
pairing changes, link loss, and the outcomes of the reset procedure's frames. -/

namespace Sys2Proof.Machine

/-- A section is judged at an event that changes its local net or sets its remote net (R66, R67, R73). A section that leaves RESET_PREP keeps its
swept mark as it was, though R73 gives the mark to RESET_PREP alone (DESIGN CHOICE, log entry 54). -/
def Sect.judge (t : SectType) (x : Sect) : Sect :=
  match x.latch, content t x with
  | .disturbed, _ => x
  | _, none => x
  | .none, some n => if 2048 ≤ n then { x with latch := .disturbed } else x
  | .resetPrep, some n =>
    if 2048 ≤ n then { x with latch := .disturbed }
    else if x.swept ∧ n = 0 then { x with latch := .none }
    else x

/-- A section takes the latch DISTURBED (R67). -/
def Sect.disturb (x : Sect) : Sect := { x with latch := .disturbed }

/-- A section is zeroed by the reset procedure (R72, R76 step 4, R77). -/
def Sect.zero (x : Sect) : Sect := { x with localNet := 0, remote := none, latch := .resetPrep, swept := false }

/-- The reset-procedure zeroing of a LOCAL section, whose remote net is always absent (R72). -/
def Sect.zeroLocal (x : Sect) : Sect := { x with localNet := 0, latch := .resetPrep, swept := false }

/-- The block end of a BLOCK section (R64). -/
def State.sectEnd (s : State) (c : SectNo) : Option EndNo :=
  if s.cfg.sects[c].type = .block then some (endOf s.cfg.sects[c].blockEnd) else none

/-- The end as a COUNT_RESET record shows it (R80). -/
def State.sectEndCode (s : State) (c : SectNo) : Nat :=
  match s.sectEnd c with
  | some e => e.val
  | none => 255

/-- The record and the reports of a count section whose data have moved on from those it had in `s0` (R69): a change of
state is recorded, then reported to the combiner and the evaluator; a change of the indication from zero to nonzero is a
train's entry at the section's end. The combiner's reports of its detection sections reach the evaluator before the section's own report;
R27 and R69 leave the order open (DESIGN CHOICE, log entry 52). -/
def State.reportSect (s : State) (s0 : State) (c : SectNo) : State :=
  let old := s0.sectState c
  let new := s.sectState c
  let s1 :=
    if old = new then s
    else
      ((s.append
        { kind := .countStateChanged, subject := c.val + 1, old := old.code, new := new.code
          d1 := hi s.sects[c].localNet, d2 := lo s.sects[c].localNet
          d3 := hi (netCode s.sects[c].remote), d4 := lo (netCode s.sects[c].remote) }).reportCountToCombiner c).reportCount c
  match s.sectEnd c with
  | some e => if s0.indication c = .zero ∧ s.indication c = .nonzero then s1.trainEntry e else s1
  | none => s1

/-- A configured section's data are changed and the change is reported, in one event (R69). -/
def State.changeSect (s : State) (c : SectNo) (f : Sect → Sect) : State := (s.modSect c f).reportSect s c

/-- A COUNT_RESET record (R80): the states before and after, the outcome, the end, and the local net before the event. -/
def State.resetRecord (s : State) (s0 : State) (c : SectNo) (o : ResetOutcome) : State :=
  s.append
    { kind := .countReset, subject := c.val + 1, old := (s0.sectState c).code, new := (s.sectState c).code
      d1 := o.code, d2 := s.sectEndCode c, d3 := hi s0.sects[c].localNet, d4 := lo s0.sects[c].localNet }

/-- A section's data as the arrival of a remote net leaves them (R65, R68, R73): the net is taken, a nonzero net marks the
sweep, the pairing check is resolved, a peer state of DISTURBED is taken, and the section is judged. -/
def Sect.takeNet (t : SectType) (net : Nat) (peerDisturbed : Bool) (x : Sect) : Sect :=
  let x1 : Sect :=
    { x with remote := some net, swept := x.swept || (decide (x.latch = .resetPrep) && decide (net ≠ 0)) }
  let x2 : Sect :=
    if x.pairingCheck then
      if x.latch = .none ∧ content t x1 ≠ some 0 then { x1 with pairingCheck := false, latch := .disturbed }
      else { x1 with pairingCheck := false }
    else x1
  (if peerDisturbed then x2.disturb else x2).judge t

/-- A STATUS, COUNT or TOS delivered for an end brings its section the peer's net, and a STATUS the peer's state (R65). While
a confirmation is outstanding both are disregarded. -/
def State.takeNet (s : State) (e : EndNo) (net : Nat) (peerDisturbed : Bool) : State :=
  match s.sectOf e with
  | some c =>
    if s.sects[c].confirming.isSome then s
    else s.changeSect c (Sect.takeNet s.cfg.sects[c].type net peerDisturbed)
  | none => s

/-- A pending request of an end's section ends without reset (R78): the COUNT_RESET record carries the outcome. -/
def State.endPending (s : State) (s0 : State) (c : SectNo) (o : ResetOutcome) : State :=
  if s0.sects[c].pending.isSome then s.resetRecord s0 c o else s

/-- The data of a section at a pairing change (R68): the remote net is discarded, the pairing check set, a reset in
progress ended, and a RESET_PREP section DISTURBED. R68 ends a confirmation outstanding by name in RESET_PREP alone; here it ends whatever the
latch, in a section already DISTURBED too (DESIGN CHOICE, log entry 59). -/
def Sect.rePair (x : Sect) : Sect :=
  { x with
    remote := none, pairingCheck := true, pending := none, held := none, confirming := none
    latch := if x.latch = .resetPrep then .disturbed else x.latch }

/-- A change of pairing is reported to the axle counting unit (R68, R174). -/
def State.rePairSect (s : State) (e : EndNo) : State :=
  match s.sectOf e with
  | some c => (s.changeSect c Sect.rePair).endPending s c .pairingChanged
  | none => s

/-- The axle counting unit's part in link loss (R65, R78): the remote net is discarded, and a pending and a held request
end. A confirmation outstanding stands. -/
def State.sectLinkLost (s : State) (e : EndNo) : State :=
  match s.sectOf e with
  | some c =>
    (s.changeSect c fun x => { x with remote := none, pending := none, held := none }).endPending s c .linkLost
  | none => s

/-- A RESET_REQ is reported undelivered (R78): it ends the pending request it carries. -/
def State.requestUndelivered (s : State) (e : EndNo) (seq : Nat) : State :=
  match s.sectOf e with
  | some c =>
    if s.sects[c].pending.map (·.seq) = some seq then
      (s.modSect c fun x => { x with pending := none }).resetRecord s c .requestUndelivered
    else s
  | none => s

/-- A RESET_CONFIRM is reported undelivered (R77): the confirmation outstanding ends and the section is DISTURBED. -/
def State.confirmUndelivered (s : State) (e : EndNo) (seq : Nat) : State :=
  match s.sectOf e with
  | some c =>
    if s.sects[c].confirming = some seq then
      (s.changeSect c fun x => { x.disturb with confirming := none }).resetRecord s c .confirmUndelivered
    else s
  | none => s

/-- A RESET_CONFIRM is reported acknowledged (R77): the confirmation outstanding ends. -/
def State.confirmDelivered (s : State) (e : EndNo) (seq : Nat) : State :=
  match s.sectOf e with
  | some c =>
    if s.sects[c].confirming = some seq then s.modSect c fun x => { x with confirming := none } else s
  | none => s

end Sys2Proof.Machine
end

