-- ==== Sys2Proof/Machine/Requests.lean ====
section
/-! DEFINITION. Queue requests (R107, R109, R110): the answer, and the eviction a request may call for. -/

namespace Sys2Proof.Machine

/-- A CODE is reported undelivered (R126): the not-sent mark of the record it carries, while that is the end's last
outbound record. -/
def Bell.codeUndelivered (seq : Nat) (b : Bell) : Bell :=
  { b with lastOut := b.lastOut.map fun r => if r.seq = some seq then { r with notSent := true } else r }

/-- An evicted frame is reported to its owner (R110): a STATUS is owed (R112), a CODE marks its record, and the frames of the
reset procedure end what they carry. A frame of class 0 is never evicted; a BEAT or COUNT needs nothing further. -/
def State.reportEvicted (s : State) (f : Frame) : State :=
  match f.kind with
  | .status => s.modLine fun l => { l with owed := l.owed.set f.e true }
  | .bellCode => s.modBell f.e (Bell.codeUndelivered f.seq)
  | .resetReq => s.requestUndelivered f.e f.seq
  | .resetConfirm => s.confirmUndelivered f.e f.seq
  | .accept | .withdraw | .cancel | .tos | .count | .beat => s
  | .switchPropose | .switchAgree | .switchRefuse | .switchCommit | .switchAbandon => s

/-- The answer that a request of a kind for an end will have (R109, R110). -/
def State.answerTo (s : State) (k : FrameKind) (e : EndNo) : Answer :=
  if k.composed ∧ s.line.slotOf k e ≠ none then .coalesced
  else if s.line.emptySlot ≠ none then .queued s.line.nextSeq
  else if s.line.victim k.cls ≠ none then .queued s.line.nextSeq
  else .refused

/-- A block queues a frame (R109, R110). An eviction is recorded, the new frame takes the slot, and the evicted frame's owner
is told. A refused request changes nothing. -/
def State.request (s : State) (k : FrameKind) (e : EndNo) (dest : Nat) (payload : List Byte) : State :=
  let new : Frame := { kind := k, e := e, dest := dest, payload := payload }
  match (if k.composed then s.line.slotOf k e else none) with
  | some i => s.modLine fun l => l.modSlot i Frame.coalesce
  | none => match s.line.emptySlot with
    | some i => s.modLine fun l => l.place i new
    | none => match s.line.victim k.cls with
      | some i => match s.line.slots[i] with
        | some f => ((s.append (s.undeliveredRecord f 2)).modLine fun l => l.place i new).reportEvicted f
        | none => s
      | none => s

/-- Whether a request was answered QUEUED, and with what number. -/
def Answer.seq : Answer → Option Nat
  | .queued n => some n
  | .coalesced => none
  | .refused => none

/-- The block controller queues one of its frames, which becomes the end's outstanding frame where it is queued
(section 8.1). -/
def State.requestOutstanding (s : State) (e : EndNo) (o : OutKind) (payload : List Byte) : State :=
  let k : FrameKind := match o with
    | .accept => .accept
    | .withdraw => .withdraw
    | .cancel => .cancel
    | .tos => .tos
  let s1 := s.request k e (s.peerId e) payload
  match (s.answerTo k e).seq with
  | some n => s1.modBlock e fun b => { b with outstanding := some ⟨o, n⟩ }
  | none => s1

end Sys2Proof.Machine
end

