-- ==== Sys2Proof/Machine/Proposal.lean ====
section
/-! DEFINITION. SWITCHING records (R176) and the abandonment of a proposal (R170). An abandonment that a failing judgement of the
proposer's conditions calls for is carried out at the close of the event that brought the judgement about. -/

namespace Sys2Proof.Machine

/-- A reason as a SWITCHING record shows it: 0 where none applies. -/
def reasonCode : Option SwitchReason → Nat
  | some r => r.code
  | none => 0

/-- A cause as a SWITCHING record shows it: 0 where none applies. -/
def causeCode : Option SwitchCause → Nat
  | some c => c.code
  | none => 0

/-- A direction as a SWITCHING record shows it. -/
def directionBit (out : Bool) : Nat := if out then 1 else 2

/-- A SWITCHING record (R176), with the controller state as it now stands. Where both designated ends are concerned the identity
of the other party is a free value. -/
def State.switchRecord (s : State) (k : Concern) (direction : Nat) (o : SwitchOutcome) (reason : Option SwitchReason)
    (cause : Option SwitchCause) : State :=
  let r : Event :=
    { kind := .switching, subject := 255, old := direction, new := o.code, d1 := reasonCode reason, d2 := causeCode cause
      d4 := s.switching.state.code }
  match k with
  | .one e party => s.append { r with subject := e.val, d3 := party }
  | .both =>
    { s with freeCount := s.freeCount + 1 }.append { r with d3 := (Config.bothPartiesByte s.freeCount).toNat }

/-- A switching frame queued to the direct peer of an end, carrying that end as its sender end (R165, R166). -/
def State.requestSwitch (s : State) (k : FrameKind) (e : EndNo) (payload : List Byte) : State :=
  s.request k e s.cfg.ends[e].directId payload

/-- SWITCH_ABANDON is queued to the direct peer of an end, where a condition holds; a refused one is not sent (R170). -/
def State.sendAbandon (s : State) (d : Direction) (e : EndNo) (wanted : Bool) : State :=
  if wanted then s.requestSwitch .switchAbandon e [byte d.code] else s

/-- The state a proposal was made from (R170). -/
def Direction.from_ : Direction → SwitchState
  | .out => .inUse
  | .into => .out

/-- A proposal is abandoned (R170). Where both neighbours have AGREED, the ABANDON to the first is queued first, so it is the older and takes the last
free slot; R170 orders neither (DESIGN CHOICE, log entry 67). -/
def State.abandon (s : State) (cause : SwitchCause) (reason : Option SwitchReason) (k : Concern) : State :=
  match s.switching.agreement with
  | some a =>
    let s1 := (s.sendAbandon a.direction s.first a.agreed1).sendAbandon a.direction s.second a.agreed2
    (s1.modSwitching fun w => { w with agreement := none, state := a.direction.from_, failing := none }).switchRecord
      k a.direction.code .abandoned reason (some cause)
  | none => s

/-- The close of an event: the abandonment a failing judgement called for is carried out (R165, R170). -/
def State.settle (s : State) : State :=
  match s.switching.failing with
  | some f => (s.modSwitching fun w => { w with failing := none }).abandon .conditions (some f.reason) f.concern
  | none => s

end Sys2Proof.Machine
end

