-- ==== Sys2Proof/Machine/Scanner.lean ====
section
/-! DEFINITION. The lever scanner (Chapter 1): positions, transit timer, lock output and TRANSIT hold, readback
supervision, and the meanings of its rows. -/

namespace Sys2Proof.Machine

/-! ### Lock output and readback -/

/-- Readback supervision of a lever (R12): the mismatch timer runs, from the moment the mismatch began, while the output and
the readback disagree at a supervised lever. -/
def Lever.watch (supervised : Bool) (now : Time) (l : Lever) : Lever :=
  { l with mismatchFrom :=
      if supervised && !l.lockFault && (l.output != l.readback) then some (l.mismatchFrom.getD now) else none }

/-- The lock output is set from the position, the decisions held and the part state (R9), and supervised (R12). -/
def Lever.drive (running active spare : Bool) (now : Time) (l : Lever) : Lever :=
  { l with output := lockOutput running spare l }.watch (active && !spare) now

/-- A lever's lock output is set again (R9). -/
def State.driveLever (s : State) (i : LeverNo) : State :=
  s.modLever i (Lever.drive s.isRunning s.active (s.spare i) s.now)

/-- Every lever's lock output is set again, at a change of the part state (R9, R11). A lever in TRANSIT as the part leaves
RUNNING holds de-energised from then on (R10). -/
def State.driveAll (s : State) : State :=
  { s with levers := Vector.ofFn fun i =>
      let l := s.levers[i]
      Lever.drive s.isRunning s.active (s.spare i) s.now { l with hold := s.isRunning && l.hold } }

/-! ### Decisions -/

/-- The oldest decision on its way to an entry of a lever. -/
def Evaluator.nextHanded (v : Evaluator) (i : LeverNo) (k : EntryKind) : Option Handed :=
  v.handed.find? fun h => decide (h.lever = i) && decide (h.entry = k)

/-- The decisions still on their way once that one has arrived. -/
def Evaluator.dropHanded (v : Evaluator) (i : LeverNo) (k : EntryKind) : Evaluator :=
  { v with handed := v.handed.eraseP fun h => decide (h.lever = i) && decide (h.entry = k) }

/-- The decisions on their way to an entry of a lever, oldest first. -/
def Evaluator.onTheWay (v : Evaluator) (i : LeverNo) (k : EntryKind) : List Handed :=
  v.handed.filter fun h => decide (h.lever = i) && decide (h.entry = k)

/-- The last decision on its way to an entry of a lever, if any. -/
def Evaluator.lastHanded (v : Evaluator) (i : LeverNo) (k : EntryKind) : Option Bool := (v.onTheWay i k).getLast?.map (·.holds)

/-- The scanner keeps a decision (R9). -/
def Lever.keep (k : EntryKind) (holds : Bool) (l : Lever) : Lever :=
  match k with
  | .fromNormal => { l with decNormal := holds }
  | .fromReverse => { l with decReverse := holds }

/-- LOCK_DECISION_ARRIVAL (R9, R14): the scanner keeps the decision, and sets the output again. -/
def State.lockDecisionArrival (s : State) (i : LeverNo) (k : EntryKind) : State :=
  match s.evaluator.nextHanded i k with
  | some h => (((s.modEvaluator fun v => v.dropHanded i k).modLever i (Lever.keep k h.holds)).driveLever i)
  | none => s

/-! ### Positions -/

/-- The position that two debounced contact values give (R2). -/
def derive (n r : Bool) : Position :=
  match n, r with
  | true, false => .normal
  | false, true => .reverse
  | false, false => .transit
  | true, true => .fault

/-- The length in units of 10 ms of a transit that ends now (R16): 0 for a change that ends none. -/
def Lever.transitLength (now : Time) (l : Lever) : Nat :=
  match l.transitFrom with
  | some t => unitsAt now - unitsAt t
  | none => 0

/-- A lever takes a position (R2 to R5, R10): the transit timer runs in TRANSIT alone, the hold value is the output as the
lever left its proved position, the time of last normal is set at NORMAL, and the cause is kept in FAULT. A lever that leaves TRANSIT
holds de-energised from then on: "the hold does not outlive the stroke" (DEDUCED, log entry 17). -/
def Lever.take (now : Time) (p : Position) (cause : FaultCause) (l : Lever) : Lever :=
  { l with
    position := p
    transitFrom := if p = .transit then some now else none
    hold := if p = .transit then l.output else false
    lastNormal := if p = .normal then some (unitsAt now) else l.lastNormal
    faultCause := if p = .fault then some cause else none }

/-- The record of a change of position (R16). -/
def State.leverRecord (s : State) (i : LeverNo) (old : Position) (length : Nat) : State :=
  let l := s.levers[i]
  match l.position, l.faultCause with
  | .fault, some c =>
    s.append { kind := .leverFault, subject := i.val + 1, old := old.code, new := Position.fault.code, d1 := c.code }
  | _, _ =>
    s.append
      { kind := .leverMoved, subject := i.val + 1, old := old.code, new := l.position.code
        d1 := bit l.output, d3 := hi length, d4 := lo length }

/-- The starter reports of a change of position (R15). -/
def State.starterReport (s : State) (i : LeverNo) (old : Position) : State :=
  match s.cfg.roles[i] with
  | .starter e =>
    if old = .normal ∧ s.levers[i].position ≠ .normal then s.starterLeft (endOf e)
    else if old ≠ .normal ∧ s.levers[i].position = .normal then s.starterReturned (endOf e)
    else s
  | _ => s

/-- A lever changes position (R14): first the position and the output it gives under the decisions then held, then the record
and the reports, whose decisions reach the output when they arrive. The starter report, and the report of a release it brings about, reach the
evaluator before the lever's own position report; R27 lets either be taken first (DESIGN CHOICE, log entry 52). -/
def State.changePosition (s : State) (i : LeverNo) (p : Position) (cause : FaultCause) : State :=
  let old := s.levers[i].position
  let length := s.levers[i].transitLength s.now
  ((((s.modLever i (Lever.take s.now p cause)).driveLever i).leverRecord i old length).starterReport i old).reportPosition i

/-- Whether a starter at NORMAL has lost its release before its contacts move (R15, R147): the release is one that its departure would not
move, and the scanner is about to take the decision that its from-normal entry no longer holds. -/
def State.withdrawn (s : State) (i : LeverNo) : Bool :=
  match s.cfg.roles[i] with
  | .starter e =>
    let r := s.blocks[endOf e].release
    decide (s.levers[i].position = .normal) && decide (r ≠ .unused) && decide (r ≠ .suspended) &&
      decide (s.evaluator.lastHanded i .fromNormal = some false)
  | _ => false

/-- A starter that has lost its release takes the from-normal decisions on their way to it before it leaves NORMAL. R15 and R147 give two
outcomes where a withdrawal meets the lever, and no departure with the lock energised and the release NONE, so the decision is the event taken
first (DEDUCED, log entry 51). -/
def State.takeWithdrawal (s : State) (i : LeverNo) : State :=
  if s.withdrawn i then (s.evaluator.onTheWay i .fromNormal).foldl (fun t _ => t.lockDecisionArrival i .fromNormal) s else s

/-- A lever meets a derived position (R2, R4): a lever in FAULT leaves it only for NORMAL or REVERSE, and a starter takes a withdrawal that has
come before it (R15). -/
def State.meetPosition (s : State) (i : LeverNo) (p : Position) : State :=
  let old := s.levers[i].position
  if old = p then s
  else if old = .fault ∧ p = .transit then s
  else (s.takeWithdrawal i).changePosition i p .bothMade

/-! ### The meanings of the scanner's rows -/

/-- Whether a change event of either of a lever's contacts has come (R1). -/
def State.contactDue (s : State) (i : LeverNo) : Bool :=
  s.inUse (!s.spare i) &&
    (s.levers[i].n.due debounce50 s.now || s.levers[i].r.due debounce50 s.now)

/-- The lever's contacts take the change events that have come; two that fall at one moment are taken together (R1). -/
def State.settleContacts (s : State) (i : LeverNo) : State :=
  s.modLever i fun l =>
    { l with n := l.n.settle debounce50 s.now, r := l.r.settle debounce50 s.now }

/-- PROVING_CONTACT_CHANGE (R1, R2): the change events are taken, and the position is derived again while the part is RUNNING or
SWITCHED_OUT. -/
def State.provingContactChange (s : State) (i : LeverNo) : State :=
  if s.contactDue i then
    let s1 := s.settleContacts i
    if s1.active then s1.meetPosition i (derive s1.levers[i].n.value s1.levers[i].r.value) else s1
  else s

/-- Whether a lever's transit timer has reached the transit limit (R3). -/
def State.transitDue (s : State) (i : LeverNo) : Bool :=
  s.active && expired s.now (s.levers[i].transitFrom.map (· + s.transitLimit))

/-- TRANSIT_LIMIT_EXPIRY (R3): the lever leaves TRANSIT for FAULT with cause TRANSIT_LIMIT. -/
def State.transitLimitExpiry (s : State) (i : LeverNo) : State :=
  if s.transitDue i then s.changePosition i .fault .transitLimit else s

/-- READBACK_CHANGE (R12): the raw readback contact takes a level; a mismatch begins or ends at a supervised lever. -/
def State.readbackChange (s : State) (i : LeverNo) (made : Bool) : State :=
  s.modLever i fun l => { l with readback := made }.watch (s.active && !s.spare i) s.now

/-- The time a mismatch may last (R12). -/
def readbackLimit : Time := ms 200

/-- Whether a lever's mismatch timer has reached 200 ms. -/
def State.mismatchDue (s : State) (i : LeverNo) : Bool :=
  s.active && expired s.now (s.levers[i].mismatchFrom.map (· + readbackLimit))

/-- A lever takes LOCK_FAULT (R13): its output and hold are de-energised and its supervision stops. -/
def Lever.takeLockFault (l : Lever) : Lever :=
  { l with lockFault := true, output := false, hold := false, mismatchFrom := none }

/-- READBACK_MISMATCH_EXPIRY (R13, R16): the LOCK_FAULT record shows the output, the readback and the position at the expiry. -/
def State.readbackMismatchExpiry (s : State) (i : LeverNo) : State :=
  if s.mismatchDue i then
    (s.append
      { kind := .lockFault, subject := i.val + 1, old := bit s.levers[i].output, new := bit s.levers[i].readback
        d1 := s.levers[i].position.code }).modLever i Lever.takeLockFault
  else s

/-- The scanner's part in the entry into RUNNING (R1, R8): a SPARE lever's contacts are set open; every other lever takes its
first position, and its readback is supervised from then on. -/
def State.firstPosition (s : State) (i : LeverNo) : State :=
  if s.spare i then
    s.modLever i fun l => { l with n := l.n.disuse, r := l.r.disuse }
  else
    let p := derive s.levers[i].n.value s.levers[i].r.value
    let s1 := (s.modLever i (Lever.take s.now p .bothMade)).driveLever i
    if p = .fault then s1.leverRecord i .transit 0 else s1

/-- The first positions of all levers, in ascending order (R8). -/
def State.startScanner (s : State) : State := (List.finRange 32).foldl State.firstPosition s

/-! ### The rows of this chapter, and those of the evaluator and the combiner, as commands -/

/-- PROVING_CONTACT_CHANGE (R1, R2, R14). -/
def execProvingContactChange (i : LeverNo) (s : State) : Host.Outcome State Fault Refusal :=
  .next (s.provingContactChange i).settle

/-- TRANSIT_LIMIT_EXPIRY (R3, R4). -/
def execTransitLimitExpiry (i : LeverNo) (s : State) : Host.Outcome State Fault Refusal :=
  .next (s.transitLimitExpiry i).settle

/-- READBACK_CHANGE (R12). -/
def execReadbackChange (i : LeverNo) (made : Bool) (s : State) : Host.Outcome State Fault Refusal :=
  .next (s.readbackChange i made).settle

/-- READBACK_MISMATCH_EXPIRY (R13). -/
def execReadbackMismatchExpiry (i : LeverNo) (s : State) : Host.Outcome State Fault Refusal :=
  .next (s.readbackMismatchExpiry i).settle

/-- LOCK_DECISION_ARRIVAL (R9). -/
def execLockDecisionArrival (i : LeverNo) (k : EntryKind) (s : State) : Host.Outcome State Fault Refusal :=
  .next (s.lockDecisionArrival i k).settle

/-- NORMAL_FOR_EXPIRY (R21, R26). -/
def execNormalForExpiry (k : Nat) (s : State) : Host.Outcome State Fault Refusal :=
  .next (s.normalForExpiry k).settle

/-- FLASHER_HALF_EXPIRY (R87). -/
def execFlasherHalfExpiry (s : State) : Host.Outcome State Fault Refusal :=
  .next (s.flasherHalfExpiry).settle

end Sys2Proof.Machine
end

