-- ==== Sys2Proof/Machine/Bells.lean ====
section
/-! DEFINITION. The bell unit (Chapter 7): strikes, the tapper parser, code records, offers and playout, and the meanings
of its rows. -/

namespace Sys2Proof.Machine

/-! ### Code records (R123, R124) -/

/-- The index of the present entry of the code table whose pattern a group list equals (R123, R124). -/
def Image.matchCode (g : Image) (groups : List Nat) : Option Nat :=
  (List.range 16).find? fun k => match item0 g.codes k with
    | some c => c.present && decide (c.pattern = groups)
    | none => false

/-- The index a record takes (R123): only a record that ended END_GAP and equals an entry's pattern has one. -/
def Image.recordIndex (g : Image) (t : Termination) (groups : List Nat) : Option Nat :=
  if t = .endGap then g.matchCode groups else none

/-- The class of the entry an index names (R124). -/
def Image.classOf (g : Image) (index : Option Nat) : Option CodeClass :=
  match index with
  | some k => (item0 g.codes k).map (·.cls)
  | none => none

/-- An index as an event record shows it (R135). -/
def indexCode : Option Nat → Nat
  | some k => k
  | none => 255

/-- The payload of a CODE frame (R98): the beats of groups 1 to 5, and the termination with the index. -/
def CodeRecord.payload (r : CodeRecord) : List Byte :=
  (List.range 5).map (fun k => byte (r.groups.getD k 0)) ++
    [byte (r.termination.code + match r.index with
      | some k => 8 * (k + 1)
      | none => 0)]

/-- Step 1 of R126: except for an ABANDONED record the CODE is queued. The record is marked not sent where it is refused or
not queued. -/
def State.sendCode (s : State) (e : EndNo) (r : CodeRecord) : State :=
  if r.termination = .abandoned then s.modBell e fun b => { b with lastOut := some { r with notSent := true } }
  else
    let s1 := s.request .bellCode e (s.peerId e) r.payload
    match (s.answerTo .bellCode e).seq with
    | some n => s1.modBell e fun b => { b with lastOut := some { r with seq := some n } }
    | none => s1.modBell e fun b => { b with lastOut := some { r with notSent := true } }

/-- Byte 3 of a CODE_SENT record (R135). -/
def State.sentCode (s : State) (e : EndNo) (r : CodeRecord) : Nat :=
  if r.termination = .abandoned then 2
  else match (s.answerTo .bellCode e).seq with
    | some _ => 0
    | none => 1

/-- An outbound record is formed (R126): it becomes the last outbound record, its CODE is queued, CODE_SENT is appended, and an
obstruction is reported; an obstruction removed is reported where its CODE was queued. -/
def State.formOutbound (s : State) (e : EndNo) (r : CodeRecord) : State :=
  let how := s.sentCode e r
  let cls := s.cfg.classOf r.index
  let s1 := (s.sendCode e r).append
    { kind := .codeSent, subject := e.val, old := r.termination.code, new := indexCode r.index, d1 := r.groups.length
      d2 := r.groups.sum, d3 := how
      d4 := match cls with
        | some c => c.code
        | none => 255 }
  match cls with
  | some .obstruction => s1.obstruct e
  | some .obstructionRemoved => if how = 0 then s1.unobstruct e else s1
  | _ => s1

/-- A code under construction ends with a termination (R121): the code timer stops, the parser goes on to a state, and the
record is formed. -/
def State.endCode (s : State) (e : EndNo) (t : Termination) (next : Parser) : State :=
  let b := s.bells[e]
  (s.modBell e fun b => { b with parser := next, groups := [], codeUntil := none }).formOutbound e
    { groups := b.groups, termination := t, index := s.cfg.recordIndex t b.groups, time := b.firstStrike }

/-! ### Strikes (R118 to R122, R125) -/

/-- Whether an end's strikes and releases are taken (R118). -/
def State.tapped (s : State) (e : EndNo) : Bool :=
  s.active && s.endConfigured e && decide (s.blocks[e].state ≠ .inactive)

/-- The interval a strike's BEAT carries (R125): 255 after a pause, and 254 where the measured interval exceeds it. -/
def Bell.interval (b : Bell) (t : Nat) : Nat :=
  match b.quiet, b.lastStrike with
  | .expired, _ => 255
  | _, some u => min 254 (t - u)
  | _, none => 255

/-- The group list with a strike added (R120): none where the strike is refused. -/
def addStrike (gGroup interval : Nat) (groups : List Nat) : Option (List Nat) :=
  if groups.sum = 20 then none
  else if interval < gGroup then some (groups.dropLast ++ [groups.getLast?.getD 0 + 1])
  else if groups.length = 5 then none
  else some (groups ++ [1])

/-- What every strike taken does, whatever the parser state (R119, R125). -/
def Bell.strikeTaken (now heldTime : Time) (b : Bell) : Bell :=
  { b with
    down := true, beat := some (b.interval (unitsAt now)), lastStrike := some (unitsAt now), quiet := .stopped
    heldUntil := some (now + heldTime) }

/-- The parser takes a strike (R120). -/
def State.parseStrike (s : State) (e : EndNo) : State :=
  let b := s.bells[e]
  let t := unitsAt s.now
  match b.parser with
  | .idle =>
    s.modBell e fun b =>
      { b with
        parser := .collecting, groups := [1], firstStrike := t, latestStrike := t
        codeUntil := some (s.now + secs s.cfg.codeLimitSecs) }
  | .collecting =>
    match addStrike s.cfg.gGroupUnits (t - b.latestStrike) b.groups with
    | some g => s.modBell e fun b => { b with groups := g, latestStrike := t }
    | none => s.endCode e .tooMany .waitQuiet
  | .waitQuiet => s

/-- A strike is taken (R119, R120, R125). -/
def State.strike (s : State) (e : EndNo) : State :=
  (s.modBell e (Bell.strikeTaken s.now (units s.cfg.heldStrikeUnits))).parseStrike e

/-- The BEAT of a completed strike is queued, or BEAT_DROPPED is appended where it is refused (R125, R135). -/
def State.sendBeat (s : State) (e : EndNo) (interval : Nat) (held : Bool) : State :=
  match (s.answerTo .beat e).seq with
  | some _ => s.request .beat e (s.peerId e) [byte interval, byte (bit held)]
  | none =>
    s.append
      { kind := .beatDropped, subject := e.val, old := 1, new := interval, d1 := bit held
        d2 := s.bells[e].playout.length }

/-- The strike awaiting completion, if any, is completed and its BEAT sent (R125). -/
def State.completeStrike (s : State) (e : EndNo) (held : Bool) : State :=
  match s.bells[e].beat with
  | some iv => (s.modBell e fun b => { b with beat := none }).sendBeat e iv held
  | none => s

/-- Whether the change event of an end's tapper to a level has come (R118). -/
def State.tapperDue (s : State) (e : EndNo) (level : Bool) : Bool :=
  s.inUse (s.endConfigured e) && decide (s.bells[e].tapper.raw = level) && s.bells[e].tapper.due debounce20 s.now

/-- The tapper's debounced value takes the raw level. -/
def State.settleTapper (s : State) (e : EndNo) : State :=
  s.modBell e fun b => { b with tapper := b.tapper.settle debounce20 s.now }

/-- TAPPER_STRIKE (R118, R120). -/
def State.tapperStrike (s : State) (e : EndNo) : State :=
  if s.tapperDue e true then
    if s.tapped e then (s.settleTapper e).strike e else s.settleTapper e
  else s

/-- TAPPER_RELEASE (R119, R125): the release of a strike taken queues its BEAT and starts the quiet timer. -/
def State.tapperRelease (s : State) (e : EndNo) : State :=
  if s.tapperDue e false then
    let s1 := s.settleTapper e
    if s.tapped e && s.bells[e].down then
      (s1.modBell e fun b =>
        { b with down := false, heldUntil := none, quiet := .running (s.now + units s.cfg.gEndUnits) }).completeStrike e false
    else s1
  else s

/-- Whether an end's quiet timer has run out (R119). -/
def State.quietDue (s : State) (e : EndNo) : Bool :=
  s.active &&
    match s.bells[e].quiet with
    | .running t => decide (t ≤ s.now)
    | _ => false

/-- QUIET_TIMER_EXPIRY (R121, R122). -/
def State.quietTimerExpiry (s : State) (e : EndNo) : State :=
  if s.quietDue e then
    let s1 := s.modBell e fun b => { b with quiet := .expired }
    match s.bells[e].parser with
    | .collecting => s1.endCode e .endGap .idle
    | .waitQuiet => s1.modBell e fun b => { b with parser := .idle }
    | .idle => s1
  else s

/-- HELD_TIMER_EXPIRY (R119, R121, R125): the strike is held, its BEAT is queued, and a code being collected ends HELD. The BEAT is queued before
the CODE that R126 then queues; no rule orders the two (DESIGN CHOICE, log entry 52). -/
def State.heldTimerExpiry (s : State) (e : EndNo) : State :=
  if s.active && expired s.now s.bells[e].heldUntil then
    let s1 := (s.modBell e fun b => { b with heldUntil := none }).completeStrike e true
    match s.bells[e].parser with
    | .collecting => s1.endCode e .held .waitQuiet
    | _ => s1
  else s

/-- CODE_TIMER_EXPIRY (R121). -/
def State.codeTimerExpiry (s : State) (e : EndNo) : State :=
  if s.active && expired s.now s.bells[e].codeUntil then
    match s.bells[e].parser with
    | .collecting => s.endCode e .tooLong .waitQuiet
    | _ => s.modBell e fun b => { b with codeUntil := none }
  else s

/-- The end becomes INACTIVE (R121, R122, R133): a code under construction ends ABANDONED, the parser is IDLE, its timers are
stopped with the quiet timer expired, a strike not completed sends no BEAT, and the playout queue is flushed. -/
def State.bellInactive (s : State) (e : EndNo) : State :=
  let s1 := match s.bells[e].parser with
    | .collecting => s.endCode e .abandoned .idle
    | _ => s
  s1.modBell e fun b =>
    { b with
      parser := .idle, groups := [], quiet := .expired, heldUntil := none, codeUntil := none, down := false, beat := none
      playout := [] }

/-- The playout queue of an end is flushed (R133). -/
def State.flushPlayout (s : State) (e : EndNo) : State := s.modBell e fun b => { b with playout := [] }

/-! ### Received codes and beats (R127, R128, R131) -/

/-- The group list of a sound CODE payload (R127). -/
def payloadGroups (p : List Byte) : Option (List Nat) :=
  let l : List Nat := (p.take 5).map (·.toNat)
  let g : List Nat := l.takeWhile fun n => decide (0 < n)
  if (l.drop g.length).all (fun n => decide (n = 0)) && !g.isEmpty && g.all (fun n => decide (n ≤ 20))
      && decide (g.sum ≤ 20) then some g else none

/-- The termination of a CODE payload (R98). -/
def payloadTermination (p : List Byte) : Option Termination := Termination.ofCode (at_ p 5 % 8)

/-- The sender's index of a CODE payload, as the event record shows it (R98, R135). An index above 15, which R98 does not list and R127's
soundness does not test, is shown as it came (DESIGN CHOICE, log entry 60). -/
def payloadIndex (p : List Byte) : Nat := if at_ p 5 / 8 = 0 then 255 else at_ p 5 / 8 - 1

/-- The effect code of CODE_RECEIVED (R128, R135). -/
def State.codeEffect (s : State) (e : EndNo) (cls : Option CodeClass) : Nat :=
  if s.blocks[e].state = .inactive then 0
  else match cls with
    | some .offer => if s.blocks[e].state = .normal then 1 else 2
    | some .cancelOffer => 3
    | some .obstruction => 4
    | some .obstructionRemoved => 5
    | _ => 0

/-- The effect of an inbound record (R128). -/
def State.actOnCode (s : State) (e : EndNo) (index : Option Nat) (effect : Nat) : State :=
  match effect, index with
  | 1, some k =>
    s.modBell e fun b =>
      { b with offer := some { index := k, time := unitsAt s.now, until_ := s.now + secs s.cfg.offerHoldSecs } }
  | 3, _ => s.clearOffer e
  | 4, _ => s.obstruct e
  | 5, _ => s.unobstruct e
  | _, _ => s

/-- A CODE is delivered for an end (R127, R128): a sound one forms the last inbound record, CODE_RECEIVED is appended, and
the record acts by its class. -/
def State.codeTaken (s : State) (e : EndNo) (p : List Byte) : State :=
  match payloadGroups p, payloadTermination p with
  | some g, some t =>
    let index := s.cfg.recordIndex t g
    let effect := s.codeEffect e (s.cfg.classOf index)
    let s1 := s.modBell e fun b =>
      { b with lastIn := some { groups := g, termination := t, index := index, time := unitsAt s.now } }
    (s1.append
      { kind := .codeReceived, subject := e.val, old := payloadIndex p, new := indexCode index, d1 := t.code, d2 := g.sum
        d3 := g.length, d4 := effect }).actOnCode e index effect
  | _, _ =>
    s.append
      { kind := .codeReceived, subject := e.val, old := payloadIndex p, new := 255, d1 := 0, d2 := 0, d3 := 0, d4 := 6 }

/-- A BEAT is delivered for an end (R131): it joins the playout queue with the part time of its taking, or is dropped where 16 are held. -/
def State.beatTaken (s : State) (e : EndNo) (p : List Byte) : State :=
  if s.blocks[e].state = .inactive then s
  else if s.bells[e].playout.length < 16 then
    s.modBell e fun b =>
      { b with playout := b.playout ++ [{ interval := at_ p 0, held := decide (at_ p 1 = 1), arrival := unitsAt s.now }] }
  else
    s.append
      { kind := .beatDropped, subject := e.val, old := 2, new := at_ p 0, d1 := at_ p 1, d2 := s.bells[e].playout.length }

/-! ### Playout (R132) -/

/-- The moment a beat at the head of the queue becomes due (R132): its arrival is a part time, and the last strike's start and end are moments
kept to the quantum (DESIGN CHOICE, log entry 64). -/
def beatTime (b : Beat) (last : Option Played) : Time :=
  match last with
  | none => units b.arrival
  | some p =>
    max (if b.interval = 255 then units b.arrival else p.start + units b.interval) (max (p.stop + ms 40) (units b.arrival))

/-- Whether the beat at the head of an end's playout queue is due. -/
def State.beatIsDue (s : State) (e : EndNo) : Bool :=
  s.active &&
    match s.bells[e].playout with
    | b :: _ => decide (beatTime b s.bells[e].lastPlayed ≤ s.now)
    | [] => false

/-- The length of a strike (R132): 1500 ms for a held beat. -/
def State.strikeTime (s : State) (held : Bool) : Time := if held then ms 1500 else units s.cfg.strikeUnits

/-- BEAT_DUE (R132): the beat leaves the queue, the bell coil is energised, and the strike becomes the last played, its start and end kept to the
quantum (DESIGN CHOICE, log entry 64). -/
def State.beatDue (s : State) (e : EndNo) : State :=
  if s.beatIsDue e then
    match s.bells[e].playout with
    | b :: rest =>
      s.modBell e fun x =>
        { x with
          playout := rest, lastPlayed := some ⟨s.now, s.now + s.strikeTime b.held⟩
          strikeUntil := some (s.now + s.strikeTime b.held) }
    | [] => s
  else s

/-- STRIKE_END (R132): the bell coil is de-energised. -/
def State.strikeEnd (s : State) (e : EndNo) : State :=
  if s.active && expired s.now s.bells[e].strikeUntil then s.modBell e fun b => { b with strikeUntil := none } else s

/-! ### Offers (R129, R130) -/

/-- OFFER_HOLD_EXPIRY (R129). -/
def State.offerHoldExpiry (s : State) (e : EndNo) : State :=
  if s.active && expired s.now (s.bells[e].offer.map (·.until_)) then s.clearOffer e else s

/-- Whether the repetition is satisfied at an end (R130). Times are compared before the wrap of part time, so they follow
the order of the events. -/
def State.repetitionSatisfied (s : State) (e : EndNo) : Bool :=
  match s.bells[e].offer with
  | none => false
  | some o =>
    !s.cfg.ends[e].repetition ||
      match s.bells[e].lastOut with
      | some r => decide (r.index = some o.index) && decide (o.time < r.time) && !r.notSent
      | none => false

/-- The bell unit's part in the entry into RUNNING: the tapper of an end that is not configured is out of use (R118). -/
def State.startBells (s : State) : State :=
  { s with bells := Vector.ofFn fun e =>
      if s.endConfigured e then s.bells[e] else { s.bells[e] with tapper := s.bells[e].tapper.disuse } }

/-! ### The rows of this chapter as commands -/

/-- TAPPER_STRIKE (R118, R120). -/
def execTapperStrike (e : EndNo) (s : State) : Host.Outcome State Fault Refusal :=
  .next (s.tapperStrike e).settle

/-- TAPPER_RELEASE (R119, R125). -/
def execTapperRelease (e : EndNo) (s : State) : Host.Outcome State Fault Refusal :=
  .next (s.tapperRelease e).settle

/-- QUIET_TIMER_EXPIRY (R121, R122). -/
def execQuietTimerExpiry (e : EndNo) (s : State) : Host.Outcome State Fault Refusal :=
  .next (s.quietTimerExpiry e).settle

/-- HELD_TIMER_EXPIRY (R121, R125). -/
def execHeldTimerExpiry (e : EndNo) (s : State) : Host.Outcome State Fault Refusal :=
  .next (s.heldTimerExpiry e).settle

/-- CODE_TIMER_EXPIRY (R121). -/
def execCodeTimerExpiry (e : EndNo) (s : State) : Host.Outcome State Fault Refusal :=
  .next (s.codeTimerExpiry e).settle

/-- BEAT_DUE (R132). -/
def execBeatDue (e : EndNo) (s : State) : Host.Outcome State Fault Refusal :=
  .next (s.beatDue e).settle

/-- STRIKE_END (R132). -/
def execStrikeEnd (e : EndNo) (s : State) : Host.Outcome State Fault Refusal :=
  .next (s.strikeEnd e).settle

/-- OFFER_HOLD_EXPIRY (R129). -/
def execOfferHoldExpiry (e : EndNo) (s : State) : Host.Outcome State Fault Refusal :=
  .next (s.offerHoldExpiry e).settle

end Sys2Proof.Machine
end

