-- ==== Sys2Proof/Machine/Track.lean ====
section
/-! DEFINITION. The track circuit unit (Chapter 3): the feed timer, samples, the per-cycle computation, margin and
interference, and the meanings of its rows. -/

namespace Sys2Proof.Machine

/-- The end of a minimum-occupied timer started now (R44): a minimum occupied time of 0 expires at once. -/
def ChannelRecord.startMin (r : ChannelRecord) (now : Time) : Option Time :=
  if r.minTime = 0 then none else some (now + r.minTime)

/-- Whether the feed of an enabled channel is on in a half-period (R37): odd-numbered half-periods are first halves. -/
def ChannelRecord.feedOn (r : ChannelRecord) (number : Nat) : Bool :=
  r.enabled && (if r.phase = 0 then decide (number % 2 = 1) else decide (number % 2 = 0))

/-- The differential of a cycle (R41): 0 where S_on is not greater than S_off. -/
def differential (son soff : Nat) : Nat := son - soff

/-- The new filtered value (R42). -/
def filtered (f d : Nat) : Nat := (3 * f + d + 2) / 4

/-- Whether a cycle is an interference cycle (R40). -/
def ChannelRecord.interferes (r : ChannelRecord) (soff : Nat) : Bool := decide (r.strayLimit < soff)

/-- Whether a cycle is a drop cycle (R43). -/
def ChannelRecord.drops (r : ChannelRecord) (son soff : Nat) : Bool :=
  decide (differential son soff < r.tDrop) || r.interferes soff

/-- The pick-up count after a cycle that is not a drop cycle (R45). -/
def ChannelRecord.counted (r : ChannelRecord) (f count : Nat) : Nat := if r.tPick ≤ f then min 15 (count + 1) else 0

/-- Whether an OCCUPIED channel becomes CLEAR, or a CLEAR one stays so (R46, R47): `expired` says that the minimum-occupied timer
has expired. -/
def ChannelRecord.clears (r : ChannelRecord) (clear : Bool) (count : Nat) (expired : Bool) : Bool :=
  clear || (decide (r.p ≤ count) && expired)

/-- The channel as the completion of a cycle leaves it (R40 to R48). -/
def Channel.complete (r : ChannelRecord) (now : Time) (son soff : Nat) (c : Channel) : Channel :=
  let d := differential son soff
  let f := filtered c.f d
  let base : Channel :=
    { c with
      pendingOn := none, lastOn := son, lastOff := soff, lastD := d, f := f, interference := r.interferes soff }
  if r.drops son soff then { base with count := 0, minUntil := r.startMin now, clear := false, marginLow := false }
  else
    let clear := r.clears c.clear (r.counted f c.count) c.minUntil.isNone
    { base with count := r.counted f c.count, clear := clear, marginLow := clear && decide (f < r.tWarn) }

/-- The channel as the expiry of its minimum-occupied timer leaves it (R46, R48). -/
def Channel.expire (r : ChannelRecord) (c : Channel) : Channel :=
  let clear := r.clears c.clear c.count true
  { c with minUntil := none, clear := clear, marginLow := if c.clear then c.marginLow else clear && decide (c.f < r.tWarn) }

/-- TRACK_INTERFERENCE, where the completed cycle is the first of a run (R50, R56). -/
def State.recordInterference (s : State) (c : ChannelNo) (old : Channel) : State :=
  let x := s.track.channels[c]
  if x.interference && !old.interference then
    s.append
      { kind := .trackInterference, subject := c.val + 1, old := bit old.clear, new := bit x.clear
        d1 := hi x.lastOff, d2 := lo x.lastOff, d3 := hi x.lastOn, d4 := lo x.lastOn }
  else s

/-- TRACK_MARGIN_LOW, where the flag has gone from clear to set (R48, R56). -/
def State.recordMargin (s : State) (c : ChannelNo) (old : Channel) : State :=
  let x := s.track.channels[c]
  if x.marginLow && !old.marginLow then
    s.append
      { kind := .trackMarginLow, subject := c.val + 1, old := bit (!old.clear), new := 1
        d1 := hi x.f, d2 := lo x.f, d3 := hi s.cfg.channels[c].tWarn, d4 := lo s.cfg.channels[c].tWarn }
  else s

/-- A channel takes new data: its records are appended, and its report is handed where the state or the interference condition
has changed (R51). -/
def State.changeChannel (s : State) (c : ChannelNo) (f : Channel → Channel) : State :=
  let old := s.track.channels[c]
  let s1 := s.modTrack fun t => { t with channels := upd t.channels c f }
  let s2 := (s1.recordInterference c old).recordMargin c old
  if (f old).clear = old.clear ∧ (f old).interference = old.interference then s2 else s2.reportChannel c

/-- A channel's part in the boundary that ends half-period `number` (R38): at the end of its on half it takes S_on; at the end of its
off half it takes S_off, which completes a cycle where an S_on is pending. -/
def State.sampleChannel (number : Nat) (s : State) (c : ChannelNo) : State :=
  let r := s.cfg.channels[c]
  let x := s.track.channels[c]
  if !r.enabled then s
  else if r.feedOn number then s.changeChannel c fun x => { x with pendingOn := some x.sense.val }
  else match x.pendingOn with
    | some son => s.changeChannel c (Channel.complete r s.now son x.sense.val)
    | none => s

/-- The sense inputs take values. -/
def State.takeSense (s : State) (sense : Vector Sense 12) : State :=
  s.modTrack fun t => { t with channels := Vector.ofFn fun c => { t.channels[c] with sense := sense[c] } }

/-- The feed outputs take their levels for a half-period (R37). -/
def State.driveFeeds (s : State) (number : Nat) : State :=
  s.modTrack fun t =>
    { t with channels := Vector.ofFn fun c => { t.channels[c] with feed := s.cfg.channels[c].feedOn number } }

/-- The feed timer's current half-period, where the part is active and that half-period has ended. -/
def State.boundaryDue (s : State) : Option FeedTimer :=
  if s.active then
    match s.track.feedTimer with
    | some t => if t.until_ ≤ s.now then some t else none
    | none => none
  else none

/-- HALF_PERIOD_BOUNDARY (R36 to R38): samples first, then the feeds change. The channels that complete a cycle at one boundary report to the
combiner in ascending order of channel; R51 leaves the order open (DESIGN CHOICE, log entry 52). -/
def State.halfPeriodBoundary (s : State) (sense : Vector Sense 12) : State :=
  match s.boundaryDue with
  | some t =>
    (((List.finRange 12).foldl (State.sampleChannel t.number) (s.takeSense sense)).driveFeeds (t.number + 1)).modTrack fun x =>
      { x with feedTimer := some { number := t.number + 1, until_ := t.until_ + units s.cfg.halfUnits } }
  | none => s

/-- Whether a channel's minimum-occupied timer has run its time. -/
def State.minOccupiedDue (s : State) (c : ChannelNo) : Bool := s.active && expired s.now s.track.channels[c].minUntil

/-- MIN_OCCUPIED_EXPIRY (R46). -/
def State.minOccupiedExpiry (s : State) (c : ChannelNo) : State :=
  if s.minOccupiedDue c then s.changeChannel c (Channel.expire s.cfg.channels[c]) else s

/-- The unit's part in the entry into RUNNING (R36, R54). -/
def State.startTrack (s : State) : State :=
  (s.modTrack fun t =>
    { feedTimer := some { number := 1, until_ := s.now + units s.cfg.halfUnits }
      channels := Vector.ofFn fun c =>
        if s.cfg.channels[c].enabled then
          { t.channels[c] with minUntil := s.cfg.channels[c].startMin s.now }
        else t.channels[c] }).driveFeeds 1

/-! ### The meanings of the rows -/

/-- HALF_PERIOD_BOUNDARY. -/
def execHalfPeriodBoundary (sense : Vector Sense 12) (s : State) : Host.Outcome State Fault Refusal :=
  .next (s.halfPeriodBoundary sense).settle

/-- MIN_OCCUPIED_EXPIRY. -/
def execMinOccupiedExpiry (c : ChannelNo) (s : State) : Host.Outcome State Fault Refusal :=
  .next (s.minOccupiedExpiry c).settle

end Sys2Proof.Machine
end

