-- ==== Sys2Proof/Machine/Axle.lean ====
section
/-! DEFINITION. The axle counting unit (Chapter 4): head tracking, wheels counted, illegal steps, the reset procedure, and the
meanings of its rows. -/

namespace Sys2Proof.Machine

/-! ### Heads (R59 to R63) -/

/-- The pattern of two debounced sensor values (R60). -/
def patternOf (a b : Bool) : Pattern :=
  match a, b with
  | false, false => .none
  | true, false => .a
  | true, true => .ab
  | false, true => .b

/-- A head's pattern. -/
def Head.pattern (h : Head) : Pattern := patternOf h.a.value h.b.value

/-- Whether a step changes both sensors at once (R60). -/
def illegal (old new : Pattern) : Bool :=
  match old, new with
  | .none, .ab => true
  | .ab, .none => true
  | .a, .b => true
  | .b, .a => true
  | _, _ => false

/-- What a step comes to, besides the head's own new data. -/
inductive StepOutcome
  | nothing
  /-- A wheel is counted; true is UP. -/
  | counted (up : Bool)
  /-- An illegal step; whether it raises HEAD_ERROR, and the entry side of the passage it discards. -/
  | fault (raises : Bool) (entry : Option Side)
deriving DecidableEq, Repr

/-- What a passage counts at its end (R61): the exit side is the pattern before none. -/
def passageCount (entry : Side) (exit : Pattern) : StepOutcome :=
  match entry, exit with
  | .a, .b => .counted true
  | .b, .a => .counted false
  | _, _ => .nothing

/-- The outcome of a step (R60 to R62). -/
def stepOutcome (t : Tracking) (old new : Pattern) : StepOutcome :=
  if illegal old new then
    match t with
    | .idle => .fault true none
    | .passage entry _ => .fault true (some entry)
    | .resync => .fault false none
  else match t, new with
    | .passage entry _, .none => passageCount entry old
    | _, _ => .nothing

/-- The tracking state after a step (R60 to R62). -/
def trackingAfter (t : Tracking) (old new : Pattern) : Tracking :=
  match new with
  | .none => .idle
  | _ =>
    if illegal old new then .resync
    else match t with
      | .idle => match new with
        | .a => .passage .a .a
        | .b => .passage .b .b
        | _ => .idle
      | .passage entry _ => .passage entry new
      | .resync => .resync

/-- The head's ERROR condition after a step (R60, R62): an illegal step sets it, and none clears it. -/
def errorAfter (error : Bool) (old new : Pattern) : Bool :=
  match new with
  | .none => false
  | _ => error || illegal old new

/-- A head's data after a step (R60 to R62): tracking, ERROR, and the counts. -/
def Head.step (old new : Pattern) (h : Head) : Head :=
  let base : Head := { h with tracking := trackingAfter h.tracking old new, error := errorAfter h.error old new }
  match stepOutcome h.tracking old new with
  | .nothing => base
  | .counted true => { base with up := (h.up + 1) % 65536 }
  | .counted false => { base with down := (h.down + 1) % 65536 }
  | .fault true _ => { base with errors := min 255 (h.errors + 1) }
  | .fault false _ => base

/-- The boundary of a section at a head, where the configured section has one (R64). -/
def SectRecord.boundaryAt (r : SectRecord) (h : HeadNo) : Option Boundary :=
  if r.configured then r.boundaries.find? fun b => decide (b.head = h.val + 1) else none

/-- Whether a head bounds a count section. -/
def State.bounds (s : State) (h : HeadNo) (c : SectNo) : Bool := (s.cfg.sects[c].boundaryAt h).isSome

/-- The count sections that a head bounds, in ascending order. -/
def State.boundedBy (s : State) (h : HeadNo) : List SectNo := (List.finRange 6).filter (s.bounds h)

/-- Whether a wheel of a direction counts into the section whose boundary this is (R64). -/
def Boundary.countsIn (b : Boundary) (up : Bool) : Bool :=
  match b.orientation with
  | .upIn => up
  | .downIn => !up
  | .other _ => false

/-- A net moved by one wheel, modulo 4096 (R64). -/
def moveNet (into : Bool) (n : Nat) : Nat := if into then (n + 1) % 4096 else (n + 4095) % 4096

/-- A section as a counted wheel leaves it (R64, R66, R73): the net moves, a nonzero net marks the sweep, the section is
judged. -/
def Sect.countWheel (t : SectType) (into : Bool) (x : Sect) : Sect :=
  let n := moveNet into x.localNet
  Sect.judge t
    { x with localNet := n, swept := x.swept || (decide (x.latch = .resetPrep) && decide (n ≠ 0)) }

/-- The data of every section a head bounds move together (R64): `f` gives each section's new data. -/
def State.moveSects (s : State) (h : HeadNo) (f : SectNo → Sect → Sect) : State :=
  { s with sects := Vector.ofFn fun c => if s.bounds h c then f c s.sects[c] else s.sects[c] }

/-- The reports of every section a head bounds, each judged against the data before the step, in ascending order of section: R69 lets those of
two sections reach their receivers in either order (DESIGN CHOICE, log entry 52). -/
def State.reportSects (s : State) (s0 : State) (h : HeadNo) : State :=
  (s0.boundedBy h).foldl (fun s c => s.reportSect s0 c) s

/-- A COUNT is queued for the block end of a BLOCK section at which a wheel was counted, unless the end is INACTIVE (R70). -/
def State.queueCount (s : State) (c : SectNo) : State :=
  match s.sectEnd c with
  | some e => if s.blocks[e].state = .inactive then s else s.request .count e (s.peerId e) []
  | none => s

/-- A counted wheel is applied to the sections its head bounds (R61, R64, R69, R70). Every section's reports come first, and with them the STATUS
that a train's entry raises; the COUNT is queued last; where the head bounds two BLOCK sections, their COUNTs are queued in ascending order of
section. R70 leaves both orders open (DESIGN CHOICE, log entry 52). -/
def State.applyWheel (s : State) (h : HeadNo) (up : Bool) : State :=
  let into (c : SectNo) : Bool := match s.cfg.sects[c].boundaryAt h with
    | some b => b.countsIn up
    | none => false
  let s1 := (s.moveSects h fun c x => x.countWheel s.cfg.sects[c].type (into c)).reportSects s h
  (s.boundedBy h).foldl State.queueCount s1

/-- HEAD_ERROR (R62, R80). -/
def State.headErrorRecord (s : State) (h : HeadNo) (old new : Pattern) (entry : Option Side) : State :=
  s.append
    { kind := .headError, subject := h.val + 1, old := old.code, new := new.code
      d1 := match entry with
        | some x => Side.code x
        | none => 0
      d2 := (s.boundedBy h).length, d3 := hi s.heads[h].errors, d4 := lo s.heads[h].errors }

/-- An illegal step's effect on the sections the head bounds (R62, R67). -/
def State.disturbSects (s : State) (h : HeadNo) : State := (s.moveSects h fun _ x => x.disturb).reportSects s h

/-- A head takes a step from one pattern to another (R60 to R62). -/
def State.takeStep (s : State) (h : HeadNo) (old new : Pattern) : State :=
  let s1 := s.modHead h (Head.step old new)
  match stepOutcome s.heads[h].tracking old new with
  | .nothing => s1
  | .counted up => s1.applyWheel h up
  | .fault true entry => (s1.headErrorRecord h old new entry).disturbSects h
  | .fault false _ => s1.disturbSects h

/-- Whether a change event of either sensor of a head has come (R59). -/
def State.sensorDue (s : State) (h : HeadNo) : Bool :=
  s.inUse (s.fitted h) && (s.heads[h].a.due debounce2 s.now || s.heads[h].b.due debounce2 s.now)

/-- HEAD_STEP (R59, R60): the debounced values take their change events; while the part is active a fitted head takes the step. -/
def State.headStep (s : State) (h : HeadNo) : State :=
  if s.sensorDue h then
    let s1 := s.modHead h fun x => { x with a := x.a.settle debounce2 s.now, b := x.b.settle debounce2 s.now }
    if s.active then s1.takeStep h s.heads[h].pattern s1.heads[h].pattern else s1
  else s

/-- The heads' part in the entry into RUNNING (R59, R63). -/
def State.startHeads (s : State) : State :=
  { s with heads := Vector.ofFn fun h =>
      let x := s.heads[h]
      if s.fitted h then { x with tracking := if x.pattern = .none then .idle else .resync }
      else { x with a := x.a.disuse, b := x.b.disuse } }

/-! ### The reset procedure (section 4.7) -/

/-- The time a request's window runs (R74, R75). -/
def requestWindow : Time := secs 60

/-- Whether the change event of a section's reset key to a level has come (R71). -/
def State.keyDue (s : State) (c : SectNo) (level : Bool) : Bool :=
  s.inUse true && decide (s.sects[c].key.raw = level) && s.sects[c].key.due debounce50 s.now

/-- A reset key's debounced value takes the raw level. -/
def State.settleKey (s : State) (c : SectNo) : State :=
  s.modSect c fun x => { x with key := x.key.settle debounce50 s.now }

/-- A press refused with an outcome (R71, R74, R76). -/
def State.refusePress (s : State) (c : SectNo) (o : ResetOutcome) : State := s.resetRecord s c o

/-- Whether a block end's state lets a reset be requested or confirmed (R74, R76). -/
def BlockState.allowsReset : BlockState → Bool
  | .normal => true
  | .occupiedIn => true
  | .occupiedOut => true
  | .recovering => true
  | _ => false

/-- A press starts a request (R74). -/
def State.startRequest (s : State) (c : SectNo) (e : EndNo) : State :=
  if s.sects[c].pending.isSome then s
  else if !s.line.link[e] then s.refusePress c .refusedLink
  else if !s.blocks[e].state.allowsReset then s.refusePress c .refusedBlockState
  else match (s.answerTo .resetReq e).seq with
    | some n =>
      (((s.request .resetReq e (s.peerId e) []).modSect c fun x =>
        { x with pending := some ⟨s.now + requestWindow, n⟩ })).resetRecord s c .requested
    | none => s.refusePress c .refusedSlots

/-- The section zeroes with a RESET_CONFIRM queued under a number (R76 from step 4, R75 for a crossing). -/
def State.confirmReset (s : State) (c : SectNo) (e : EndNo) (seq : Nat) (o : ResetOutcome) : State :=
  ((s.request .resetConfirm e (s.peerId e) []).changeSect c fun x =>
    { x.zero with held := none, pending := none, confirming := some seq }).resetRecord s c o

/-- A press confirms a held request (R76). -/
def State.confirmHeld (s : State) (c : SectNo) (e : EndNo) : State :=
  if !s.line.link[e] then s.refusePress c .refusedLink
  else if !s.blocks[e].state.allowsReset then s.refusePress c .refusedBlockState
  else match (s.answerTo .resetConfirm e).seq with
    | some n => s.confirmReset c e n .confirmed
    | none => s.refusePress c .refusedSlots

/-- A press of a configured section's key is judged (R71, R72). -/
def State.pressKey (s : State) (c : SectNo) : State :=
  if s.sectState c = .clear then s.refusePress c .refusedClear
  else match s.sectEnd c with
    | none => (s.changeSect c Sect.zeroLocal).resetRecord s c .localReset
    | some e => if s.sects[c].held.isSome then s.confirmHeld c e else s.startRequest c e

/-- COUNT_RESET_KEY_PRESS (R71). -/
def State.countResetKeyPress (s : State) (c : SectNo) : State :=
  if s.keyDue c true then
    let s1 := s.settleKey c
    if s.active && s.cfg.sects[c].configured then s1.pressKey c else s1
  else s

/-- A RESET_REQ is delivered for an end (R75): it is held, or it confirms the section's own request. -/
def State.requestTaken (s : State) (e : EndNo) : State :=
  match s.sectOf e with
  | some c =>
    if s.sects[c].pending.isSome then
      match (s.answerTo .resetConfirm e).seq with
      | some n => s.confirmReset c e n .crossed
      | none => (s.modSect c fun x => { x with pending := none }).resetRecord s c .refusedSlots
    else s.modSect c fun x => { x with held := some (s.now + requestWindow) }
  | none => s

/-- A RESET_CONFIRM is delivered for an end (R77): it completes a pending request. -/
def State.confirmTaken (s : State) (e : EndNo) : State :=
  match s.sectOf e with
  | some c =>
    if s.sects[c].pending.isSome then
      (s.changeSect c fun x => { x.zero with pending := none }).resetRecord s c .completed
    else s
  | none => s

/-- Whether a pending request's window has run out. -/
def State.requestDue (s : State) (c : SectNo) : Bool := s.active && expired s.now (s.sects[c].pending.map (·.until_))

/-- RESET_REQUEST_WINDOW_EXPIRY (R78). -/
def State.resetRequestWindowExpiry (s : State) (c : SectNo) : State :=
  if s.requestDue c then (s.modSect c fun x => { x with pending := none }).resetRecord s c .expired else s

/-- Whether a held request's window has run out. -/
def State.heldDue (s : State) (c : SectNo) : Bool := s.active && expired s.now s.sects[c].held

/-- HELD_REQUEST_WINDOW_EXPIRY (R78): no event is raised. -/
def State.heldRequestWindowExpiry (s : State) (c : SectNo) : State :=
  if s.heldDue c then s.modSect c fun x => { x with held := none } else s

/-! ### The rows of this chapter as commands -/

/-- HEAD_STEP (R59 to R64). -/
def execHeadStep (h : HeadNo) (s : State) : Host.Outcome State Fault Refusal :=
  .next (s.headStep h).settle

/-- COUNT_RESET_KEY_PRESS (R71 to R76). -/
def execCountResetKeyPress (c : SectNo) (s : State) : Host.Outcome State Fault Refusal :=
  .next (s.countResetKeyPress c).settle

/-- RESET_REQUEST_WINDOW_EXPIRY (R78). -/
def execResetRequestWindowExpiry (c : SectNo) (s : State) : Host.Outcome State Fault Refusal :=
  .next (s.resetRequestWindowExpiry c).settle

/-- HELD_REQUEST_WINDOW_EXPIRY (R78). -/
def execHeldRequestWindowExpiry (c : SectNo) (s : State) : Host.Outcome State Fault Refusal :=
  .next (s.heldRequestWindowExpiry c).settle

end Sys2Proof.Machine
end

