-- ==== Sys2Proof/Machine/Orders.lean ====
section
/-! DEFINITION. What one block has another do: a change of an end's link and its reports (R113, R114), the switching orders to a
block end (R159), the change of the part state (R179), and the re-pairing of the designated ends' sections (R174). -/

namespace Sys2Proof.Machine

/-! ### Links (R113, R114) -/

/-- Whether the last-heard timer of an end's current peer is running. -/
def State.peerHeard (s : State) (e : EndNo) : Bool := s.line.heard[identityIndex (s.peerId e)].running

/-- LINK_RESTORED or LINK_LOST (R116), with its last detail byte. -/
def State.linkRecord (s : State) (e : EndNo) (up : Bool) (d4 : Nat) : State :=
  s.append
    { kind := if up then .linkRestored else .linkLost, subject := e.val, old := bit (!up), new := bit up
      d1 := s.peerId e, d2 := s.peerEnd e, d3 := bit s.blocks[e].long, d4 := d4 }

/-- An end's link becomes LOST: the block controller, the axle counting unit and the bell unit act on it (R154, R65, R129, R133). -/
def State.reportLinkLost (s : State) (e : EndNo) : State :=
  (((s.suspendRelease e).sectLinkLost e).clearOffer e).flushPlayout e

/-- An end's link takes a new value: it is recorded and reported (R113). At the link's return no block has anything to do. At a loss LINK_LOST is
appended before the BLOCK_STATE_CHANGED, COUNT_STATE_CHANGED and COUNT_RESET records that its reports raise: R113's text names the reports first,
and R116 fixes the order for LINK_RESTORED alone (DESIGN CHOICE, log entry 20). -/
def State.setLink (s : State) (e : EndNo) (up : Bool) (d4 : Nat) : State :=
  let s1 := (s.modLine fun l => { l with link := l.link.set e up }).linkRecord e up d4
  if up then s1 else s1.reportLinkLost e

/-- An end's link is judged from its current peer's timer: a change is made, recorded and reported, with the last detail byte for
either way. -/
def State.judgeLink (s : State) (e : EndNo) (d4Up d4Lost : Nat) : State :=
  if s.peerHeard e = s.line.link[e] then s
  else s.setLink e (s.peerHeard e) (if s.peerHeard e then d4Up else d4Lost)

/-! ### Switching orders (R159) -/

/-- What every order does to an end's record first: the timers are stopped and the refusal mark is cleared. -/
def BlockEnd.ordered (b : BlockEnd) : BlockEnd := { b with acceptUntil := none, cancelUntil := none, refusal := none }

/-- An end is ordered into a state (R159): its release becomes NONE, and the change is reported and recorded. A cleared refusal mark
raises a STATUS though the state stays. An end that becomes INACTIVE ends its bell work (R121, R122, R133). -/
def State.orderState (s : State) (e : EndNo) (st : BlockState) : State :=
  let s1 := (s.modBlock e BlockEnd.ordered).changeEnd e st .none .switching
  let s2 := if s.blocks[e].refusal.isSome then s1.raiseStatus e else s1
  if st = .inactive then s2.bellInactive e else s2

/-- An end is ordered to a pairing (R159): the outstanding frame and the mismatch mark are cleared, the remote net is discarded, the
playout queue is flushed, the link is judged afresh, and a STATUS goes to the new peer. -/
def State.orderPairing (s : State) (e : EndNo) (long : Bool) : State :=
  let s1 := s.modBlock e fun b => { b.ordered with long := long, outstanding := none, mismatch := false }
  let s2 := s1.changeEnd e s1.blocks[e].state .none .switching
  (((s2.rePairSect e).flushPlayout e).judgeLink e 0 1).raiseStatus e

/-- An end still in SWITCHING is ordered to NORMAL (R167, R169, R171). -/
def State.releaseEnd (s : State) (e : EndNo) : State :=
  if s.blocks[e].state = .switching then s.orderState e .normal else s

/-- Both designated ends are ordered into a state, the first and then the second, and so their STATUS frames enter the slots: no rule orders the
two (R169, R172, R174, R175; DESIGN CHOICE, log entry 67). -/
def State.orderBoth (s : State) (st : BlockState) : State := (s.orderState s.first st).orderState s.second st

/-- The switchable part reports a re-pairing of both designated ends' sections (R174), of the first and then of the second (DESIGN CHOICE, log
entry 67). -/
def State.rePairBoth (s : State) : State := (s.rePairSect s.first).rePairSect s.second

/-- The part state changes between RUNNING and SWITCHED_OUT (R179): every lock output follows it (R9 to R11). -/
def State.setPartState (s : State) (p : PartState) : State := (s.modLoader fun l => { l with partState := p }).driveAll

/-- A RECOVERING end whose direct peer is switched out is ordered to LONG pairing where it has an alternate peer (R158, R171). -/
def State.longAtStart (s : State) (e : EndNo) : State :=
  if s.cfg.ends[e].altId ≠ 0 ∧ s.blocks[e].long = false then
    (s.switchRecord (.one e s.cfg.ends[e].directId) Direction.out.code .longAtStart none none).orderPairing e true
  else s

end Sys2Proof.Machine
end

