-- ==== Sys2Proof/Machine/Block.lean ====
section
/-! DEFINITION. The block controller (Chapter 8): acceptance, withdrawal, train out of section, cancellation, the frames delivered
for an end, reconciliation and adoption, and the meanings of its rows. -/

namespace Sys2Proof.Machine

/-! ### Instruments (R137) -/

/-- Whether the change event of an instrument of an end to a level has come. -/
def State.instrumentDue (s : State) (e : EndNo) (c : Contact) (level : Bool) : Bool :=
  s.inUse (s.endConfigured e) && decide (c.raw = level) && c.due debounce50 s.now

/-- Whether an end's movements and presses are taken (R137, R159). -/
def State.instrumented (s : State) (e : EndNo) : Bool :=
  s.active && s.endConfigured e && decide (s.blocks[e].state ≠ .inactive)

/-- The block switch's debounced value takes the raw level. -/
def State.settleSwitch (s : State) (e : EndNo) : State :=
  s.modBlock e fun b => { b with switch := b.switch.settle debounce50 s.now }

/-- The TOS plunger's debounced value takes the raw level. -/
def State.settleTos (s : State) (e : EndNo) : State :=
  s.modBlock e fun b => { b with tos := b.tos.settle debounce50 s.now }

/-- The CANCEL plunger's debounced value takes the raw level. -/
def State.settleCancel (s : State) (e : EndNo) : State :=
  s.modBlock e fun b => { b with cancel := b.cancel.settle debounce50 s.now }

/-! ### Acceptance at the advance end (R140, R141) -/

/-- Whether an end's overlap, where one is configured, is CLEAR (R140). -/
def State.overlapClear (s : State) (e : EndNo) : Bool :=
  match item s.combiner.sects s.cfg.ends[e].overlap with
  | some d => d.clear
  | none => true

/-- The first of checks 1 to 7 of R140 that fails. -/
def State.acceptFailure (s : State) (e : EndNo) : Option Reason :=
  if s.blocks[e].state ≠ .normal then some .notNormal
  else if !s.line.link[e] then some .link
  else if s.loader.partState ≠ .running then some .part
  else if s.endSectState e ≠ .clear then some .count
  else if s.bells[e].offer.isNone then some .noOffer
  else if !s.repetitionSatisfied e then some .noRepeat
  else if !s.overlapClear e then some .overlap
  else none

/-- The index of the offer held for an end, as a record shows it (R161). -/
def State.offerIndex (s : State) (e : EndNo) : Nat := indexCode (s.bells[e].offer.map (·.index))

/-- ACCEPT_REFUSED (R161): `how` is 1 for the block switch and 2 for a received ACCEPT. -/
def State.acceptRefused (s : State) (e : EndNo) (how : Nat) (r : Reason) (d2 : Nat) : State :=
  s.append
    { kind := .acceptRefused, subject := e.val, old := how, new := r.code, d1 := s.blocks[e].state.code, d2 := d2
      d3 := (s.endSectState e).code }

/-- The time an acceptance waits for the rear's answer (R140). -/
def acceptanceTime : Time := secs 5

/-- The acceptance is sent (R140): the ACCEPT is queued with the offer's index, and the end enters ACCEPTING. -/
def State.sendAccept (s : State) (e : EndNo) (seq : Nat) : State :=
  (((s.requestOutstanding e .accept [byte (s.offerIndex e)]).modBlock e fun b =>
    { b with acceptUntil := some (s.now + acceptanceTime), acceptDelivered := false, acceptSeq := some seq }).changeEnd
      e .accepting .none .blockSwitch).clearOffer e

/-- A movement of the block switch to ACCEPT is judged (R140). -/
def State.judgeAccept (s : State) (e : EndNo) : State :=
  match s.acceptFailure e with
  | some r => s.acceptRefused e 1 r (s.offerIndex e)
  | none => match (s.answerTo .accept e).seq with
    | some n => s.sendAccept e n
    | none => s.acceptRefused e 1 .slots (s.offerIndex e)

/-- BLOCK_SWITCH_TO_ACCEPT (R137, R140). -/
def State.blockSwitchToAccept (s : State) (e : EndNo) : State :=
  if s.instrumentDue e s.blocks[e].switch true then
    if s.instrumented e then (s.settleSwitch e).judgeAccept e else s.settleSwitch e
  else s

/-- An acceptance ends in NORMAL with a WITHDRAW queued (R141). -/
def State.giveUpAcceptance (s : State) (e : EndNo) (cause : Cause) : State :=
  (s.changeEnd e .normal .none cause).requestOutstanding e .withdraw []

/-- A movement of the block switch to NORMAL is taken (R141, R146). -/
def State.judgeNormal (s : State) (e : EndNo) : State :=
  match s.blocks[e].state with
  | .accepting => s.giveUpAcceptance e .blockSwitch
  | .clearIn => match (s.answerTo .withdraw e).seq with
    | some _ => s.requestOutstanding e .withdraw []
    | none => s.refuseOperation e .blockSwitch .withdrawSlots
  | _ => s

/-- BLOCK_SWITCH_TO_NORMAL (R137, R146). -/
def State.blockSwitchToNormal (s : State) (e : EndNo) : State :=
  if s.instrumentDue e s.blocks[e].switch false then
    if s.instrumented e then (s.settleSwitch e).judgeNormal e else s.settleSwitch e
  else s

/-- ACCEPTANCE_TIMER_EXPIRY (R141). -/
def State.acceptanceTimerExpiry (s : State) (e : EndNo) : State :=
  if s.active && expired s.now s.blocks[e].acceptUntil then
    match s.blocks[e].state with
    | .accepting => s.giveUpAcceptance e .acceptExpired
    | _ => s.modBlock e fun b => { b with acceptUntil := none }
  else s

/-! ### Train out of section and cancellation (R149 to R152) -/

/-- The local net of an end's BLOCK count section. -/
def State.endNet (s : State) (e : EndNo) : Nat :=
  match s.sectOf e with
  | some c => s.sects[c].localNet
  | none => 0

/-- A press of the TOS plunger is taken (R149). -/
def State.pressTos (s : State) (e : EndNo) : State :=
  if s.blocks[e].state ≠ .occupiedIn then s
  else if s.endSectState e ≠ .clear ∧ s.endSectState e ≠ .resetPrep then s.refuseOperation e .tosPlunger .tosCount
  else match (s.answerTo .tos e).seq with
    | some _ => (s.requestOutstanding e .tos (bytes2 (s.endNet e))).changeEnd e .normal .none .tosPlunger
    | none => s.refuseOperation e .tosPlunger .tosSlots

/-- TOS_PLUNGER_PRESS (R137, R149). -/
def State.tosPlungerPress (s : State) (e : EndNo) : State :=
  if s.instrumentDue e s.blocks[e].tos true then
    if s.instrumented e then (s.settleTos e).pressTos e else s.settleTos e
  else s

/-- An end returns to NORMAL with a CANCEL queued (R151, R152). -/
def State.cancelEnd (s : State) (e : EndNo) (cause : Cause) : State :=
  (s.changeEnd e .normal .none cause).requestOutstanding e .cancel []

/-- A press of the CANCEL plunger is taken (R151). At an end left in CLEAR_OUT with release NONE, for which R151 has no row, it is disregarded
(DESIGN CHOICE, log entry 61). -/
def State.pressCancel (s : State) (e : EndNo) : State :=
  if s.blocks[e].state ≠ .clearOut then s
  else match s.blocks[e].release with
    | .unused => s.cancelEnd e .cancelPlunger
    | .suspended => s.cancelEnd e .cancelPlunger
    | .taken => s.refuseOperation e .cancelPlunger .cancelTaken
    | .spent =>
      (s.modBlock e fun b => { b with cancelUntil := some (s.now + secs s.cfg.cancellationSecs) }).changeEnd
        e .cancelling .none .cancelPlunger
    | .none => s

/-- CANCEL_PLUNGER_PRESS (R137, R151). -/
def State.cancelPlungerPress (s : State) (e : EndNo) : State :=
  if s.instrumentDue e s.blocks[e].cancel true then
    if s.instrumented e then (s.settleCancel e).pressCancel e else s.settleCancel e
  else s

/-- CANCELLATION_TIMER_EXPIRY (R152). -/
def State.cancellationTimerExpiry (s : State) (e : EndNo) : State :=
  if s.active && expired s.now s.blocks[e].cancelUntil then
    match s.blocks[e].state with
    | .cancelling => s.cancelEnd e .cancelExpired
    | _ => s.modBlock e fun b => { b with cancelUntil := none }
  else s

/-- PLUNGER_OR_KEY_RELEASE (R71, R137): the debounced value is updated and nothing else. -/
def State.plungerOrKeyRelease (s : State) (x : ReleaseInput) : State :=
  match x with
  | .tosPlunger e => if s.instrumentDue e s.blocks[e].tos false then s.settleTos e else s
  | .cancelPlunger e => if s.instrumentDue e s.blocks[e].cancel false then s.settleCancel e else s
  | .resetKey c => if s.keyDue c false then s.settleKey c else s

/-- REFUSAL_MARK_EXPIRY (R144). -/
def State.refusalMarkExpiry (s : State) (e : EndNo) : State :=
  if s.active && expired s.now (s.blocks[e].refusal.map (·.until_)) then
    (s.modBlock e fun b => { b with refusal := none }).raiseStatus e
  else s

/-! ### Frames delivered for an end (R142, R143, R147, R150, R152) -/

/-- Whether an end's starter lever is NORMAL, as the scanner holds it (R142). -/
def State.starterNormal (s : State) (e : EndNo) : Bool :=
  match s.starterOf e with
  | some i => decide (s.levers[i].position = .normal)
  | none => false

/-- The first of the checks of R142 that fails, the end's state being taken as `st`. -/
def State.rearFailure (s : State) (e : EndNo) (st : BlockState) : Option Reason :=
  if s.loader.partState ≠ .running then some .part
  else if st = .switching then some .switching
  else if st ≠ .normal then some .notNormal
  else if s.endSectState e ≠ .clear then some .count
  else if !s.starterNormal e then some .starter
  else none

/-- A received ACCEPT is granted (R142): the end enters CLEAR_OUT with release UNUSED. An offered code index above 15, which R98 does not list and
R95 does not discard, is kept as it came (DESIGN CHOICE, log entry 60). -/
def State.grant (s : State) (e : EndNo) (index : Nat) (cause : Cause) : State :=
  (s.modBlock e fun b => { b with acceptedIndex := some index }).changeEnd e .clearOut .unused cause

/-- A received ACCEPT is refused (R142): the mark is set for 5 s and ACCEPT_REFUSED is appended. -/
def State.refuseAccept (s : State) (e : EndNo) (r : Reason) (sender : Nat) : State :=
  (s.setRefusal e r).acceptRefused e 2 r sender

/-- The two boxes have accepted toward each other (R143): the lower identity's acceptance stands. -/
def State.crossedAccept (s : State) (e : EndNo) (index sender : Nat) : State :=
  if sender < s.cfg.identity then
    let s1 := s.modBlock e fun b => { b with acceptUntil := none, acceptDelivered := false }
    match s1.rearFailure e .normal with
    | none => s1.grant e index .crossed
    | some r => (s1.changeEnd e .normal .none .crossed).refuseAccept e r sender
  else s

/-- An ACCEPT is delivered for an end (R142). -/
def State.acceptTaken (s : State) (e : EndNo) (index sender : Nat) : State :=
  match s.blocks[e].state with
  | .inactive => s
  | .clearOut => s.raiseStatus e
  | .accepting => s.crossedAccept e index sender
  | st => match s.rearFailure e st with
    | none => s.grant e index .acceptTaken
    | some r => s.refuseAccept e r sender

/-- A WITHDRAW is delivered for an end (R147). At an end left in CLEAR_OUT with release NONE, for which R147 has no row, it is refused as with
TAKEN or SPENT (DESIGN CHOICE, log entry 61). -/
def State.withdrawTaken (s : State) (e : EndNo) : State :=
  match s.blocks[e].state with
  | .inactive => s
  | .clearOut => match s.blocks[e].release with
    | .unused => s.changeEnd e .normal .none .withdrawTaken
    | .suspended => s.changeEnd e .normal .none .withdrawTaken
    | _ => (s.raiseStatus e).refuseOperation e .withdrawTaken .withdrawTaken
  | _ => s.raiseStatus e

/-- A TOS is delivered for an end, after the axle counting unit has taken its net (R150). -/
def State.tosTaken (s : State) (e : EndNo) : State :=
  match s.blocks[e].state with
  | .occupiedOut => s.changeEnd e .normal .none .tosTaken
  | .clearOut => s.changeEnd e .normal .none .tosTaken
  | .cancelling => s.changeEnd e .normal .none .tosTaken
  | _ => s

/-- A CANCEL is delivered for an end (R152). -/
def State.cancelTaken (s : State) (e : EndNo) : State :=
  match s.blocks[e].state with
  | .clearIn => s.changeEnd e .normal .none .cancelTaken
  | _ => s

/-! ### Reconciliation (R155 to R158) -/

/-- What a compared STATUS calls for (R156). -/
inductive Reconcile
  | keep
  | become (st : BlockState)
  | sendWithdraw
  | sendCancel
  | mismatch
deriving DecidableEq, Repr

/-- Whether a release code is that of UNUSED or SUSPENDED. -/
def Release.unstarted : Release → Bool
  | .unused => true
  | .suspended => true
  | _ => false

/-- Whether a release code is that of TAKEN or SPENT. -/
def Release.started : Release → Bool
  | .taken => true
  | .spent => true
  | _ => false

/-- The table of R156 for an end in NORMAL; a peer release outside the table leaves the pair not listed. -/
def reconcileNormal (peer : BlockState) (peerRelease : Option Release) : Reconcile :=
  match peer with
  | .normal => .keep
  | .accepting => .keep
  | .clearIn => .sendCancel
  | .clearOut =>
    if peerRelease.any Release.unstarted then .sendWithdraw
    else if peerRelease.any Release.started then .become .clearIn
    else .mismatch
  | .cancelling => .become .clearIn
  | .occupiedOut => .become .occupiedIn
  | .occupiedIn => .become .occupiedOut
  | _ => .mismatch

/-- The table of R156; a peer in RECOVERING is compared as NORMAL by the caller. CLEAR_OUT with release NONE against NORMAL, a release its row does
not name, is kept with no mismatch (DESIGN CHOICE, log entry 61). -/
def reconcile (st : BlockState) (release : Release) (peer : BlockState) (peerRelease : Option Release) : Reconcile :=
  match st, peer with
  | .normal, p => reconcileNormal p peerRelease
  | .clearIn, .normal => .become .normal
  | .clearIn, .clearOut => .keep
  | .clearIn, .cancelling => .keep
  | .clearIn, .occupiedOut => .become .occupiedIn
  | .clearOut, .normal => if release.unstarted then .become .normal else .keep
  | .clearOut, .clearIn => .keep
  | .clearOut, .accepting => .keep
  | .clearOut, .occupiedIn => .become .occupiedOut
  | .cancelling, .occupiedIn => .become .occupiedOut
  | .cancelling, .clearIn => .keep
  | .cancelling, .normal => .keep
  | .occupiedIn, .occupiedOut => .keep
  | .occupiedIn, .normal => .keep
  | .occupiedIn, .clearOut => .keep
  | .occupiedIn, .cancelling => .keep
  | .occupiedOut, .occupiedIn => .keep
  | .occupiedOut, .normal => .keep
  | .occupiedOut, .clearIn => .keep
  | _, _ => .mismatch

/-- A peer state as R156 compares it: RECOVERING as NORMAL. -/
def comparedAs : BlockState → BlockState
  | .recovering => .normal
  | p => p

/-- What a compared STATUS calls for at an end: a state code outside R98's table is in no listed pair. -/
def State.reconciliation (s : State) (e : EndNo) (f : StatusFields) : Reconcile :=
  match BlockState.ofCode f.state with
  | some p => reconcile s.blocks[e].state s.blocks[e].release (comparedAs p) (Release.ofCode f.release)
  | none => .mismatch

/-- A pair not listed sets the mismatch mark, and records STATE_MISMATCH where it was clear (R157, R161). -/
def State.markMismatch (s : State) (e : EndNo) (f : StatusFields) : State :=
  if s.blocks[e].mismatch then s
  else
    (s.modBlock e fun b => { b with mismatch := true }).append
      { kind := .stateMismatch, subject := e.val, old := s.blocks[e].state.code, new := f.state, d1 := f.release
        d2 := s.peerId e, d3 := f.sect, d4 := bit s.blocks[e].long }

/-- A compared STATUS that falls in a listed row clears the mismatch mark (R157). -/
def State.clearMismatch (s : State) (e : EndNo) : State := s.modBlock e fun b => { b with mismatch := false }

/-- A compared peer STATUS acts (R156, R157). -/
def State.actOnStatus (s : State) (e : EndNo) (f : StatusFields) : State :=
  match s.reconciliation e f with
  | .mismatch => s.markMismatch e f
  | .keep => s.clearMismatch e
  | .become st => (s.clearMismatch e).changeEnd e st .none .reconciled
  | .sendWithdraw => (s.clearMismatch e).requestOutstanding e .withdraw []
  | .sendCancel => (s.clearMismatch e).requestOutstanding e .cancel []

/-- Whether a peer state is one that no STATUS is compared against (R155). -/
def uncompared (code : Nat) : Bool :=
  match BlockState.ofCode code with
  | some .obstructed => true
  | some .switching => true
  | some .inactive => true
  | _ => false

/-- A peer STATUS reaches an end in ordinary working (R145, R155): a SUSPENDED release is restored by a peer in CLEAR_IN, and the
STATUS is compared where nothing forbids it. -/
def State.compareStatus (s : State) (e : EndNo) (f : StatusFields) : State :=
  let s1 :=
    if s.blocks[e].state = .clearOut ∧ s.blocks[e].release = .suspended ∧ BlockState.ofCode f.state = some .clearIn then
      s.changeEnd e .clearOut .unused .reconciled
    else s
  if uncompared f.state || s1.blocks[e].outstanding.isSome then s1 else s1.actOnStatus e f

/-- A peer STATUS reaches an end in ACCEPTING (R141). -/
def State.answerAccepting (s : State) (e : EndNo) (f : StatusFields) : State :=
  if BlockState.ofCode f.state = some .clearOut then s.changeEnd e .clearIn .none .peerClearOut
  else if f.mark ≠ 0 ∧ s.blocks[e].acceptDelivered then s.changeEnd e .normal .none .peerRefused
  else s

/-- The state a RECOVERING end adopts (R158): none for a peer in INACTIVE. -/
def adopted : BlockState → Option BlockState
  | .normal => some .normal
  | .accepting => some .normal
  | .clearIn => some .normal
  | .switching => some .normal
  | .clearOut => some .clearIn
  | .cancelling => some .clearIn
  | .occupiedOut => some .occupiedIn
  | .occupiedIn => some .occupiedOut
  | .obstructed => some .obstructed
  | .recovering => some .normal
  | .inactive => none

/-- A peer STATUS reaches an end in RECOVERING (R158). -/
def State.adoptStatus (s : State) (e : EndNo) (f : StatusFields) : State :=
  match BlockState.ofCode f.state with
  | some p => match adopted p with
    | some st => s.changeEnd e st .none .recovered
    | none => s.longAtStart e
  | none => s

/-- A STATUS is delivered for an end, after the axle counting unit has taken its net (R141, R155 to R159). -/
def State.statusTaken (s : State) (e : EndNo) (f : StatusFields) : State :=
  match s.blocks[e].state with
  | .accepting => s.answerAccepting e f
  | .recovering => s.adoptStatus e f
  | .switching => s
  | .inactive => s
  | .obstructed => s
  | _ => s.compareStatus e f

/-! ### Outcomes of the controller's own frames (R141, R155) -/

/-- A report for one of the end's frames clears the outstanding frame where it is that one. -/
def State.clearOutstanding (s : State) (e : EndNo) (seq : Nat) : State :=
  if s.blocks[e].outstanding.map (·.seq) = some seq then s.modBlock e fun b => { b with outstanding := none } else s

/-- DELIVERED for a frame of the block controller's (R141). -/
def State.blockDelivered (s : State) (e : EndNo) (seq : Nat) : State :=
  let s1 := s.clearOutstanding e seq
  if s.blocks[e].state = .accepting ∧ s.blocks[e].acceptSeq = some seq then
    s1.modBlock e fun b => { b with acceptDelivered := true }
  else s1

/-- UNDELIVERED for a frame of the block controller's (R141). -/
def State.blockUndelivered (s : State) (e : EndNo) (seq : Nat) : State :=
  let s1 := s.clearOutstanding e seq
  if s.blocks[e].state = .accepting ∧ s.blocks[e].acceptSeq = some seq then s1.changeEnd e .normal .none .acceptUndelivered
  else s1

/-- The controller's part in the entry into RUNNING: the instruments of an end that is not configured are out of use (R137). -/
def State.startBlocks (s : State) : State :=
  { s with blocks := Vector.ofFn fun e =>
      let b := s.blocks[e]
      if s.endConfigured e then b else { b with switch := b.switch.disuse, tos := b.tos.disuse, cancel := b.cancel.disuse } }

/-! ### The rows of this chapter as commands -/

/-- BLOCK_SWITCH_TO_ACCEPT (R140). -/
def execBlockSwitchToAccept (e : EndNo) (s : State) : Host.Outcome State Fault Refusal :=
  .next (s.blockSwitchToAccept e).settle

/-- BLOCK_SWITCH_TO_NORMAL (R141, R146). -/
def execBlockSwitchToNormal (e : EndNo) (s : State) : Host.Outcome State Fault Refusal :=
  .next (s.blockSwitchToNormal e).settle

/-- TOS_PLUNGER_PRESS (R149). -/
def execTosPlungerPress (e : EndNo) (s : State) : Host.Outcome State Fault Refusal :=
  .next (s.tosPlungerPress e).settle

/-- CANCEL_PLUNGER_PRESS (R151). -/
def execCancelPlungerPress (e : EndNo) (s : State) : Host.Outcome State Fault Refusal :=
  .next (s.cancelPlungerPress e).settle

/-- PLUNGER_OR_KEY_RELEASE (R71, R137). -/
def execPlungerOrKeyRelease (x : ReleaseInput) (s : State) : Host.Outcome State Fault Refusal :=
  .next (s.plungerOrKeyRelease x).settle

/-- ACCEPTANCE_TIMER_EXPIRY (R141). -/
def execAcceptanceTimerExpiry (e : EndNo) (s : State) : Host.Outcome State Fault Refusal :=
  .next (s.acceptanceTimerExpiry e).settle

/-- CANCELLATION_TIMER_EXPIRY (R152). -/
def execCancellationTimerExpiry (e : EndNo) (s : State) : Host.Outcome State Fault Refusal :=
  .next (s.cancellationTimerExpiry e).settle

/-- REFUSAL_MARK_EXPIRY (R144). -/
def execRefusalMarkExpiry (e : EndNo) (s : State) : Host.Outcome State Fault Refusal :=
  .next (s.refusalMarkExpiry e).settle

end Sys2Proof.Machine
end

