-- ==== Sys2Proof/Machine/Switching.lean ====
section
/-! DEFINITION. The switching controller (Chapter 9): proposals, answers, drain and commit at the switchable part; judging, holding
and pairing at a neighbour; overheard STATUS frames; and the meanings of its rows. -/

namespace Sys2Proof.Machine

/-- The 10 s of the agreement limit and of a hold (R164, R166). -/
def agreementTime : Time := secs 10

/-- The payload of a SWITCH_PROPOSE and a SWITCH_COMMIT (R97, R165): the direction and the two neighbour pairs. -/
def State.neighbourPayload (s : State) (d : Direction) : List Byte :=
  let a := s.cfg.ends[s.first]
  let b := s.cfg.ends[s.second]
  [byte d.code, byte a.directId, byte a.directEnd, byte b.directId, byte b.directEnd]

/-- The neighbour of a designated end, as a SWITCHING record concerns it (R176). -/
def State.neighbourOf (s : State) (e : EndNo) : Concern := .one e s.cfg.ends[e].directId

/-! ### Proposals (R165, R173) -/

/-- A proposal is refused locally (R165). -/
def State.refuseLocally (s : State) (d : Direction) (r : SwitchReason) (k : Concern) : State :=
  s.switchRecord k d.code .refusedLocally (some r) none

/-- The state in which a proposal of a direction stands (R164). -/
def Direction.proposing : Direction → SwitchState
  | .out => .proposingOut
  | .into => .proposingIn

/-- The proposal stands (R165, R173). -/
def State.formProposal (s : State) (d : Direction) : State :=
  (s.modSwitching fun w =>
    { w with
      state := d.proposing, startWatch := false
      agreement := some { direction := d, until_ := s.now + agreementTime } }).switchRecord .both d.code .proposed none none

/-- The two SWITCH_PROPOSE frames are queued in turn (check 7 of R165, check 3 of R173); a second one refused is followed by a
SWITCH_ABANDON to the first neighbour. -/
def State.sendProposals (s : State) (d : Direction) : State :=
  match (s.answerTo .switchPropose s.first).seq with
  | none => s.refuseLocally d .slots (s.neighbourOf s.first)
  | some _ =>
    let s1 := s.requestSwitch .switchPropose s.first (s.neighbourPayload d)
    match (s1.answerTo .switchPropose s.second).seq with
    | none => (s1.sendAbandon d s.first true).refuseLocally d .slots (s.neighbourOf s.second)
    | some _ => (s1.requestSwitch .switchPropose s.second (s.neighbourPayload d)).formProposal d

/-- A movement of the key to OUT in IN is judged (R165). -/
def State.proposeOut (s : State) : State :=
  match s.proposalConditions with
  | some f => s.refuseLocally .out f.reason f.concern
  | none => s.sendProposals .out

/-- The time an overheard entry stands (R172). -/
def overheardTime : Time := secs 6

/-- Whether an overheard entry is present: 6 s have not yet passed since its part time (R172). -/
def present (now : Time) (o : Option Overheard) : Bool := o.any fun x => decide (now < units x.time + overheardTime)

/-- Whether an overheard entry is present and shows NORMAL and LONG (check 2 of R173). -/
def showsLongSection (now : Time) (o : Option Overheard) : Bool :=
  present now o && o.any fun x => decide (x.state = BlockState.normal.code) && x.long

/-- Whether the sum of the two overheard nets is 0 modulo 4096 (check 2 of R173). -/
def longBalance (a b : Option Overheard) : Bool :=
  match a, b with
  | some x, some y => decide ((x.net + y.net) % 4096 = 0)
  | _, _ => false

/-- Check 2 of R173. -/
def State.checkLongSection (s : State) : Option Failing :=
  let ok1 := showsLongSection s.now s.switching.overheard1
  let ok2 := showsLongSection s.now s.switching.overheard2
  if ok1 && ok2 && longBalance s.switching.overheard1 s.switching.overheard2 then none
  else some ⟨.longSection, s.concern (!ok1) (!ok2)⟩

/-- A movement of the key to IN in OUT is judged (R173). -/
def State.proposeIn (s : State) : State :=
  match s.checkLinks <|> s.checkLongSection with
  | some f => s.refuseLocally .into f.reason f.concern
  | none => s.sendProposals .into

/-! ### Completion (R169, R173) -/

/-- The controller enters OUT (R169, R172, R175): the entries are absent, the watch is cleared, and the part's own changes follow
the record. -/
def State.enterOut (s : State) (o : SwitchOutcome) (k : Concern) : State :=
  (((((s.modSwitching fun w =>
    { w with
      state := .out, agreement := none, startWatch := false, overheard1 := none, overheard2 := none
      failing := none }).switchRecord k Direction.out.code o none none).setPartState
        .switchedOut).orderBoth .inactive).rePairBoth)

/-- The controller returns to IN (R172, R173). -/
def State.returnIn (s : State) (o : SwitchOutcome) (k : Concern) : State :=
  ((((s.modSwitching fun w => { w with state := .inUse, agreement := none }).switchRecord
    k Direction.into.code o none none).orderBoth .normal).rePairBoth).setPartState .running

/-- The commit is completed (R169, R173). -/
def State.completeCommit (s : State) (d : Direction) : State :=
  match d with
  | .out => s.enterOut .switchedOut .both
  | .into => s.returnIn .switchedIn .both

/-! ### Answers and drain (R168) -/

/-- Whether a frame waits that is addressed to either neighbour (R168). Every such frame counts, a SWITCH_COMMIT that an abandoned proposal has
left in its slot included: 'apart from the COMMIT frames themselves' is read of the frames that this proposal is about to queue (DESIGN
CHOICE, log entry 65). -/
def State.waitsForNeighbour (s : State) : Bool :=
  s.line.slots.toList.any fun x => match x with
    | some f =>
      decide (s.frameDest f = s.cfg.ends[s.first].directId) || decide (s.frameDest f = s.cfg.ends[s.second].directId)
    | none => false

/-- The conditions judged at the moment the COMMIT frames would be queued (R165, R168, R173). -/
def State.commitConditions (s : State) (d : Direction) : Option Failing :=
  match d with
  | .out => s.proposalConditions
  | .into => s.checkLinks

/-- A commit mark is set. -/
def State.markCommit (s : State) (firstOne : Bool) (m : CommitMark) : State :=
  s.modSwitching fun w =>
    { w with agreement := w.agreement.map fun a => if firstOne then { a with commit1 := m } else { a with commit2 := m } }

/-- The two SWITCH_COMMIT frames are queued in turn (R168); one refused a slot abandons the proposal. -/
def State.sendCommits (s : State) (d : Direction) : State :=
  match (s.answerTo .switchCommit s.first).seq with
  | none => s.abandon .slots none (s.neighbourOf s.first)
  | some n =>
    let s1 := (s.requestSwitch .switchCommit s.first (s.neighbourPayload d)).markCommit true (.queued n)
    match (s1.answerTo .switchCommit s.second).seq with
    | none => s1.abandon .slots none (s.neighbourOf s.second)
    | some m => (s1.requestSwitch .switchCommit s.second (s.neighbourPayload d)).markCommit false (.queued m)

/-- Whether the controller is draining: both answers are AGREED and no COMMIT has been queued (R168). -/
def Switching.draining (w : Switching) : Option Direction :=
  match w.agreement with
  | some a =>
    if a.agreed1 && a.agreed2 && decide (a.commit1 = .notQueued) && decide (a.commit2 = .notQueued) && w.failing.isNone then
      some a.direction
    else none
  | none => none

/-- The drain judgement (R168). -/
def State.judgeDrain (s : State) : State :=
  match s.switching.draining with
  | some d =>
    if s.waitsForNeighbour then s
    else match s.commitConditions d with
      | some f => s.abandon .conditions (some f.reason) f.concern
      | none => s.sendCommits d
  | none => s

/-- Whether a proposal of a direction stands. -/
def State.stands (s : State) (d : Direction) : Bool := s.switching.agreement.any fun a => decide (a.direction = d)

/-- A neighbour's answer becomes AGREED (R168). -/
def State.markAgreed (s : State) (e : EndNo) : State :=
  s.modSwitching fun w =>
    { w with
      agreement := w.agreement.map fun a =>
        { a with agreed1 := a.agreed1 || decide (e = s.first), agreed2 := a.agreed2 || decide (e = s.second) } }

/-- Whether the answer of the neighbour at an end is awaited (R164): the end is designated and no AGREE of its has been taken. -/
def State.awaited (s : State) (e : EndNo) : Bool :=
  s.cfg.switchable && s.switching.agreement.any fun a =>
    (decide (e = s.first) && !a.agreed1) || (decide (e = s.second) && !a.agreed2)

/-- A SWITCH_AGREE is taken, matched to an end (R168): a second one from the same neighbour changes nothing. -/
def State.agreeTaken (s : State) (e : EndNo) (d : Direction) (sender : Nat) : State :=
  if s.stands d then
    if s.awaited e then (s.markAgreed e).judgeDrain else s
  else (s.sendAbandon d e true).switchRecord (.one e sender) d.code .agreeUnsolicited none none

/-- A SWITCH_REFUSE is taken, matched to an end (R168). -/
def State.refuseTaken (s : State) (e : EndNo) (d : Direction) (reason sender : Nat) : State :=
  if s.stands d && s.designated e then s.abandon .refused (some (.given reason)) (.one e sender) else s

/-! ### A neighbour's part (R166, R167, R169, R171) -/

/-- Whether the payload of a PROPOSE names this part's identity and matched end, and the alternate peer as the other pair (check 3 of
R166). -/
def State.namesPair (s : State) (e : EndNo) (p : List Byte) : Bool :=
  let r := s.cfg.ends[e]
  let own (i : Nat) : Bool := decide (at_ p i = s.cfg.identity) && decide (at_ p (i + 1) = e.val)
  let far (i : Nat) : Bool := decide (at_ p i = r.altId) && decide (at_ p (i + 1) = r.altEnd)
  decide (r.altId ≠ 0) && ((own 1 && far 3) || (own 3 && far 1))

/-- The first of the checks of R166 that fails. -/
def State.proposeFailure (s : State) (e : EndNo) (d : Direction) (p : List Byte) : Option SwitchReason :=
  if s.loader.partState ≠ .running ∨ s.switching.state ≠ .inUse ∨ s.switching.hold.isSome then some .busy
  else if d = .out ∧ s.blocks[e].long then some .long
  else if d = .into ∧ s.blocks[e].long = false then some .notLong
  else if !s.namesPair e p then some .alternate
  else if s.blocks[e].state ≠ .normal then some .notNormal
  else if !s.line.link[e] then some .link
  else if s.endSectState e ≠ .clear then some .count
  else if d = .out ∧ s.bells[e].offer.isSome then some .offer
  else none

/-- A hold is formed (R166): the AGREE is queued, the record appended, and the end ordered into SWITCHING. -/
def State.formHold (s : State) (e : EndNo) (d : Direction) (sender : Nat) : State :=
  ((((s.requestSwitch .switchAgree e [byte d.code]).modSwitching fun w =>
    { w with hold := some { direction := d, proposer := sender, e := e, until_ := s.now + agreementTime } }).switchRecord
      (.one e sender) d.code .agreed none none).orderState e .switching)

/-- A SWITCH_PROPOSE is judged (R166). -/
def State.proposeTaken (s : State) (e : EndNo) (d : Direction) (sender : Nat) (p : List Byte) : State :=
  match s.proposeFailure e d p with
  | some r =>
    (s.requestSwitch .switchRefuse e [byte d.code, byte r.code]).switchRecord (.one e sender) d.code .refused (some r) none
  | none => match (s.answerTo .switchAgree e).seq with
    | some _ => s.formHold e d sender
    | none => s.switchRecord (.one e sender) d.code .refused (some .slots) none

/-- Whether the standing hold is at an end, of a direction and from a proposer (R167). -/
def State.holdMatches (s : State) (e : EndNo) (d : Direction) (sender : Nat) : Bool :=
  s.switching.hold.any fun h => decide (h.e = e) && decide (h.direction = d) && decide (h.proposer = sender)

/-- The hold ends. -/
def State.dropHold (s : State) : State := s.modSwitching fun w => { w with hold := none }

/-- A SWITCH_COMMIT is taken (R167, R169, R171). -/
def State.commitTaken (s : State) (e : EndNo) (d : Direction) (sender : Nat) : State :=
  if s.holdMatches e d sender then
    (((s.dropHold).switchRecord (.one e sender) d.code .committed none none).orderPairing e (decide (d = .out))).releaseEnd e
  else s.switchRecord (.one e sender) d.code .commitDisregarded none none

/-- Whether a hold stands at an end. -/
def State.heldAt (s : State) (e : EndNo) : Bool := s.switching.hold.any fun h => decide (h.e = e)

/-- A SWITCH_ABANDON is taken (R167, R171). A hold at another end does not keep a LONG end from reverting (DEDUCED, log entry 38). -/
def State.abandonTaken (s : State) (e : EndNo) (d : Direction) (sender : Nat) : State :=
  if s.holdMatches e d sender then
    ((s.dropHold).switchRecord (.one e sender) d.code .holdEnded none (some .abandon)).releaseEnd e
  else if !s.heldAt e && decide (d = .out) && s.blocks[e].long then
    (s.switchRecord (.one e sender) d.code .reverted none (some .abandon)).orderPairing e false
  else s.switchRecord (.one e sender) d.code .holdEnded none (some .noneStands)

/-- Whether a pair of identity and end is an end's direct peer. -/
def State.isDirectPeer (s : State) (e : EndNo) (id e' : Nat) : Bool :=
  s.endConfigured e && decide (s.cfg.ends[e].directId = id) && decide (s.cfg.ends[e].directEnd = e')

/-- The end whose direct peer a pair is (R166). -/
def State.matchedEnd (s : State) (id e' : Nat) : Option EndNo := ends.find? fun e => s.isDirectPeer e id e'

/-- A switching frame is taken at an end, of a direction (R166 to R169). -/
def State.actOnSwitching (s : State) (e : EndNo) (d : Direction) (f : RxFrame) : State :=
  match f.kind with
  | .switchPropose => s.proposeTaken e d f.sender f.payload
  | .switchAgree => s.agreeTaken e d f.sender
  | .switchRefuse => s.refuseTaken e d (at_ f.payload 1) f.sender
  | .switchCommit => s.commitTaken e d f.sender
  | .switchAbandon => s.abandonTaken e d f.sender
  | .status | .accept | .withdraw | .cancel | .tos | .count | .bellCode | .beat | .resetReq | .resetConfirm => s

/-- A switching frame is taken at an end whose direction is none of R98's: no proposal and no hold is of it, so an AGREE is unsolicited
(R168), a COMMIT or an ABANDON matches no hold (R167) and a REFUSE is disregarded (R168). A PROPOSE of no direction is disregarded. -/
def State.strayDirection (s : State) (e : EndNo) (code : Nat) (f : RxFrame) : State :=
  match f.kind with
  | .switchAgree =>
    (s.requestSwitch .switchAbandon e [byte code]).switchRecord (.one e f.sender) code .agreeUnsolicited none none
  | .switchCommit => s.switchRecord (.one e f.sender) code .commitDisregarded none none
  | .switchAbandon => s.switchRecord (.one e f.sender) code .holdEnded none (some .noneStands)
  | .switchPropose | .switchRefuse => s
  | .status | .accept | .withdraw | .cancel | .tos | .count | .bellCode | .beat | .resetReq | .resetConfirm => s

/-- A frame overheard that is addressed to this part's identity and matches an end is acted on, where it is a switching frame (R166). -/
def State.switchingTaken (s : State) (f : RxFrame) : State :=
  if f.dest = s.cfg.identity then
    match s.matchedEnd f.sender f.senderEnd, Direction.ofCode (at_ f.payload 0) with
    | some e, some d => s.actOnSwitching e d f
    | some e, none => s.strayDirection e (at_ f.payload 0) f
    | none, _ => s
  else s

/-! ### Overheard STATUS frames (R171, R172, R175) -/

/-- Whether a STATUS shows DIRECT pairing and a state other than SWITCHING (R171, R172). -/
def StatusFields.direct (f : StatusFields) : Bool := !f.long && decide (f.state ≠ BlockState.switching.code)

/-- Whether a STATUS comes from an end's alternate peer, addressed to its direct peer (R171). -/
def State.fromFarBox (s : State) (e : EndNo) (f : RxFrame) : Bool :=
  let r := s.cfg.ends[e]
  s.endConfigured e && s.blocks[e].long && decide (r.altId = f.sender) && decide (r.altEnd = f.senderEnd) &&
    decide (r.directId = f.dest)

/-- An end in LONG pairing reverts on overhearing the far box in DIRECT pairing, with no hold standing at this part (R171). -/
def State.revertFarDirect (s : State) (f : RxFrame) : State :=
  if (statusFields f.payload).direct && s.switching.hold.isNone then
    match ends.find? fun e => s.fromFarBox e f with
    | some e =>
      ({ s with freeCount := s.freeCount + 1 }.switchRecord (.one e f.sender)
        (directionBit (Config.farDirectDirection s.freeCount)) .reverted none (some .farDirect)).orderPairing e false
    | none => s
  else s

/-- Whether a STATUS comes from the facing end of the neighbour at one designated end, addressed to the neighbour at the other
(R172, R175). -/
def State.acrossPart (s : State) (a b : EndNo) (f : RxFrame) : Bool :=
  s.cfg.switchable && s.isDirectPeer a f.sender f.senderEnd && decide (f.dest = s.cfg.ends[b].directId)

/-- The overheard entry a STATUS gives (R172). -/
def State.overheardEntry (s : State) (p : List Byte) : Overheard :=
  let x := statusFields p
  { state := x.state, long := x.long, net := x.net, time := unitsAt s.now }

/-- The overheard long section record takes a STATUS (R172). -/
def State.recordOverheard (s : State) (f : RxFrame) : State :=
  let s1 :=
    if s.acrossPart s.first s.second f then s.modSwitching fun w => { w with overheard1 := some (s.overheardEntry f.payload) }
    else s
  if s.acrossPart s.second s.first f then s1.modSwitching fun w => { w with overheard2 := some (s.overheardEntry f.payload) }
  else s1

/-- The designated end whose direct peer a delivered STATUS comes from (R172). -/
def State.resumingEnd (s : State) (f : RxFrame) : Option EndNo :=
  [s.first, s.second].find? fun e => s.isDirectPeer e f.sender f.senderEnd

/-- A STATUS of a neighbour's in OUT (R172): a DIRECT one that was delivered brings resumption, and one across the part sets an
entry. -/
def State.overhearOut (s : State) (f : RxFrame) (delivered : Bool) : State :=
  match s.resumingEnd f with
  | some e =>
    if delivered && (statusFields f.payload).direct then s.returnIn .resumed (.one e f.sender) else s.recordOverheard f
  | none => s.recordOverheard f

/-- A STATUS across the part in LONG pairing, heard in IN with the start watch set, puts the part into OUT (R175). -/
def State.overhearAtStart (s : State) (f : RxFrame) : State :=
  if s.switching.startWatch && (statusFields f.payload).long then
    if s.acrossPart s.first s.second f then s.enterOut .outAtStart (.one s.first f.sender)
    else if s.acrossPart s.second s.first f then s.enterOut .outAtStart (.one s.second f.sender)
    else s
  else s

/-- A STATUS is overheard (R171, R172, R175). -/
def State.statusOverheard (s : State) (f : RxFrame) (delivered : Bool) : State :=
  let s1 := s.revertFarDirect f
  if s1.cfg.switchable then
    match s1.switching.state with
    | .inUse => s1.overhearAtStart f
    | .proposingOut => s1
    | .out => s1.overhearOut f delivered
    | .proposingIn => s1.recordOverheard f
  else s1

/-- The hand-off of every taken frame to the switching controller (R104 step 3). -/
def State.overhear (s : State) (f : RxFrame) (delivered : Bool) : State :=
  match f.kind with
  | .status => s.statusOverheard f delivered
  | _ => s.switchingTaken f

/-! ### Outcomes of the controller's own frames (R169) -/

/-- Whether a commit mark is that of a COMMIT queued under a number. -/
def CommitMark.isQueued (seq : Nat) : CommitMark → Bool
  | .queued n => decide (n = seq)
  | .notQueued => false
  | .acknowledged => false

/-- Whether a COMMIT's number is that of one queued for the standing proposal. -/
def State.commitStands (s : State) (seq : Nat) : Bool :=
  s.switching.agreement.any fun a => a.commit1.isQueued seq || a.commit2.isQueued seq

/-- The mark of the COMMIT of a number becomes ACKNOWLEDGED. -/
def Agreement.acknowledge (seq : Nat) (a : Agreement) : Agreement :=
  { a with
    commit1 := if a.commit1.isQueued seq then .acknowledged else a.commit1
    commit2 := if a.commit2.isQueued seq then .acknowledged else a.commit2 }

/-- DELIVERED for a SWITCH_COMMIT (R169): with both marks ACKNOWLEDGED the commit is completed. -/
def State.commitDelivered (s : State) (seq : Nat) : State :=
  if s.commitStands seq then
    let s1 := s.modSwitching fun w => { w with agreement := w.agreement.map (Agreement.acknowledge seq) }
    match s1.switching.agreement with
    | some a =>
      if a.commit1 = .acknowledged ∧ a.commit2 = .acknowledged ∧ s1.switching.failing = none then s1.completeCommit a.direction
      else s1
    | none => s1
  else s

/-- UNDELIVERED for a SWITCH_COMMIT (R169, R170). -/
def State.commitUndelivered (s : State) (e : EndNo) (seq : Nat) : State :=
  if s.commitStands seq then s.abandon .commitUndelivered none (s.neighbourOf e) else s

/-! ### The key (R163, R164) -/

/-- The proved position that two debounced contacts give (R163). -/
def keyPosition (keyIn keyOut : Bool) : Option KeyPosition :=
  match keyIn, keyOut with
  | true, false => some .keyIn
  | false, true => some .keyOut
  | _, _ => none

/-- The position the key's contacts prove now. -/
def Switching.position (w : Switching) : Option KeyPosition := keyPosition w.keyIn.value w.keyOut.value

/-- A movement of the key is taken (R164). -/
def State.moveKey (s : State) (k : KeyPosition) : State :=
  match s.switching.state, k with
  | .inUse, .keyOut => s.proposeOut
  | .proposingOut, .keyIn => s.abandon .key none .both
  | .out, .keyIn => s.proposeIn
  | .proposingIn, .keyOut => s.abandon .key none .both
  | _, _ => s

/-- Whether a change event of either key contact has come (R163). -/
def State.switchKeyDue (s : State) : Bool :=
  !s.underReset &&
    (s.switching.keyIn.due debounce50 s.now || s.switching.keyOut.due debounce50 s.now)

/-- The key's contacts take the change events that have come. -/
def State.settleSwitchKey (s : State) : State :=
  s.modSwitching fun w => { w with keyIn := w.keyIn.settle debounce50 s.now, keyOut := w.keyOut.settle debounce50 s.now }

/-- The key proves a position (R163, R175): one that differs from the last is a movement, which clears the start watch. -/
def State.proveKey (s : State) : State :=
  match s.switching.position with
  | some k =>
    if s.switching.proved = some k then s
    else (s.modSwitching fun w => { w with proved := some k, startWatch := false }).moveKey k
  | none => s

/-- SWITCH_KEY_MOVEMENT (R163, R164): a part that is not switchable disregards its key. -/
def State.switchKeyMovement (s : State) : State :=
  if s.switchKeyDue then
    if s.active && s.cfg.switchable then s.settleSwitchKey.proveKey else s.settleSwitchKey
  else s

/-- The key found at OUT is judged at the end of the start listening period (R175, R187). -/
def State.judgeKeyAtStart (s : State) : State :=
  if s.switching.startWatch ∧ s.switching.proved = some .keyOut ∧ s.switching.state = .inUse then s.proposeOut else s

/-! ### Limits (R167, R170) -/

/-- AGREEMENT_LIMIT_EXPIRY (R170). -/
def State.agreementLimitExpiry (s : State) : State :=
  if s.active && expired s.now (s.switching.agreement.map (·.until_)) then s.abandon .limit none .both else s

/-- HOLD_TIMER_EXPIRY (R167). -/
def State.holdTimerExpiry (s : State) : State :=
  match s.switching.hold with
  | some h =>
    if s.active && decide (h.until_ ≤ s.now) then
      ((s.dropHold).switchRecord (.one h.e h.proposer) h.direction.code .holdEnded none (some .expired)).releaseEnd h.e
    else s
  | none => s

/-- The controller's part in the entry into RUNNING (R163, R175): a switchable part takes the key's position and sets its start
watch. -/
def State.startSwitching (s : State) : State :=
  if s.cfg.switchable then s.modSwitching fun w => { w with proved := w.position, startWatch := true } else s

/-! ### The rows of this chapter as commands -/

/-- SWITCH_KEY_MOVEMENT (R163, R164). -/
def execSwitchKeyMovement (s : State) : Host.Outcome State Fault Refusal := .next s.switchKeyMovement.settle

/-- AGREEMENT_LIMIT_EXPIRY (R170). -/
def execAgreementLimitExpiry (s : State) : Host.Outcome State Fault Refusal := .next s.agreementLimitExpiry.settle

/-- HOLD_TIMER_EXPIRY (R167). -/
def execHoldTimerExpiry (s : State) : Host.Outcome State Fault Refusal := .next s.holdTimerExpiry.settle

end Sys2Proof.Machine
end

