-- ==== Sys2Proof/Machine/Line.lean ====
section
/-! DEFINITION. The line controller (Chapter 6): starting a frame, contention, attempts and their reports, receiving, supervision,
STATUS, and the meanings of its rows. The levels the part drives on the line are an output of the state (`State.lineLevel`). The
spec's events are the model's grain: what the sender and the decoder make of the levels they read arrives as commands. -/

namespace Sys2Proof.Machine

/-- One more on a snapshot count (R117): counts go from 65535 to 0. -/
def countUp (n : Nat) : Nat := (n + 1) % 65536

/-! ### Starting a frame (R98, R99, R108, R111) -/

/-- The refusal mark as a STATUS carries it (R98). -/
def markCode (m : Option RefusalMark) : Nat :=
  match m with
  | some x => x.reason.code
  | none => 0

/-- The release and pairing field of a STATUS (R98). -/
def releasePairing (r : Release) (long : Bool) : Nat := r.code + 16 * bit long

/-- The payload of a STATUS of an end, composed now (R98). -/
def State.statusPayload (s : State) (e : EndNo) : List Byte :=
  let b := s.blocks[e]
  [byte b.state.code, byte (releasePairing b.release b.long), byte (markCode b.refusal), byte (s.endSectState e).code] ++
    bytes2 (s.endNet e)

/-- The payload of a frame composed at its start (R98). -/
def State.composedPayload (s : State) (f : Frame) : List Byte :=
  match f.kind with
  | .status => s.statusPayload f.e
  | .count => bytes2 (s.endNet f.e)
  | _ => f.payload

/-- A frame as it goes on the line: composed where R98 requires, and marked on the line. -/
def State.composeFrame (s : State) (f : Frame) : Frame :=
  { f with
    dest := if f.kind.composed then s.peerId f.e else f.dest
    payload := s.composedPayload f, onLine := true }

/-- The characters a frame is sent as (R93, R94, R96). -/
def State.frameChars (s : State) (f : Frame) : List Byte :=
  RxFrame.chars
    { cls := f.kind.cls, sender := s.cfg.identity, kind := f.kind, dest := f.dest, senderEnd := f.e.val, payload := f.payload }

/-- The slot whose frame starts now, where the conditions of R99 hold. -/
def State.startable (s : State) : Option (Fin 8) :=
  if s.active && s.line.listenUntil.isNone && s.line.sending.isNone && s.lineQuiet then s.line.chosen else none

/-- The time between a STATUS and the next raised by the refresh timer (R111). -/
def refreshTime : Time := secs 2

/-- The refresh timer restarts where the frame that starts is a STATUS (R111). -/
def Line.restartRefresh (l : Line) (f : Frame) (now : Time) : Line :=
  match f.kind with
  | .status => { l with refresh := l.refresh.set f.e (some (now + refreshTime)) }
  | _ => l

/-- The frame in a slot begins its H0. -/
def State.beginFrame (s : State) (i : Fin 8) (f : Frame) : State :=
  let g := s.composeFrame f
  s.modLine fun l =>
    { (l.restartRefresh f s.now) with
      slots := l.slots.set i (some g), decoder := .receiving, frameFrom := s.now
      sending := some { slot := i, chars := s.frameChars g, since := s.now, refreshBefore := l.refresh[f.e] } }

/-- FRAME_START (R99, R108). -/
def State.frameStart (s : State) : State :=
  match s.startable with
  | some i => match s.line.slots[i] with
    | some f => s.beginFrame i f
    | none => s
  | none => s

/-! ### The end of a start (R100, R101, R103, R109) -/

/-- The sender's slot and frame, while it sends. -/
def State.onAir (s : State) : Option (Fin 8 × Frame) :=
  match s.line.sending with
  | some x => match s.line.slots[x.slot] with
    | some f => some (x.slot, f)
    | none => none
  | none => none

/-- A frame that leaves the line and stays in its slot: a renewed one has attempt count 0 and loses its mark (R109). -/
def Frame.offLine (f : Frame) : Frame :=
  if f.renewed then { f with onLine := false, renewed := false, attempts := 0 } else { f with onLine := false }

/-- A lost start leaves the refresh timer as it stood (R111). -/
def Line.restoreRefresh (l : Line) (f : Frame) (before : Option Time) : Line :=
  match f.kind with
  | .status => { l with refresh := l.refresh.set f.e before }
  | _ => l

/-- Whether the frame being sent is one the station's own decoder has broken off (R93): the sending goes on without it. -/
def Line.ownBrokenOff (l : Line) : Bool := l.sending.any (·.brokenOff)

/-- Whether the frame being sent is before its acknowledge slot, as far as the station knows: its decoder has it in progress, or has
broken it off. -/
def Line.sendsOn (l : Line) : Bool := decide (l.decoder = .receiving) || l.ownBrokenOff

/-- CONTENTION_LOST (R100): the frame keeps its slot, age and attempt count, and the station decodes on as a receiver. -/
def State.contentionLost (s : State) : State :=
  match s.line.sending, s.onAir with
  | some x, some (i, f) =>
    if s.active && s.line.sendsOn then
      s.modLine fun l =>
        { (l.restoreRefresh f x.refreshBefore) with
          slots := l.slots.set i (some f.offLine), sending := none, contentionLosses := countUp l.contentionLosses }
    else s
  | _, _ => s

/-- DELIVERED is reported to the frame's owner (R103). -/
def State.reportDelivered (s : State) (f : Frame) : State :=
  match f.kind with
  | .accept | .withdraw | .cancel | .tos => s.blockDelivered f.e f.seq
  | .resetConfirm => s.confirmDelivered f.e f.seq
  | .switchCommit => s.commitDelivered f.seq
  | .status | .count | .bellCode | .beat | .resetReq => s
  | .switchPropose | .switchAgree | .switchRefuse | .switchAbandon => s

/-- UNDELIVERED is reported to the owner of a frame dropped after its fourth failed attempt (R103). -/
def State.reportDropped (s : State) (f : Frame) : State :=
  match f.kind with
  | .accept | .withdraw | .cancel | .tos => s.blockUndelivered f.e f.seq
  | .resetReq => s.requestUndelivered f.e f.seq
  | .resetConfirm => s.confirmUndelivered f.e f.seq
  | .bellCode => s.modBell f.e (Bell.codeUndelivered f.seq)
  | .switchCommit => s.commitUndelivered f.e f.seq
  | .status | .count | .beat => s
  | .switchPropose | .switchAgree | .switchRefuse | .switchAbandon => s

/-- A slot has been emptied and the owner has been told: the owed STATUS is queued, and the drain is judged last (R112, R168). -/
def State.slotEmptied (s : State) : State := s.serveFirstOwed.judgeDrain

/-- A frame is dropped after its fourth failed attempt (R103): it is recorded, but for a STATUS whose end's link is LOST. -/
def State.dropFrame (s : State) (i : Fin 8) (f : Frame) : State :=
  let s1 := if f.kind = .status ∧ s.line.link[f.e] = false then s else s.append (s.undeliveredRecord f 1)
  ((s1.modLine fun l => l.clearSlot i).reportDropped f).slotEmptied

/-- An attempt fails with a cause (R103, R109). -/
def State.failAttempt (s : State) (i : Fin 8) (f : Frame) (cause : AttemptFailure) : State :=
  let g : Frame := { f with attempts := f.attempts + 1, failure := cause }
  if f.renewed then s.modLine fun l => { l with slots := l.slots.set i (some { f.offLine with failure := cause }) }
  else if g.attempts < 4 then s.modLine fun l => { l with slots := l.slots.set i (some g.offLine) }
  else s.dropFrame i g

/-- LINE_ERROR (R101): the sender stops driving and the attempt has failed. -/
def State.lineError (s : State) : State :=
  match s.onAir with
  | some (i, f) =>
    if s.active && s.line.sendsOn then
      (s.modLine fun l => { l with sending := none, lineErrors := countUp l.lineErrors }).failAttempt i f .lineError
    else s
  | none => s

/-- An attempt is delivered (R103, R109). -/
def State.deliverAttempt (s : State) (i : Fin 8) (f : Frame) : State :=
  if f.renewed then (s.modLine fun l => { l with slots := l.slots.set i (some f.offLine) }).reportDelivered f
  else ((s.modLine fun l => l.clearSlot i).reportDelivered f).slotEmptied

/-- The acknowledge character (R102). -/
def acknowledgeChar : Byte := 0x96#8

/-- Whether the acknowledge slot leaves an attempt delivered (R103): a frame to all stations needs no acknowledge. -/
def acknowledged (f : Frame) (slot : Option Byte) : Bool := decide (slot = some acknowledgeChar) || decide (f.dest = 0)

/-- The frame in progress ends, and idle bit times are counted from now (R93). -/
def Line.endFrame (l : Line) (now : Time) : Line :=
  { l with decoder := .noFrame, acknowledging := false, idleFrom := now }

/-- The sender's attempt ends with the acknowledge slot: its frame in progress ends there, but one that its decoder broke off ended at the
break, and whatever the decoder has met since goes on. -/
def Line.endAttempt (l : Line) (now : Time) : Line :=
  if l.ownBrokenOff then { l with sending := none } else { (l.endFrame now) with sending := none }

/-- What the decoder reads in the acknowledge slot (R93): it reads none in the slot of a frame it has broken off. -/
def Line.readSlot (l : Line) (slot : Option Byte) : Option Byte := if l.ownBrokenOff then none else slot

/-- ATTEMPT_END (R103): the end of the acknowledge slot of the frame being sent, with what was read in it (`readAcknowledge`). -/
def State.attemptEnd (s : State) (slot : Option Byte) : State :=
  match s.onAir with
  | some (i, f) =>
    if s.active then
      let s1 := s.modLine (Line.endAttempt · s.now)
      if acknowledged f (s.line.readSlot slot) then s1.deliverAttempt i f else s1.failAttempt i f .noAcknowledge
    else s
  | none => s

/-! ### Receiving (R93, R95, R96, R102, R104 to R106) -/

/-! ### The levels the part drives (R92, R99 to R102) -/

/-- The bit time that is running, counted from a moment (R92). -/
def State.bitFrom (s : State) (since : Time) : Nat := (s.now - since) / s.bitTime

/-- The levels of the acknowledge character in its slot, from the start bit of H0 of the frame acknowledged: the slot stands after its three
header characters, its payload and its CRC (R93, R102). -/
def RxFrame.slotLevels (f : RxFrame) : List LineLevel :=
  List.replicate (10 * (f.payload.length + 5)) .idle ++ charLevels acknowledgeChar

/-- The level that the part puts on the line now: of the frame it sends, of the acknowledge character in the slot of a frame it acknowledges,
and idle otherwise (R92, R99, R102). It stops driving at a lost contention and at a line error (R100, R101). -/
def State.lineLevel (s : State) : LineLevel :=
  match s.line.sending with
  | some x => (charsLevels x.chars).getD (s.bitFrom x.since) .idle
  | none => match s.line.decoder with
    | .sound f => if s.line.acknowledging then f.slotLevels.getD (s.bitFrom s.line.frameFrom) .idle else .idle
    | .noFrame => .idle
    | .receiving => .idle
    | .discarded => .idle

/-- START_BIT_SEEN (R93): H0 begins on a quiet line; otherwise the count of idle bit times begins again after the start bit. -/
def State.startBitSeen (s : State) : State :=
  if s.active ∧ s.line.decoder = .noFrame then
    if s.lineQuiet then s.modLine fun l => { l with decoder := .receiving, frameFrom := s.now }
    else s.modLine fun l => { l with idleFrom := s.now + s.bitTime }
  else s

/-- A decoder breaks off the frame in progress, at the sending station too: its sending goes on. -/
def Line.breakOff (l : Line) (now : Time) : Line :=
  { (l.endFrame now) with sending := l.sending.map fun x => { x with brokenOff := true } }

/-- FRAME_BROKEN_OFF (R92, R93): a frame in progress is discarded before its acknowledge slot, at any station: the command says that the levels
read are none of a frame's (`readFrameChars`). A sender's decoder breaks off its
own frame at a framing error that is neither a lost contention nor a line error: one in the stop bit of H0 or H1. -/
def State.frameBrokenOff (s : State) : State :=
  if s.active ∧ s.line.decoder = .receiving then s.modLine (Line.breakOff · s.now) else s

/-- Whether a sound frame is acknowledged (R102). -/
def State.acknowledges (s : State) (f : RxFrame) : Bool :=
  decide (f.sender ≠ s.cfg.identity) && decide (f.dest = s.cfg.identity)

/-- ACKNOWLEDGE_DECISION (R95, R96, R102): the frame is judged after its CRC characters, which the command brings as they were read from the
line (`readFrameChars`). -/
def State.acknowledgeDecision (s : State) (chars : List Byte) : State :=
  if s.active ∧ s.line.decoder = .receiving ∧ s.line.sending = none then
    match judgeChars chars with
    | .notAFrame => s
    | .badCrc => s.modLine fun l => { l with decoder := .discarded, crcFailures := countUp l.crcFailures }
    | .malformed => s.modLine fun l => { l with decoder := .discarded, malformed := countUp l.malformed }
    | .sound f => s.modLine fun l => { l with decoder := .sound f, acknowledging := s.acknowledges f }
  else s

/-- DUPLICATE_IDENTITY (R106, R116). -/
def State.duplicateIdentity (s : State) (f : RxFrame) : State :=
  s.append
    { kind := .duplicateIdentity, subject := s.cfg.identity, old := f.kind.code, new := f.dest, d1 := f.senderEnd, d2 := f.cls }

/-- The sender's last-heard timer is restarted, and every end whose current peer it is has its link judged (R104 step 1, R113), in
ascending order of end: R113 does not order two ends that share an identity (DESIGN CHOICE, log entry 67). -/
def State.hear (s : State) (f : RxFrame) : State :=
  let s1 := s.modLine fun l => { l with heard := l.heard.set (identityIndex f.sender) { last := some s.now, running := true } }
  ends.foldl
    (fun s e => if s.endConfigured e && decide (s.peerId e = f.sender) then s.judgeLink e f.kind.code 0 else s) s1

/-- The end a frame maps to (R105): the one whose current peer is the frame's sender and sender end. -/
def State.mappedEnd (s : State) (f : RxFrame) : Option EndNo :=
  ends.find? fun e =>
    s.endConfigured e && decide (s.peerId e = f.sender) && decide (s.peerEnd e = f.senderEnd)

/-- A STATUS is delivered for an end: the axle counting unit takes the net and the peer's state of the section first (R65, R104). -/
def State.deliverStatus (s : State) (e : EndNo) (f : StatusFields) : State :=
  (s.takeNet e f.net (decide (f.sect = SectState.disturbed.code))).statusTaken e f

/-- A frame is delivered to the blocks of R103's table for its kind. The switching controller's kinds are taken at the overheard
hand-off (R166). -/
def State.deliver (s : State) (e : EndNo) (f : RxFrame) : State :=
  match f.kind with
  | .status => s.deliverStatus e (statusFields f.payload)
  | .accept => s.acceptTaken e (at_ f.payload 0) f.sender
  | .withdraw => s.withdrawTaken e
  | .cancel => s.cancelTaken e
  | .tos => (s.takeNet e (netAt f.payload 0) false).tosTaken e
  | .count => s.takeNet e (netAt f.payload 0) false
  | .bellCode => s.codeTaken e f.payload
  | .beat => s.beatTaken e f.payload
  | .resetReq => s.requestTaken e
  | .resetConfirm => s.confirmTaken e
  | .switchPropose | .switchAgree | .switchRefuse | .switchCommit | .switchAbandon => s

/-- Whether a frame is addressed to this station (R104). -/
def State.addressed (s : State) (f : RxFrame) : Bool := decide (f.dest = s.cfg.identity) || decide (f.dest = 0)

/-- Step 2 of R104: the frame is delivered where it is addressed to this station and maps to an end; and whether it was. -/
def State.deliverMapped (s : State) (f : RxFrame) : State × Bool :=
  match s.mappedEnd f with
  | some e => if s.addressed f then (s.deliver e f, true) else (s, false)
  | none => (s, false)

/-- A frame is taken (R104). -/
def State.take (s : State) (f : RxFrame) : State :=
  let s1 := (s.modLine fun l => { l with framesTaken := countUp l.framesTaken }).hear f
  let (s2, delivered) := s1.deliverMapped f
  s2.overhear f delivered

/-- FRAME_TAKING (R104, R106): the end of the acknowledge slot of a frame decoded and not sent. A frame discarded at the acknowledge
decision ends there without being taken. -/
def State.frameTaking (s : State) : State :=
  if s.active ∧ s.line.sending = none then
    match s.line.decoder with
    | .sound f =>
      let s1 := s.modLine fun l => l.endFrame s.now
      if f.sender = s.cfg.identity then s1.duplicateIdentity f else s1.take f
    | .discarded => s.modLine fun l => l.endFrame s.now
    | .receiving => s
    | .noFrame => s
  else s

/-! ### Timers of the line (R111, R113, R187) -/

/-- STATUS_REFRESH_EXPIRY (R111). -/
def State.statusRefreshExpiry (s : State) (e : EndNo) : State :=
  if s.active && expired s.now s.line.refresh[e] then
    (s.modLine fun l => { l with refresh := l.refresh.set e none }).raiseStatus e
  else s

/-- The time an identity is heard for (R113). -/
def heardTime : Time := secs 6

/-- Whether an identity's last-heard timer is running and has come to its end. -/
def State.heardDue (s : State) (id : Fin 16) : Bool :=
  s.active && s.line.heard[id].running && expired s.now (s.line.heard[id].last.map (· + heardTime))

/-- LAST_HEARD_EXPIRY (R113): the link of every end whose current peer has the identity becomes LOST, in ascending order of end, where R113 orders
none (DESIGN CHOICE, log entry 67). -/
def State.lastHeardExpiry (s : State) (id : Fin 16) : State :=
  if s.heardDue id then
    let s1 := s.modLine fun l => { l with heard := l.heard.set id { l.heard[id] with running := false } }
    ends.foldl
      (fun s e => if s.endConfigured e && decide (s.peerId e = id.val) then s.judgeLink e 0 0 else s) s1
  else s

/-- The start listening period (R187). -/
def listeningTime : Time := secs 2

/-- LISTENING_PERIOD_END (R112, R187): the STATUS owed marks are served in order of end number, and then a key found at OUT is
judged. -/
def State.listeningPeriodEnd (s : State) : State :=
  if s.active && expired s.now s.line.listenUntil then
    (ends.foldl (fun s e => if s.line.owed[e] then s.serveOwed e else s)
      (s.modLine fun l => { l with listenUntil := none })).judgeKeyAtStart
  else s

/-- The line controller's part in the entry into RUNNING (R112, R115): the decoder and the listening period start, and every configured
end owes a STATUS. -/
def State.startLine (s : State) : State :=
  s.modLine fun l =>
    { l with
      listenUntil := some (s.now + listeningTime), idleFrom := s.now
      owed := Vector.ofFn fun e => s.endConfigured e }

/-! ### The rows of this chapter as commands -/

/-- FRAME_START (R99, R108). -/
def execFrameStart (s : State) : Host.Outcome State Fault Refusal := .next s.frameStart.settle

/-- CONTENTION_LOST (R100). -/
def execContentionLost (s : State) : Host.Outcome State Fault Refusal := .next s.contentionLost.settle

/-- LINE_ERROR (R101). -/
def execLineError (s : State) : Host.Outcome State Fault Refusal := .next s.lineError.settle

/-- FRAME_BROKEN_OFF (R93). -/
def execFrameBrokenOff (s : State) : Host.Outcome State Fault Refusal := .next s.frameBrokenOff.settle

/-- ACKNOWLEDGE_DECISION (R95, R96, R102). -/
def execAcknowledgeDecision (chars : List Byte) (s : State) : Host.Outcome State Fault Refusal :=
  .next (s.acknowledgeDecision chars).settle

/-- ATTEMPT_END (R103). -/
def execAttemptEnd (slot : Option Byte) (s : State) : Host.Outcome State Fault Refusal := .next (s.attemptEnd slot).settle

/-- FRAME_TAKING (R104, R106). -/
def execFrameTaking (s : State) : Host.Outcome State Fault Refusal := .next s.frameTaking.settle

/-- STATUS_REFRESH_EXPIRY (R111). -/
def execStatusRefreshExpiry (e : EndNo) (s : State) : Host.Outcome State Fault Refusal :=
  .next (s.statusRefreshExpiry e).settle

/-- LAST_HEARD_EXPIRY (R113). -/
def execLastHeardExpiry (id : Fin 16) (s : State) : Host.Outcome State Fault Refusal := .next (s.lastHeardExpiry id).settle

/-- LISTENING_PERIOD_END (R187). -/
def execListeningPeriodEnd (s : State) : Host.Outcome State Fault Refusal := .next s.listeningPeriodEnd.settle

/-- START_BIT_SEEN (R93). -/
def execStartBitSeen (s : State) : Host.Outcome State Fault Refusal := .next s.startBitSeen.settle

end Sys2Proof.Machine
end

