-- ==== Sys2Proof/Machine/Parse.lean ====
section
/-! DEFINITION. The reading of the image's sections into fields (R181), and check 5 of R182, which compares the bytes a section's
fields take with its length. -/

namespace Sys2Proof.Machine

/-- A reader takes bytes off the front of what is left, or fails where they run out. -/
abbrev Reader := StateT (List Byte) Option

/-- A field of one byte. -/
def readByte : Reader Nat := fun l => match l with
  | b :: rest => some (b.toNat, rest)
  | [] => none

/-- A field of two bytes, high byte first. -/
def readPair : Reader Nat := do
  let h ← readByte
  let l ← readByte
  pure (h * 256 + l)

/-- A yes-or-no field: 0 is no, anything else yes (R181). -/
def readFlag : Reader Bool := do
  let n ← readByte
  pure (decide (n ≠ 0))

/-- `n` items in turn. -/
def readMany {α : Type} (r : Reader α) : Nat → Reader (List α)
  | 0 => pure []
  | n + 1 => do
    let a ← r
    let l ← readMany r n
    pure (a :: l)

/-- A list that follows its count. -/
def readCounted {α : Type} (r : Reader α) : Reader (List α) := do
  let n ← readByte
  readMany r n

/-- `n` records in ascending order of number. -/
def readRecords {α : Type} (blank : α) (r : Reader α) (n : Nat) : Reader (Vector α n) := do
  let l ← readMany r n
  pure (Vector.ofFn fun i => l.getD i.val blank)

/-! ### The records -/

/-- A block end record. -/
def readEnd : Reader EndRecord := do
  let configured ← readFlag
  let directId ← readByte
  let directEnd ← readByte
  let altId ← readByte
  let altEnd ← readByte
  let overlap ← readByte
  let repetition ← readFlag
  pure { configured, directId, directEnd, altId, altEnd, overlap, repetition }

/-- A role from its code and starter end. -/
def roleOf (code e : Nat) : Role :=
  match code with
  | 0 => .ordinary
  | 1 => .starter e
  | 2 => .spare
  | c => .other c

/-- A lever record. -/
def readRole : Reader Role := do
  let code ← readByte
  let e ← readByte
  pure (roleOf code e)

/-- A term from its kind and operands (R181). The second operand of a kind other than LEVER_NORMAL_FOR, which R181 gives as 0 and for which R32
has no check, is dropped, whatever it is (DESIGN CHOICE, log entry 63). -/
def termOf (kind a b : Nat) : Term :=
  match kind with
  | 1 => .leverNormal a
  | 2 => .leverReverse a
  | 3 => .leverNormalFor a b
  | 4 => .detectionClear a
  | 5 => .detectionOccupied a
  | 6 => .releaseUnused a
  | 7 => .blockNormal a
  | 8 => .countClear a
  | k => .other k a b

/-- A term of the pool. -/
def readTerm : Reader Term := do
  let kind ← readByte
  let a ← readByte
  let b ← readByte
  pure (termOf kind a b)

/-- An alternative. -/
def readAlternative : Reader Alternative := do
  let first ← readPair
  let length ← readByte
  pure { first, length }

/-- The two entries of a lever. -/
def readEntries : Reader LeverEntries := do
  let fromNormal ← readCounted readAlternative
  let fromReverse ← readCounted readAlternative
  pure { fromNormal, fromReverse }

/-- A channel record. -/
def readChannel : Reader ChannelRecord := do
  let enabled ← readFlag
  let phase ← readByte
  let tDrop ← readPair
  let tPick ← readPair
  let tWarn ← readPair
  let strayLimit ← readPair
  let persistence ← readByte
  let minOccupied ← readByte
  pure { enabled, phase, tDrop, tPick, tWarn, strayLimit, persistence, minOccupied }

/-- A section type from its code. -/
def sectTypeOf : Nat → SectType
  | 0 => .localSect
  | 1 => .block
  | c => .other c

/-- An orientation from its code. -/
def orientationOf : Nat → Orientation
  | 1 => .upIn
  | 2 => .downIn
  | c => .other c

/-- A boundary. -/
def readBoundary : Reader Boundary := do
  let head ← readByte
  let o ← readByte
  pure { head := head, orientation := orientationOf o }

/-- A count section record. -/
def readSect : Reader SectRecord := do
  let configured ← readFlag
  let type ← readByte
  let blockEnd ← readByte
  let boundaries ← readCounted readBoundary
  pure { configured := configured, type := sectTypeOf type, blockEnd := blockEnd, boundaries := boundaries }

/-- A detection section record. -/
def readDetection : Reader DetRecord := do
  let configured ← readFlag
  let channel ← readByte
  let count ← readByte
  pure { configured, channel, count }

/-- A class of bell code from its code (R135). -/
def codeClassOf : Nat → CodeClass
  | 1 => .offer
  | 2 => .cancelOffer
  | 3 => .obstruction
  | 4 => .obstructionRemoved
  | 5 => .attention
  | 6 => .entering
  | 7 => .inform
  | c => .other c

/-- A code table entry. -/
def readCode : Reader CodeEntry := do
  let present ← readFlag
  let pattern ← readCounted readByte
  let cls ← readByte
  pure { present := present, pattern := pattern, cls := codeClassOf cls }

/-! ### The sections -/

/-- Section 1: block end records. -/
def readSection1 (g : Image) : Reader Image := do
  let v ← readRecords {} readEnd 3
  pure { g with ends := v }

/-- Section 2: the transit limit and the lever records. -/
def readSection2 (g : Image) : Reader Image := do
  let t ← readByte
  let v ← readRecords .ordinary readRole 32
  pure { g with transitLimit := t, roles := v }

/-- Section 3: the pool and the entries. -/
def readSection3 (g : Image) : Reader Image := do
  let n ← readPair
  let pool ← readMany readTerm n
  let v ← readRecords {} readEntries 32
  pure { g with poolCount := n, pool := pool, entries := v }

/-- Section 4: the half-period and the channel records. -/
def readSection4 (g : Image) : Reader Image := do
  let h ← readByte
  let v ← readRecords {} readChannel 12
  pure { g with halfPeriod := h, channels := v }

/-- Section 5: the head records. -/
def readSection5 (g : Image) : Reader Image := do
  let v ← readRecords 0 readByte 4
  pure { g with fitted := v }

/-- Section 6: the count section records. -/
def readSection6 (g : Image) : Reader Image := do
  let v ← readRecords {} readSect 6
  pure { g with sects := v }

/-- Section 7: the detection section records. -/
def readSection7 (g : Image) : Reader Image := do
  let v ← readRecords {} readDetection 16
  pure { g with detections := v }

/-- Section 8: the bell timings and the code table. -/
def readSection8 (g : Image) : Reader Image := do
  let gGroup ← readByte
  let gEnd ← readPair
  let codeLimit ← readByte
  let heldStrike ← readByte
  let strikeLength ← readByte
  let offerHold ← readPair
  let v ← readRecords {} readCode 16
  pure { g with gGroup, gEnd, codeLimit, heldStrike, strikeLength, offerHold, codes := v }

/-- Section 9: the block timers. -/
def readSection9 (g : Image) : Reader Image := do
  let n ← readByte
  pure { g with cancellation := n }

/-- Section 10: the switching record. -/
def readSection10 (g : Image) : Reader Image := do
  let switchable ← readFlag
  let firstEnd ← readByte
  let secondEnd ← readByte
  let altNamed ← readFlag
  let alternative ← readAlternative
  pure { g with switchable, firstEnd, secondEnd, altNamed, alternative }

/-- The ten sections in the order of section 10.4. -/
def sectionReaders : List (Image → Reader Image) :=
  [readSection1, readSection2, readSection3, readSection4, readSection5, readSection6, readSection7, readSection8,
    readSection9, readSection10]

/-- What the reading of the sections comes to. -/
inductive Structure
  | parsed (g : Image)
  /-- The length of the section of this number is wrong. -/
  | wrongLength (number : Nat)
  /-- Every length is right, and bytes are left before the trailer. -/
  | unfilled
deriving DecidableEq, Repr

/-- One section off the front: its two-byte length, and fields that take exactly that many bytes. -/
def takeSection (r : Reader Image) (l : List Byte) : Option (Image × List Byte) :=
  match readPair l with
  | some (n, rest) =>
    if rest.length < n then none
    else match r (rest.take n) with
      | some (g, []) => some (g, rest.drop n)
      | _ => none
  | none => none

/-- The sections in turn, from the number given (check 5 of R182). -/
def readSections (number : Nat) (g : Image) (l : List Byte) : List (Image → Reader Image) → Structure
  | [] => if l.isEmpty then .parsed g else .unfilled
  | r :: rs => match takeSection (r g) l with
    | some (g', rest) => readSections (number + 1) g' rest rs
    | none => .wrongLength number

/-- The bytes of an image between its header and its trailer. -/
def sectionBytes (bytes : List Byte) : List Byte := (bytes.drop 8).take (bytes.length - 10)

/-- The image with its header and trailer fields read, and its sections blank. -/
def readFrame (bytes : List Byte) : Image :=
  let n (i : Nat) : Nat := (bytes.getD i 0).toNat
  { length := n 3 * 256 + n 4, identity := n 5, rate := n 6
    crc := n (bytes.length - 2) * 256 + n (bytes.length - 1) }

/-- The reading of all ten sections. -/
def parseImage (bytes : List Byte) : Structure := readSections 1 (readFrame bytes) (sectionBytes bytes) sectionReaders

end Sys2Proof.Machine
end

