-- ==== Sys2Proof/Machine/Validate.lean ====
section
/-! DEFINITION. The checks of the image in the order of R183, each with its fault code and subject. A check answers the first failure,
or nothing. -/

namespace Sys2Proof.Machine

/-- A failing check: its fault code and fault subject (R183). -/
abbrev Failure := FaultCode × Nat

/-- Fails with a code and subject unless a condition holds. -/
def require (ok : Bool) (c : FaultCode) (subject : Nat) : Option Failure := if ok then none else some (c, subject)

/-- The first failure along a list of items. -/
def firstFailure {α : Type} (l : List α) (check : α → Option Failure) : Option Failure := l.findSome? check

/-- Whether a number lies in a range. -/
def within (lo hi n : Nat) : Bool := decide (lo ≤ n ∧ n ≤ hi)

/-- Whether a number is 0, which selects a default, or lies in a range. -/
def withinOrDefault (lo hi n : Nat) : Bool := decide (n = 0) || within lo hi n

/-! ### Block ends (R162, R184) -/

/-- Whether an end is a configured one of the image. -/
def Image.hasEnd (g : Image) (e : Nat) : Bool := (item0 g.ends e).any (·.configured)

/-- Whether a detection section is a configured one of the image. -/
def Image.hasDetection (g : Image) (d : Nat) : Bool := (item g.detections d).any (·.configured)

/-- Whether a count section is a configured one of the image. -/
def Image.hasSect (g : Image) (c : Nat) : Bool := (item g.sects c).any (·.configured)

/-- Whether a head is a fitted one of the image. -/
def Image.hasHead (g : Image) (h : Nat) : Bool := (item g.fitted h).any fun n => decide (n = 1)

/-- Whether a channel is an enabled one of the image. -/
def Image.hasChannel (g : Image) (c : Nat) : Bool := (item g.channels c).any (·.enabled)

/-- Whether a peer's identity and end are in range, and not the part's own identity (R162). -/
def Image.peerOk (g : Image) (id e : Nat) : Bool := within 1 15 id && decide (id ≠ g.identity) && decide (e ≤ 2)

/-- The checks of one configured end (R162, R184). -/
def Image.endOk (g : Image) (r : EndRecord) : Bool :=
  g.peerOk r.directId r.directEnd &&
    (decide (r.altId = 0) || (g.peerOk r.altId r.altEnd && decide (r.altId ≠ r.directId))) &&
    (decide (r.overlap = 0) || g.hasDetection r.overlap)

/-- BLOCK_END (R162, R184). -/
def Image.checkEnds (g : Image) : Option Failure :=
  firstFailure Machine.ends fun e => require (!g.ends[e].configured || g.endOk g.ends[e]) .blockEnd e.val

/-- The pairs that stand at an end, the direct before the alternate (R184). -/
def EndRecord.pairs (r : EndRecord) : List (Nat × Nat) :=
  if r.configured then (r.directId, r.directEnd) :: (if r.altId = 0 then [] else [(r.altId, r.altEnd)]) else []

/-- BLOCK_PEER_DUPLICATE (R184): each end's pairs are compared with those of the ends before it (DEDUCED, log entry 43). -/
def Image.checkPairs (g : Image) : Option Failure :=
  firstFailure Machine.ends fun e =>
    let earlier := (Machine.ends.filter fun x => decide (x < e)).flatMap fun x => g.ends[x].pairs
    require (g.ends[e].pairs.all fun p => !earlier.contains p) .blockPeerDuplicate e.val

/-- BLOCK_TIMER (R162). -/
def Image.checkTimer (g : Image) : Option Failure := require (withinOrDefault 30 240 g.cancellation) .blockTimer 0

/-! ### Levers (R185) -/

/-- LEVER_TRANSIT. -/
def Image.checkTransit (g : Image) : Option Failure := require (withinOrDefault 2 30 g.transitLimit) .leverTransit 0

/-- Whether a lever's role is sound: a starter names a configured end that no earlier lever starts. -/
def Image.roleOk (g : Image) (i : LeverNo) : Bool :=
  match g.roles[i] with
  | .ordinary => true
  | .spare => true
  | .starter e => g.hasEnd e && (List.finRange 32).all fun j => decide (i ≤ j) || decide (g.roles[j] ≠ .starter e)
  | .other _ => false

/-- LEVER_ROLE. -/
def Image.checkRoles (g : Image) : Option Failure :=
  firstFailure (List.finRange 32) fun i => require (g.roleOk i) .leverRole (i.val + 1)

/-- LEVER_STARTER_MISSING. -/
def Image.checkStarters (g : Image) : Option Failure :=
  firstFailure Machine.ends fun e =>
    require (!g.ends[e].configured || (List.finRange 32).any fun i => decide (g.roles[i] = .starter e.val))
      .leverStarterMissing e.val

/-! ### Track circuits (R58) -/

/-- TRACK_FEED. -/
def Image.checkFeed (g : Image) : Option Failure := require (withinOrDefault 10 50 g.halfPeriod) .trackFeed 0

/-- The checks of one enabled channel. -/
def ChannelRecord.ok (r : ChannelRecord) : Bool :=
  decide (r.phase ≤ 1) && decide (0 < r.tDrop ∧ r.tDrop < r.tPick ∧ r.tPick ≤ r.tWarn ∧ r.tWarn ≤ 1023) &&
    decide (r.strayLimit ≤ 1023) && decide (r.persistence ≤ 15) && decide (r.minOccupied ≤ 100 ∨ r.minOccupied = 255)

/-- TRACK_CHANNEL. -/
def Image.checkChannels (g : Image) : Option Failure :=
  firstFailure (List.finRange 12) fun c =>
    require (!g.channels[c].enabled || g.channels[c].ok) .trackChannel (c.val + 1)

/-! ### Axle counting (R82) -/

/-- COUNT_HEAD. -/
def Image.checkHeads (g : Image) : Option Failure :=
  firstFailure (List.finRange 4) fun h => require (decide (g.fitted[h] ≤ 1)) .countHead (h.val + 1)

/-- Whether a section's boundaries are at fitted heads and of known orientation. -/
def Image.boundariesOk (g : Image) (r : SectRecord) : Bool :=
  r.boundaries.all fun b =>
    g.hasHead b.head && match b.orientation with
      | .upIn => true
      | .downIn => true
      | .other _ => false

/-- The checks of one configured section. Of two BLOCK sections that name one end the higher-numbered fails; R82 does not say which does
(DESIGN CHOICE, log entry 53). -/
def Image.sectOk (g : Image) (c : SectNo) : Bool :=
  let r := g.sects[c]
  g.boundariesOk r &&
    match r.type with
    | .localSect => within 1 3 r.boundaries.length && decide ((r.boundaries.map (·.head)).Nodup)
    | .block =>
      decide (r.boundaries.length = 1) && g.hasEnd r.blockEnd &&
        (List.finRange 6).all fun d =>
          decide (c ≤ d) || !g.sects[d].configured || decide (g.sects[d].type ≠ .block) ||
            decide (g.sects[d].blockEnd ≠ r.blockEnd)
    | .other _ => false

/-- COUNT_SECTION. -/
def Image.checkSects (g : Image) : Option Failure :=
  firstFailure (List.finRange 6) fun c => require (!g.sects[c].configured || g.sectOk c) .countSection (c.val + 1)

/-- COUNT_END_MISSING. -/
def Image.checkSectEnds (g : Image) : Option Failure :=
  firstFailure Machine.ends fun e =>
    require
      (!g.ends[e].configured ||
        (List.finRange 6).any fun c =>
          g.sects[c].configured && decide (g.sects[c].type = .block) && decide (g.sects[c].blockEnd = e.val))
      .countEndMissing e.val

/-- COUNT_HEAD_SHARED. -/
def Image.checkShared (g : Image) : Option Failure :=
  firstFailure (List.finRange 4) fun h =>
    require
      (decide
        (((List.finRange 6).filter fun c =>
          g.sects[c].configured && g.sects[c].boundaries.any fun b => decide (b.head = h.val + 1)).length ≤ 2))
      .countHeadShared (h.val + 1)

/-! ### Detection sections (R91) -/

/-- The first failing check of one configured section. -/
def Image.checkDetection (g : Image) (d : DetNo) : Option Failure :=
  let r := g.detections[d]
  if !r.configured then none
  else
    require (decide (r.channel ≠ 0) || decide (r.count ≠ 0)) .detectionEmpty (d.val + 1) <|>
      require (decide (r.channel = 0) || g.hasChannel r.channel) .detectionChannel (d.val + 1) <|>
      require (decide (r.count = 0) || g.hasSect r.count) .detectionCount (d.val + 1)

/-- DETECTION_EMPTY, DETECTION_CHANNEL, DETECTION_COUNT. -/
def Image.checkDetections (g : Image) : Option Failure := firstFailure (List.finRange 16) g.checkDetection

/-! ### The locking table (R32 to R34) -/

/-- TABLE_POOL. -/
def Image.checkPool (g : Image) : Option Failure := require (decide (g.poolCount ≤ 512)) .tablePool 0

/-- Whether a term's kind and operands are in range (R32). -/
def Image.termOk (g : Image) : Term → Bool
  | .leverNormal n => within 1 32 n
  | .leverReverse n => within 1 32 n
  | .leverNormalFor n seconds => within 1 32 n && within 1 255 seconds
  | .detectionClear d => g.hasDetection d
  | .detectionOccupied d => g.hasDetection d
  | .releaseUnused e => g.hasEnd e
  | .blockNormal e => g.hasEnd e
  | .countClear c => g.hasSect c
  | .other _ _ _ => false

/-- TABLE_TERM. -/
def Image.checkTerms (g : Image) : Option Failure :=
  match g.pool.findIdx? fun t => !g.termOk t with
  | some k => some (.tableTerm, k)
  | none => none

/-- Whether an alternative's run is of length 1 to 8 and lies inside the pool (R33). -/
def Image.runOk (g : Image) (a : Alternative) : Bool := within 1 8 a.length && decide (a.first + a.length ≤ g.poolCount)

/-- Whether an entry's shape is sound (R33): `spare` says that the lever is SPARE. -/
def Image.entryOk (g : Image) (spare : Bool) (l : List Alternative) : Bool :=
  decide (l.length ≤ 3) && l.all g.runOk && (!spare || l.isEmpty)

/-- The first failing entry of a lever. -/
def Image.checkLeverEntries (g : Image) (i : LeverNo) : Option Failure :=
  let spare := decide (g.roles[i] = .spare)
  require (g.entryOk spare g.entries[i].fromNormal) .tableEntry (2 * (i.val + 1)) <|>
    require (g.entryOk spare g.entries[i].fromReverse) .tableEntry (2 * (i.val + 1) + 1)

/-- TABLE_ENTRY: the entries, and the switch-out alternative last. -/
def Image.checkEntries (g : Image) : Option Failure :=
  firstFailure (List.finRange 32) g.checkLeverEntries <|>
    require (!g.altNamed || (g.switchable && g.runOk g.alternative)) .tableEntry 100

/-- Whether an alternative contains RELEASE_UNUSED of an end (R34). -/
def Image.needsRelease (g : Image) (e : Nat) (a : Alternative) : Bool :=
  (List.range a.length).any fun j => decide (g.pool[a.first + j]? = some (.releaseUnused e))

/-- Whether a starter's from-normal entry demands its release in every alternative (R34). -/
def Image.starterOk (g : Image) (i : LeverNo) : Bool :=
  match g.roles[i] with
  | .starter e => !g.entries[i].fromNormal.isEmpty && g.entries[i].fromNormal.all (g.needsRelease e)
  | _ => true

/-- TABLE_STARTER. -/
def Image.checkTableStarters (g : Image) : Option Failure :=
  firstFailure (List.finRange 32) fun i => require (g.starterOk i) .tableStarter (i.val + 1)

/-! ### Bells (R136) -/

/-- BELL_TIMING. -/
def Image.checkTimings (g : Image) : Option Failure :=
  require (withinOrDefault 30 120 g.gGroup) .bellTiming 1 <|>
    require (withinOrDefault 80 400 g.gEnd) .bellTiming 2 <|>
    require (withinOrDefault 4 30 g.codeLimit) .bellTiming 3 <|>
    require (withinOrDefault 50 200 g.heldStrike) .bellTiming 4 <|>
    require (withinOrDefault 4 20 g.strikeLength) .bellTiming 5 <|>
    require (withinOrDefault 30 600 g.offerHold) .bellTiming 6

/-- BELL_GAP. -/
def Image.checkGap (g : Image) : Option Failure := require (decide (g.gGroupUnits + 20 ≤ g.gEndUnits)) .bellGap 0

/-- Whether a present entry's pattern and class are sound. -/
def CodeEntry.ok (x : CodeEntry) : Bool :=
  within 1 5 x.pattern.length && x.pattern.all (within 1 20) && within 1 20 x.pattern.sum &&
    match x.cls with
    | .other _ => false
    | _ => true

/-- BELL_CODE. -/
def Image.checkCodes (g : Image) : Option Failure :=
  firstFailure (List.finRange 16) fun k => require (!g.codes[k].present || g.codes[k].ok) .bellCode k.val

/-- BELL_DUPLICATE. -/
def Image.checkCodePatterns (g : Image) : Option Failure :=
  firstFailure (List.finRange 16) fun k =>
    require
      (!g.codes[k].present || (List.finRange 16).all fun j =>
        decide (k ≤ j) || !g.codes[j].present || decide (g.codes[j].pattern ≠ g.codes[k].pattern))
      .bellDuplicate k.val

/-! ### The switching record (R177) -/

/-- Whether a switchable part's designated ends are sound. -/
def Image.switchOk (g : Image) : Bool :=
  g.hasEnd g.firstEnd && g.hasEnd g.secondEnd && decide (g.firstEnd ≠ g.secondEnd) &&
    match item0 g.ends g.firstEnd, item0 g.ends g.secondEnd with
    | some a, some b => decide (a.directId ≠ b.directId)
    | _, _ => false

/-- SWITCH_RECORD. -/
def Image.checkSwitch (g : Image) : Option Failure := require (!g.switchable || g.switchOk) .switchRecord 0

/-! ### The whole order (R182, R183) -/

/-- The section checks in the order of R183. -/
def sectionChecks : List (Image → Option Failure) :=
  [Image.checkEnds, Image.checkPairs, Image.checkTimer, Image.checkTransit, Image.checkRoles, Image.checkStarters,
    Image.checkFeed, Image.checkChannels, Image.checkHeads, Image.checkSects, Image.checkSectEnds, Image.checkShared,
    Image.checkDetections, Image.checkPool, Image.checkTerms, Image.checkEntries, Image.checkTableStarters,
    Image.checkTimings, Image.checkGap, Image.checkCodes, Image.checkCodePatterns, Image.checkSwitch]

/-- The first failing check of the sections (R183). -/
def Image.failure (g : Image) : Option Failure := sectionChecks.findSome? fun check => check g

/-- The header checks (R182). -/
def headerFailure (header : List Byte) : Option Failure :=
  let n (i : Nat) : Nat := (header.getD i 0).toNat
  require (decide (n 0 = 0xE7 ∧ n 1 = 0x16)) .imageMark 0 <|>
    require (decide (n 2 = 1)) .imageVersion 0 <|>
    require (within 30 4096 (n 3 * 256 + n 4)) .imageLength 0

/-- The image length a header gives. -/
def headerLength (header : List Byte) : Nat := (header.getD 3 0).toNat * 256 + (header.getD 4 0).toNat

/-- Check 4 of R182: the trailer agrees with the CRC of every byte before it. -/
def crcAgrees (bytes : List Byte) : Bool :=
  decide (bytes.drop (bytes.length - 2) = bytes2 (crc16 (bytes.take (bytes.length - 2))).toNat)

/-- What the checks of a whole image come to. -/
inductive Validation
  | failed (f : Failure)
  | passed (g : Image)
deriving DecidableEq, Repr

/-- Checks 6 and 7 of R182, and then the section checks. -/
def Image.validate (g : Image) : Validation :=
  match require (within 1 15 g.identity) .headerIdentity 0 <|> require (within 1 2 g.rate) .headerRate 0 <|> g.failure with
  | some f => .failed f
  | none => .passed { g with validated := true }

/-- The image checks and the section checks, in order (R182, R183). The spec names no subject for an image whose lengths are all right
and which its sections do not fill: it is a free value. -/
def validate (bytes : List Byte) : Validation :=
  if !crcAgrees bytes then .failed (.imageCrc, 0)
  else if (bytes.getD 7 0).toNat ≠ 10 then .failed (.imageStructure, 0)
  else match parseImage bytes with
    | .wrongLength k => .failed (.imageStructure, k)
    | .unfilled => .failed (.imageStructure, (Config.unfilledImageSubject bytes).val)
    | .parsed g => g.validate

end Sys2Proof.Machine
end

