-- ==== Sys2Proof/Machine/Loader.lean ====
section
/-! DEFINITION. The configuration loader (Chapter 10): reset, the reading of the memory, validation, and the entry into RUNNING; raw
changes at the field inputs; and the meanings of its rows. -/

namespace Sys2Proof.Machine

/-! ### Reset (R178) -/

/-- A lever through reset: its contacts' raw levels and its readback are outside the part. -/
def Lever.reset (l : Lever) : Lever := { n := l.n.reset, r := l.r.reset, readback := l.readback }

/-- A channel through reset: its sense value is outside the part. -/
def Channel.reset (c : Channel) : Channel := { sense := c.sense }

/-- A head through reset. -/
def Head.reset (h : Head) : Head := { a := h.a.reset, b := h.b.reset }

/-- A section through reset. -/
def Sect.reset (x : Sect) : Sect := { key := x.key.reset }

/-- A bell through reset. -/
def Bell.reset (b : Bell) : Bell := { tapper := b.tapper.reset }

/-- A block end through reset. -/
def BlockEnd.reset (b : BlockEnd) : BlockEnd := { switch := b.switch.reset, tos := b.tos.reset, cancel := b.cancel.reset }

/-- RESET_ASSERTED (R178): every operation under way is abandoned and every block holds its reset values; the levels at the field
inputs are outside the part, and the commands that wait and the count of free values are the model's own. A transaction at the port ends, with
no command taken, whatever the level of select (DESIGN CHOICE, log entry 66). -/
def State.resetAsserted (s : State) : State :=
  { underReset := true
    loader := { phase := .stopped }
    levers := Vector.ofFn fun i => s.levers[i].reset
    track := { channels := Vector.ofFn fun c => s.track.channels[c].reset }
    heads := Vector.ofFn fun h => s.heads[h].reset
    sects := Vector.ofFn fun c => s.sects[c].reset
    bells := Vector.ofFn fun e => s.bells[e].reset
    blocks := Vector.ofFn fun e => s.blocks[e].reset
    switching := { keyIn := s.switching.keyIn.reset, keyOut := s.switching.keyOut.reset }
    freeCount := s.freeCount, pending := s.pending }

/-- END_OF_RESET (R178, R180): the part is STARTING at part time 0, and the first read attempt begins. It is the event of a part under
reset. -/
def State.endOfReset (s : State) : State :=
  if s.underReset then { s with underReset := false, now := 0, loader := {} } else s

/-! ### Reading the memory (R180) -/

/-- The loader enters CONFIG_FAULT with a fault code and subject, and stops reading (R180, R183). -/
def State.configFault (s : State) (f : Failure) : State :=
  s.modLoader fun l => { l with partState := .configFault, faultCode := f.1, faultSubject := f.2, phase := .stopped }

/-- Whether the loader reads: the part is out of reset and STARTING (R179, R180). -/
def State.reading (s : State) : Bool := !s.underReset && decide (s.loader.partState = .starting)

/-- The bus address at which the loader addresses the memory, of 7 bits (R180). -/
def memoryAddress : BitVec 7 := 0x52#7

/-- The start address that an attempt sends (R180): byte address 0 in two bytes, high byte first. -/
def startAddress : List Byte := bytes2 0

/-- What the loader has sent on the I2C pair in the attempt under way (R180): the bus address and the start address from which it reads on. None
where no attempt is under way and the pair is released. -/
def State.memoryRead (s : State) : Option (BitVec 7 × List Byte) :=
  if s.reading then
    match s.loader.phase with
    | .header => some (memoryAddress, startAddress)
    | .body _ => some (memoryAddress, startAddress)
    | .waiting _ => none
    | .stopped => none
  else none

/-- The wait before a further attempt (R180). -/
def retryTime : Time := ms 100

/-- READ_ATTEMPT_FAILED (R180). -/
def State.readAttemptFailed (s : State) : State :=
  if s.reading ∧ s.loader.phase = .header then
    let s1 := s.modLoader fun l => { l with failedAttempts := l.failedAttempts + 1 }
    if s1.loader.failedAttempts < 3 then s1.modLoader fun l => { l with phase := .waiting (s.now + retryTime) }
    else s1.configFault (.noImage, 3)
  else s

/-- Whether the next attempt is to begin. -/
def State.retryDue (s : State) : Bool :=
  s.reading &&
    match s.loader.phase with
    | .waiting t => decide (t ≤ s.now)
    | _ => false

/-- READ_RETRY_EXPIRY (R180). -/
def State.readRetryExpiry (s : State) : State := if s.retryDue then s.modLoader fun l => { l with phase := .header } else s

/-- HEADER_READ_COMPLETE (R180, R182): the header checks. -/
def State.headerReadComplete (s : State) (header : List Byte) : State :=
  if s.reading ∧ s.loader.phase = .header then
    match headerFailure header with
    | some f => s.configFault f
    | none => s.modLoader fun l => { l with phase := .body header }
  else s

/-! ### Entry into RUNNING (R186) -/

/-- PART_STARTED (R186). -/
def State.partStarted (s : State) : State :=
  s.append
    { kind := .partStarted, subject := s.cfg.identity, old := PartState.starting.code, new := PartState.running.code
      d1 := hi s.cfg.length, d2 := lo s.cfg.length, d3 := hi s.cfg.crc, d4 := lo s.cfg.crc }

/-- The image is handed to every block and the part state is RUNNING (R186). -/
def State.handImage (s : State) (g : Image) : State := { s with cfg := g }.modLoader fun l => { l with partState := .running }

/-- The entry into RUNNING (R186): PART_STARTED stands before what the blocks' start actions record. -/
def State.enterRunning (s : State) (g : Image) : State :=
  ((((((((((s.handImage g).partStarted).startScanner).startEvaluator).startTrack).startHeads).startCombiner).startLine).startBells).startBlocks).startSwitching

/-- The whole image has been read: it is held, checked, and either handed on or refused (R180, R182, R183). -/
def State.takeImage (s : State) (bytes : List Byte) : State :=
  let s1 := s.modLoader fun l => { l with image := bytes, phase := .stopped }
  match validate bytes with
  | .failed f => s1.configFault f
  | .passed g => s1.enterRunning g

/-- IMAGE_READ_COMPLETE (R180, R183): the bytes read to the length the header gives. -/
def State.imageReadComplete (s : State) (rest : List Byte) : State :=
  match s.loader.phase with
  | .body header =>
    if s.reading ∧ (header ++ rest).length = headerLength header then s.takeImage (header ++ rest) else s
  | _ => s

/-! ### Raw changes (R1, R59, R71, R118, R137, R163) -/

/-- A raw contact of a lever takes a level. -/
def Lever.takeRaw (now : Time) (c : LeverContact) (level : Bool) (l : Lever) : Lever :=
  match c with
  | .n => { l with n := l.n.takeRaw now level }
  | .r => { l with r := l.r.takeRaw now level }

/-- A raw sensor of a head takes a level. -/
def Head.takeRaw (now : Time) (x : Side) (level : Bool) (h : Head) : Head :=
  match x with
  | .a => { h with a := h.a.takeRaw now level }
  | .b => { h with b := h.b.takeRaw now level }

/-- RAW_INPUT_CHANGE: the input takes the level, and its debounce count begins afresh. -/
def State.rawInputChange (s : State) (x : FieldInput) (level : Bool) : State :=
  match x with
  | .lever i c => s.modLever i (Lever.takeRaw s.now c level)
  | .sensor h x => s.modHead h (Head.takeRaw s.now x level)
  | .resetKey c => s.modSect c fun y => { y with key := y.key.takeRaw s.now level }
  | .tapper e => s.modBell e fun b => { b with tapper := b.tapper.takeRaw s.now level }
  | .blockSwitch e => s.modBlock e fun b => { b with switch := b.switch.takeRaw s.now level }
  | .tosPlunger e => s.modBlock e fun b => { b with tos := b.tos.takeRaw s.now level }
  | .cancelPlunger e => s.modBlock e fun b => { b with cancel := b.cancel.takeRaw s.now level }
  | .keyIn => s.modSwitching fun w => { w with keyIn := w.keyIn.takeRaw s.now level }
  | .keyOut => s.modSwitching fun w => { w with keyOut := w.keyOut.takeRaw s.now level }

/-! ### The rows of this chapter as commands -/

/-- RESET_ASSERTED (R178). -/
def execResetAsserted (s : State) : Host.Outcome State Fault Refusal := .next s.resetAsserted

/-- END_OF_RESET (R178). -/
def execEndOfReset (s : State) : Host.Outcome State Fault Refusal := .next s.endOfReset

/-- READ_ATTEMPT_FAILED (R180). -/
def execReadAttemptFailed (s : State) : Host.Outcome State Fault Refusal := .next s.readAttemptFailed

/-- READ_RETRY_EXPIRY (R180). -/
def execReadRetryExpiry (s : State) : Host.Outcome State Fault Refusal := .next s.readRetryExpiry

/-- HEADER_READ_COMPLETE (R182). -/
def execHeaderReadComplete (header : Vector Byte 8) (s : State) : Host.Outcome State Fault Refusal :=
  .next (s.headerReadComplete header.toList)

/-- IMAGE_READ_COMPLETE (R183). -/
def execImageReadComplete (rest : List Byte) (s : State) : Host.Outcome State Fault Refusal := .next (s.imageReadComplete rest).settle

/-- RAW_INPUT_CHANGE (R1). -/
def execRawInputChange (x : FieldInput) (level : Bool) (s : State) : Host.Outcome State Fault Refusal :=
  .next (s.rawInputChange x level)

end Sys2Proof.Machine
end

