-- ==== Sys2Proof/Machine/Snapshot.lean ====
section
/-! DEFINITION. The ten areas of a snapshot (R191, R192): each opens with the part time, and the values follow item by item, those of the
whole part last. A value takes one byte where its range does not exceed 255, and otherwise two. -/

namespace Sys2Proof.Machine

/-- The values of every item of a group, in ascending order. -/
def items {n : Nat} (f : Fin n → List Byte) : List Byte := (List.finRange n).flatMap f

/-- One-byte values in turn. -/
def row (l : List Nat) : List Byte := l.map byte

/-- The time that remains of a timer in units of 10 ms; 0 where it is stopped or expired. -/
def left (now : Time) (t : Option Time) : Nat :=
  match t with
  | some u => remaining now u
  | none => 0

/-- The time since a moment as the snapshot shows it: the whole units of 10 ms that have passed. No rule says how a part of a unit is shown,
nor whether the value is a difference of part times (DESIGN CHOICE, log entry 58). -/
def elapsedUnits (now u : Time) : Nat := (now - u) / 480

/-- The time since a moment in units of 10 ms, up to a greatest value shown (section 1.9; rounded as log entry 58 says). -/
def sofar (now : Time) (cap : Nat) (t : Option Time) : Nat :=
  match t with
  | some u => min cap (elapsedUnits now u)
  | none => 0

/-- What is shown in a run of places for the values of something absent, where the spec states none: free values. -/
def unstated (place count : Nat) : List Byte := (List.range count).map fun k => Config.unstatedByte (place + k)

/-- A part time of the state's own, in four bytes; 0 where it is absent. -/
def timeBytes (t : Option Nat) : List Byte := bytes4 (wrap32 (t.getD 0))

/-- The block end of a STARTER (section 1.9); 0 for another role. -/
def Role.endCode : Role → Nat
  | .starter e => e
  | .ordinary => 0
  | .spare => 0
  | .other _ => 0

/-- A debounced contact as the snapshot shows it: in STARTING and CONFIG_FAULT at its reset value, open, though the contact is debounced there
(R191; R7, R81, R134, R161, R175). -/
def State.shown (s : State) (c : Contact) : Bool := s.active && c.value

/-- The pattern of a head's debounced sensors as the snapshot shows it: in STARTING and CONFIG_FAULT its reset value, neither occupied
(R81, R191). -/
def State.shownPattern (s : State) (h : Head) : Pattern := if s.active then h.pattern else .none

/-- Area 1 (section 1.9): levers. -/
def State.leverArea (s : State) : List Byte :=
  items fun i : LeverNo =>
    let l := s.levers[i]
    row [bit (s.shown l.n), bit (s.shown l.r), l.position.code, s.cfg.roles[i].code, s.cfg.roles[i].endCode] ++
      timeBytes l.lastNormal ++ bytes2 (sofar s.now 3000 l.transitFrom)

/-- Area 2 (section 1.9, R35): locks, lock faults and decisions. The readback, which is not debounced and for which R7 gives no reset value, is
shown as its raw level in every part state, that of a SPARE lever too, which R6 ignores (DESIGN CHOICE, log entry 55). -/
def State.lockArea (s : State) : List Byte :=
  items fun i : LeverNo =>
    let l := s.levers[i]
    let d := s.evaluator.decisions[i]
    row
      [bit l.output, bit l.readback, bit l.hold, sofar s.now 20 l.mismatchFrom, bit l.lockFault, bit d.normal, bit d.reverse,
        d.firstNormal.code, d.firstReverse.code]

/-- The half-period as the snapshot shows it (R57): 0 until the image is validated. -/
def Image.halfShown (g : Image) : Nat := if g.validated then g.halfUnits else 0

/-- The current half-period modulo 2 (R57). -/
def Track.half (t : Track) : Nat :=
  match t.feedTimer with
  | some x => x.number % 2
  | none => 0

/-- Area 3 (R57): track channels. The phase of a disabled channel, whose fields nothing checks, is shown as the image's byte (DESIGN CHOICE, log
entry 55). -/
def State.trackArea (s : State) : List Byte :=
  (items fun c : ChannelNo =>
    let r := s.cfg.channels[c]
    let x := s.track.channels[c]
    row [bit r.enabled, r.phase, bit x.clear] ++ bytes2 x.f ++ row [x.count] ++ bytes2 (left s.now x.minUntil) ++
      row [bit x.interference, bit x.marginLow] ++ bytes2 x.lastOn ++ bytes2 x.lastOff ++ bytes2 x.lastD ++
      row [bit x.feed]) ++
    row [s.cfg.halfShown, s.track.half]

/-- The entry side of the passage under way (R81); 0 where none is (DESIGN CHOICE, log entry 55). -/
def Tracking.entryCode : Tracking → Nat
  | .passage e _ => Side.code e
  | .idle => 0
  | .resync => 0

/-- The last pattern of the passage under way (R81); 0 where none is (DESIGN CHOICE, log entry 55). -/
def Tracking.lastCode : Tracking → Nat
  | .passage _ p => p.code
  | .idle => 0
  | .resync => 0

/-- Area 4 (R81): heads. -/
def State.headArea (s : State) : List Byte :=
  items fun h : HeadNo =>
    let x := s.heads[h]
    row
      [s.cfg.fitted[h], bit (s.shown x.a), bit (s.shown x.b), (s.shownPattern x).code, x.tracking.code, x.tracking.entryCode, x.tracking.lastCode,
        bit x.error, x.errors] ++
      bytes2 x.up ++ bytes2 x.down

/-- Area 5 (R81): count sections. DESIGN CHOICES of log entry 55: the block end of a LOCAL section, and the type and block end of a section that
is not configured, are shown as the image's bytes; before the image is validated the content is shown as a LOCAL section's, 0. -/
def State.sectArea (s : State) : List Byte :=
  items fun c : SectNo =>
    let r := s.cfg.sects[c]
    let x := s.sects[c]
    row [bit r.configured, r.type.code, r.blockEnd, (s.sectState c).code] ++ bytes2 x.localNet ++ bytes2 (netCode x.remote) ++
      bytes2 (netCode (content r.type x)) ++ row [bit x.swept, bit x.pairingCheck, bit x.pending.isSome] ++
      bytes2 (left s.now (x.pending.map (·.until_))) ++ row [bit x.held.isSome] ++ bytes2 (left s.now x.held) ++
      row [bit x.confirming.isSome]

/-- A value that is 255 where it is absent. -/
def orNone (x : Option Nat) : Nat := x.getD 255

/-- The held values of a detection section as they are shown (section 5.8): coded as R89 gives, 255 where no component is named; until the image
is validated every section shows the held values of R90, OCCUPIED, clear and DISTURBED. -/
def State.heldCodes (s : State) (r : DetRecord) : List Nat :=
  let b := s.combiner
  if s.cfg.validated then
    [orNone ((b.heldChannel r).map bit), orNone ((b.heldInterference r).map bit), orNone ((b.heldCount r).map SectState.code)]
  else [bit false, bit false, SectState.disturbed.code]

/-- Area 6 (section 5.8): detection sections. The channel and the count section of a section that is not configured are shown as the image's
bytes, and its held values are those of whatever they name (DESIGN CHOICE, log entry 55). -/
def State.detectionArea (s : State) : List Byte :=
  (items fun d : DetNo =>
    let r := s.cfg.detections[d]
    let x := s.combiner.sects[d]
    row ([bit r.configured, r.channel, r.count, bit x.clear] ++ s.heldCodes r ++ [x.lamp.code, bit (s.detectionLamp d)])) ++
    row [match s.combiner.flasher with
      | some f => bit f.lit
      | none => 0]

/-- The code of the outstanding frame's kind (R161). -/
def OutKind.code : OutKind → Nat
  | .accept => FrameKind.accept.code
  | .withdraw => FrameKind.withdraw.code
  | .cancel => FrameKind.cancel.code
  | .tos => FrameKind.tos.code

/-- Area 7 (R161): block ends. The peer and the overlap of an end that is not configured in a validated image are shown as the image's bytes
(DESIGN CHOICE, log entry 55). -/
def State.blockArea (s : State) : List Byte :=
  items fun e : EndNo =>
    let b := s.blocks[e]
    let l := s.endLamps e
    row
      [bit (s.endConfigured e), b.state.code, b.release.code, bit b.long, s.peerId e, s.peerEnd e, bit s.line.link[e],
        bit (s.shown b.switch), bit (s.shown b.tos), bit (s.shown b.cancel), markCode b.refusal] ++
      bytes2 (left s.now (b.refusal.map (·.until_))) ++ bytes2 (left s.now b.acceptUntil) ++
      bytes2 (left s.now b.cancelUntil) ++
      row
        [bit b.acceptDelivered,
          match b.outstanding with
          | some o => o.kind.code
          | none => 0,
          bit b.mismatch, orNone b.acceptedIndex, s.cfg.ends[e].overlap, bit l.blocked, bit l.clear, bit l.train, bit l.fail]

/-- A group list in five bytes, 0 for absent groups (section 7.11). -/
def groupBytes (l : List Nat) : List Byte := (List.range 5).map fun k => byte (l.getD k 0)

/-- A code record as the snapshot shows it: termination 0 where it is absent, and its other values unstated from a place. -/
def recordBytes (place : Nat) (r : Option CodeRecord) : List Byte :=
  match r with
  | some x => groupBytes x.groups ++ row [x.termination.code, indexCode x.index] ++ bytes4 (wrap32 x.time)
  | none => unstated place 5 ++ row [0] ++ unstated (place + 5) 5

/-- The not-sent mark of the last outbound record. -/
def notSentBytes (r : Option CodeRecord) : List Byte :=
  match r with
  | some x => row [bit x.notSent]
  | none => unstated 10 1

/-- The time of an offer. -/
def offerTimeBytes (o : Option Offer) : List Byte :=
  match o with
  | some x => timeBytes (some x.time)
  | none => unstated 21 4

/-- The end of a running quiet timer. -/
def QuietTimer.running? : QuietTimer → Option Time
  | .running t => some t
  | .expired => none
  | .stopped => none

/-- Area 8 (section 7.11): bell records and offers. The repetition option of an end that is not configured in a validated image is shown as the
image's byte (DESIGN CHOICE, log entry 55). -/
def State.bellArea (s : State) : List Byte :=
  items fun e : EndNo =>
    let b := s.bells[e]
    row [bit (s.shown b.tapper), b.parser.code] ++ groupBytes b.groups ++ bytes2 (left s.now b.codeUntil) ++
      bytes2 (left s.now b.quiet.running?) ++ row [left s.now b.heldUntil] ++ recordBytes 0 b.lastOut ++
      notSentBytes b.lastOut ++ recordBytes 11 b.lastIn ++ row [indexCode (b.offer.map (·.index))] ++
      offerTimeBytes b.offer ++ bytes2 (left s.now (b.offer.map (·.until_))) ++
      row
        [bit s.cfg.ends[e].repetition, bit (s.repetitionSatisfied e), b.playout.length, bit (s.bellCoil e)]

/-- The rank of a frame by age, 1 for the oldest (R117). -/
def Line.rank (l : Line) (f : Frame) : Nat :=
  1 + (l.slots.toList.filter fun x => x.any fun g => decide (g.seq < f.seq)).length

/-- One transmit slot (R117). -/
def State.slotBytes (s : State) (i : Fin 8) : List Byte :=
  match s.line.slots[i] with
  | some f =>
    row
      [1, f.kind.code, f.kind.cls, f.e.val, s.frameDest f, f.attempts, bit f.onLine, bit f.renewed, s.line.rank f]
  | none => row [0] ++ unstated 25 8

/-- The time since an identity was last heard (R117), rounded as log entry 58 says (DESIGN CHOICE). -/
def heardShown (now : Time) (h : Heard) : Nat :=
  match h.last with
  | some t => min 65534 (elapsedUnits now t)
  | none => 65535

/-- Area 9 (R117): the line. The current peer of an end that is not configured in a validated image is shown as the image's bytes (DESIGN
CHOICE, log entry 55). -/
def State.lineArea (s : State) : List Byte :=
  let l := s.line
  items s.slotBytes ++
    (items fun e : EndNo =>
      row [bit l.link[e], s.peerId e, s.peerEnd e, bit l.owed[e], left s.now l.refresh[e]]) ++
    ((List.finRange 16).drop 1).flatMap (fun id => bytes2 (heardShown s.now l.heard[id])) ++
    row [s.cfg.rate, left s.now l.listenUntil] ++ bytes2 l.framesTaken ++ bytes2 l.crcFailures ++ bytes2 l.malformed ++
    bytes2 l.contentionLosses ++ bytes2 l.lineErrors

/-- The last proved position as the snapshot shows it: the spec gives no codes, so the byte is a free value. -/
def provedByte : Option KeyPosition → Byte
  | none => Config.provedPositionByte 0
  | some .keyIn => Config.provedPositionByte 1
  | some .keyOut => Config.provedPositionByte 2

/-- Commit marks (R176). -/
def CommitMark.code : CommitMark → Nat
  | .notQueued => 0
  | .queued _ => 1
  | .acknowledged => 2

/-- The agreement record (R176): direction 0 where none is held. -/
def agreementBytes (now : Time) (a : Option Agreement) : List Byte :=
  match a with
  | some x =>
    row [x.direction.code] ++ bytes2 (remaining now x.until_) ++
      row [bit x.agreed1, x.commit1.code, bit x.agreed2, x.commit2.code]
  | none => row [0] ++ unstated 33 6

/-- The hold (R176). -/
def holdBytes (now : Time) (h : Option Hold) : List Byte :=
  match h with
  | some x => row [x.e.val, x.direction.code, x.proposer] ++ bytes2 (remaining now x.until_)
  | none => unstated 39 5

/-- An overheard entry (R176): age 65535 where it is absent, and its other values unstated from a place. The age is the difference of
the two part times (R172). -/
def overheardBytes (place : Nat) (now : Time) (o : Option Overheard) : List Byte :=
  match o with
  | some x =>
    if present now o then row [x.state, bit x.long] ++ bytes2 x.net ++ bytes2 (unitsAt now - x.time)
    else unstated place 4 ++ bytes2 65535
  | none => unstated place 4 ++ bytes2 65535

/-- The decision on the switch-out alternative (R35): 255 for a part that has none. -/
def State.altShown (s : State) : Nat :=
  if !s.cfg.validated then 0
  else if s.cfg.switchable && s.cfg.altNamed then bit s.evaluator.altDecision
  else 255

/-- Area 10 (R176): switching. The designated ends of a part that is not switchable are shown as the image's bytes (DESIGN CHOICE, log entry 55). -/
def State.switchingArea (s : State) : List Byte :=
  let w := s.switching
  row
    [bit s.cfg.switchable, s.cfg.firstEnd, s.cfg.secondEnd, bit (s.shown w.keyIn), bit (s.shown w.keyOut)] ++
    [provedByte w.proved] ++ row [w.state.code] ++ agreementBytes s.now w.agreement ++ row [bit w.startWatch] ++ holdBytes s.now w.hold ++
    overheardBytes 44 s.now w.overheard1 ++ overheardBytes 48 s.now w.overheard2 ++ row [bit s.switchedOutLamp, s.altShown]

/-- The ten areas as they are captured now (R191, R192). -/
def State.capture (s : State) : Vector (List Byte) 10 :=
  let area (l : List Byte) : List Byte := bytes4 s.partTime ++ l
  #v[area s.leverArea, area s.lockArea, area s.trackArea, area s.headArea, area s.sectArea, area s.detectionArea,
    area s.blockArea, area s.bellArea, area s.lineArea, area s.switchingArea]

end Sys2Proof.Machine
end

