-- ==== Sys2Proof/Machine/Port.lean ====
section
/-! DEFINITION. The maintenance port (Chapter 11): the commands as the master sends them, the bytes the part returns, the snapshot store, and
the event queue as TAKE empties it. -/

namespace Sys2Proof.Machine

/-- The code of a snapshot condition (R189). -/
def SnapCondition.code : SnapCondition → Nat
  | .empty => 0
  | .busy _ _ => 1
  | .ready => 2

/-- The status reply (R189), with its error mark. -/
def State.statusReply (s : State) (error : Nat) : List Byte :=
  [byte s.loader.partState.code, byte s.loader.faultCode.code] ++ bytes2 s.loader.faultSubject ++
    [byte s.port.queue.length, byte s.port.condition.code, byte error]

/-- The 12 bytes of an event record (R193, R194). -/
def Event.bytes (r : Event) : List Byte :=
  bytes4 r.time ++
    [byte r.kind.code, byte r.subject, byte r.old, byte r.new, byte r.d1, byte r.d2, byte r.d3, byte r.d4]

/-- The command that the bytes a master has sent spell (R189), once they are complete: READ's start index comes high byte first. -/
def portCommand (sent : List Byte) : Option Instr :=
  match sent with
  | [1#8] => some .statusCommand
  | [2#8] => some .snapshotCommand
  | [3#8] => none
  | [3#8, area, high, low] => some (.readCommand area (high ++ low))
  | [4#8] => some .takeCommand
  | [code] => some (.unknownCommand code)
  | _ => none

/-- Whether a command byte is taken: the part is out of reset and no command of this transaction has been taken (R190). A transaction that a
reset has cut, with select still asserted, counts as one of which none has been taken (DESIGN CHOICE, log entry 66). -/
def State.takesCommand (s : State) : Bool := !s.underReset && decide (s.port.transaction = .idle)

/-- The transaction goes on to return bytes. -/
def State.reply (s : State) (bytes : List Byte) : State := s.modPort fun p => { p with transaction := .reply bytes }

/-- The status reply becomes due, with its error mark. -/
def State.oweStatus (s : State) (error : Nat) : State := s.modPort fun p => { p with transaction := .status error }

/-- The first byte of a status reply that is due is formed, and the reply keeps the values held at that moment (R190). -/
def State.formReply (s : State) : State :=
  match s.port.transaction with
  | .status error => s.reply (s.statusReply error)
  | .idle => s
  | .reply _ => s
  | .take _ _ => s

/-- The bytes the transaction returns after the last byte of its command: those of a status reply not yet formed are as it would be formed
now. -/
def State.replyBytes (s : State) : List Byte :=
  match s.port.transaction with
  | .idle => []
  | .status error => s.statusReply error
  | .reply bytes => bytes
  | .take bytes _ => bytes

/-- The byte returned in place `k` after the last byte of the command, from 0: every byte past the reply's last is 0, and so is every byte
past the length of an area (R190, R192). -/
def State.returned (s : State) (k : Nat) : Byte := s.replyBytes.getD k 0#8

/-- The byte returned in place `k` of a transaction, from 0, whose command and operands take `sent` bytes: 0 while the command is clocked (R190),
and, as no rule says what is returned while READ's operands are clocked, a free value there (log entry 56). -/
def State.byteOut (s : State) (sent k : Nat) : Byte :=
  if k = 0 then 0#8 else if k < sent then Config.unstatedByte (60 + k) else s.returned (k - sent)

/-- The level of select, an input that the master drives (R189). No row of the table stands for its assertion, so it is no state of the part's:
what depends on it takes it as given (log entry 48). -/
inductive Select
  | asserted
  | deasserted
deriving DecidableEq, Repr

/-- What the part puts on data out (R189). -/
inductive DataOut
  /-- The part does not drive the line. -/
  | released
  | driven (b : Byte)
deriving DecidableEq, Repr

/-- Data out (R189): released while select is deasserted; while it is asserted, the bytes of the transaction, of which `k` names the place as in
`State.byteOut`. R178 does not name data out among the outputs it holds: under reset it is driven as in a transaction of which no command has been
taken (DESIGN CHOICE, log entry 66). -/
def State.dataOut (s : State) (select : Select) (sent k : Nat) : DataOut :=
  match select with
  | .asserted => .driven (s.byteOut sent k)
  | .deasserted => .released

/-- STATUS_COMMAND (R189, R190). -/
def State.statusCommand (s : State) : State := if s.takesCommand then s.oweStatus 0 else s

/-- UNKNOWN_COMMAND (R190): a code other than the four of the table. -/
def State.unknownCommand (s : State) (code : Byte) : State :=
  if s.takesCommand ∧ portCommand [code] = some (.unknownCommand code) then s.oweStatus 1 else s

/-- The time from a capture to its completion (R191). -/
def captureTime : Time := ms 10

/-- A capture is made where none is in progress (R191). -/
def State.snapshot (s : State) : State :=
  match s.port.condition with
  | .busy _ _ => s
  | .empty => s.modPort fun p => { p with condition := .busy (s.now + captureTime) s.capture }
  | .ready => s.modPort fun p => { p with condition := .busy (s.now + captureTime) s.capture }

/-- SNAPSHOT_COMMAND (R191): the status reply stands as after the request. -/
def State.snapshotCommand (s : State) : State := if s.takesCommand then s.snapshot.oweStatus 0 else s

/-- The bytes of an area from a start index (R192); areas 1 to 10, every other empty. -/
def State.readArea (s : State) (area start : Nat) : List Byte :=
  match item s.port.store area with
  | some l => l.drop start
  | none => []

/-- READ_COMMAND (R192). -/
def State.readCommand (s : State) (area : Byte) (start : BitVec 16) : State :=
  if s.takesCommand then s.reply (s.readArea area.toNat start.toNat) else s

/-- TAKE_COMMAND (R196): the oldest record is fixed, or 12 zeros where the queue is empty. -/
def State.takeCommand (s : State) : State :=
  if s.takesCommand then
    match s.port.queue with
    | r :: _ => s.modPort fun p => { p with transaction := .take r.bytes true }
    | [] => s.modPort fun p => { p with transaction := .take (List.replicate 12 0#8) false }
  else s

/-- The record a TAKE has returned at its removal (R196): the bytes fixed at its taking; but where an arrival at the very moment of the removal
was taken first and discarded, and QUEUE_OVERFLOW is the only record, that record as it stands, whose count includes the arrival. -/
def State.returnedRecord (s : State) (fixed : List Byte) : List Byte :=
  match s.port.queue with
  | [r] => if s.port.discardAt = some s.now then r.bytes else fixed
  | _ => fixed

/-- TAKE_RECORD_REMOVED (R196): the twelfth byte of a TAKE has been returned, and the record it fixed leaves the queue. -/
def State.takeRecordRemoved (s : State) : State :=
  match s.port.transaction with
  | .take fixed true =>
    s.modPort fun p => { p with queue := p.queue.tail, transaction := .take (s.returnedRecord fixed) false }
  | .take _ false => s
  | .reply _ => s
  | .status _ => s
  | .idle => s

/-- SELECT_DEASSERTED (R190, R196): the transaction ends, and a TAKE that is not complete removes nothing. -/
def State.selectDeasserted (s : State) : State := s.modPort fun p => { p with transaction := .idle }

/-- The copy of a capture whose time has come (R191). -/
def State.captureDue (s : State) : Option (Vector (List Byte) 10) :=
  match s.port.condition with
  | .busy t v => if t ≤ s.now then some v else none
  | .empty => none
  | .ready => none

/-- SNAPSHOT_COMPLETION (R191). -/
def State.snapshotCompletion (s : State) : State :=
  match s.captureDue with
  | some v => s.modPort fun p => { p with store := v, condition := .ready }
  | none => s

/-! ### The rows of this chapter as commands -/

/-- STATUS_COMMAND (R189, R190). -/
def execStatusCommand (s : State) : Host.Outcome State Fault Refusal := .next s.statusCommand

/-- SNAPSHOT_COMMAND (R191). -/
def execSnapshotCommand (s : State) : Host.Outcome State Fault Refusal := .next s.snapshotCommand

/-- READ_COMMAND (R192). -/
def execReadCommand (area : Byte) (start : BitVec 16) (s : State) : Host.Outcome State Fault Refusal :=
  .next (s.readCommand area start)

/-- TAKE_COMMAND (R196). -/
def execTakeCommand (s : State) : Host.Outcome State Fault Refusal := .next s.takeCommand

/-- UNKNOWN_COMMAND (R190). -/
def execUnknownCommand (code : Byte) (s : State) : Host.Outcome State Fault Refusal := .next (s.unknownCommand code)

/-- SNAPSHOT_COMPLETION (R191). -/
def execSnapshotCompletion (s : State) : Host.Outcome State Fault Refusal := .next s.snapshotCompletion

/-- TAKE_RECORD_REMOVED (R196). -/
def execTakeRecordRemoved (s : State) : Host.Outcome State Fault Refusal := .next s.takeRecordRemoved

/-- SELECT_DEASSERTED (R190). -/
def execSelectDeasserted (s : State) : Host.Outcome State Fault Refusal := .next s.selectDeasserted

end Sys2Proof.Machine
end

