-- ==== Sys2Proof/Machine/Clock.lean ====
section
/-! DEFINITION. The passage of time: which of the part's own events has come about, and the tick. The spec lets events that fall at one moment
be taken in any order; the part takes them in the order below. -/

namespace Sys2Proof.Machine

/-- The command of the lowest-numbered item for which an event has come about. -/
def firstDue {n : Nat} (due : Fin n → Bool) (command : Fin n → Instr) : Option Instr :=
  ((List.finRange n).find? due).map command

/-- A command, where its event has come about. -/
def onceDue (due : Bool) (command : Instr) : Option Instr := if due then some command else none

/-- The change events of the debounced inputs that have come. -/
def State.inputDue (s : State) : Option Instr :=
  firstDue s.contactDue .provingContactChange <|>
    firstDue s.sensorDue .headStep <|>
    firstDue (fun c => s.keyDue c true) .countResetKeyPress <|>
    firstDue (fun c => s.keyDue c false) (fun c => .plungerOrKeyRelease (.resetKey c)) <|>
    firstDue (fun e => s.tapperDue e true) .tapperStrike <|>
    firstDue (fun e => s.tapperDue e false) .tapperRelease <|>
    firstDue (fun e => s.instrumentDue e s.blocks[e].switch true) .blockSwitchToAccept <|>
    firstDue (fun e => s.instrumentDue e s.blocks[e].switch false) .blockSwitchToNormal <|>
    firstDue (fun e => s.instrumentDue e s.blocks[e].tos true) .tosPlungerPress <|>
    firstDue (fun e => s.instrumentDue e s.blocks[e].tos false) (fun e => .plungerOrKeyRelease (.tosPlunger e)) <|>
    firstDue (fun e => s.instrumentDue e s.blocks[e].cancel true) .cancelPlungerPress <|>
    firstDue (fun e => s.instrumentDue e s.blocks[e].cancel false) (fun e => .plungerOrKeyRelease (.cancelPlunger e)) <|>
    onceDue s.switchKeyDue .switchKeyMovement

/-- The oldest decision on its way to the scanner. -/
def State.decisionDue (s : State) : Option Instr :=
  s.evaluator.handed.head?.map fun h => .lockDecisionArrival h.lever h.entry

/-- The expiry of a LEVER_NORMAL_FOR term that has come. -/
def State.termDue (s : State) : Option Instr :=
  ((List.range s.evaluator.timers.length).find? s.normalForDue).map .normalForExpiry

/-- The sense values at the inputs. -/
def State.senseNow (s : State) : Vector Sense 12 := Vector.ofFn fun c => s.track.channels[c].sense

/-- The expiries of the frame, the rails and the sections that have come. -/
def State.boxDue (s : State) : Option Instr :=
  firstDue s.transitDue .transitLimitExpiry <|>
    firstDue s.mismatchDue .readbackMismatchExpiry <|>
    s.decisionDue <|>
    s.termDue <|>
    onceDue s.boundaryDue.isSome (.halfPeriodBoundary s.senseNow) <|>
    firstDue s.minOccupiedDue .minOccupiedExpiry <|>
    firstDue s.requestDue .resetRequestWindowExpiry <|>
    firstDue s.heldDue .heldRequestWindowExpiry <|>
    onceDue s.flasherDue .flasherHalfExpiry

/-- The expiries of the line and the bells that have come. -/
def State.lineDue (s : State) : Option Instr :=
  onceDue s.startable.isSome .frameStart <|>
    firstDue (fun e => s.active && expired s.now s.line.refresh[e]) .statusRefreshExpiry <|>
    firstDue s.heardDue .lastHeardExpiry <|>
    onceDue (s.active && expired s.now s.line.listenUntil) .listeningPeriodEnd <|>
    firstDue s.quietDue .quietTimerExpiry <|>
    firstDue (fun e => s.active && expired s.now s.bells[e].heldUntil) .heldTimerExpiry <|>
    firstDue (fun e => s.active && expired s.now s.bells[e].codeUntil) .codeTimerExpiry <|>
    firstDue s.beatIsDue .beatDue <|>
    firstDue (fun e => s.active && expired s.now s.bells[e].strikeUntil) .strikeEnd <|>
    firstDue (fun e => s.active && expired s.now (s.bells[e].offer.map (·.until_))) .offerHoldExpiry

/-- The expiries of the block ends, the switching controller and the port that have come. -/
def State.blockDue (s : State) : Option Instr :=
  firstDue (fun e => s.active && expired s.now s.blocks[e].acceptUntil) .acceptanceTimerExpiry <|>
    firstDue (fun e => s.active && expired s.now s.blocks[e].cancelUntil) .cancellationTimerExpiry <|>
    firstDue (fun e => s.active && expired s.now (s.blocks[e].refusal.map (·.until_))) .refusalMarkExpiry <|>
    onceDue (s.active && expired s.now (s.switching.agreement.map (·.until_))) .agreementLimitExpiry <|>
    onceDue (s.active && expired s.now (s.switching.hold.map (·.until_))) .holdTimerExpiry <|>
    onceDue s.captureDue.isSome .snapshotCompletion <|>
    onceDue s.retryDue .readRetryExpiry

/-- The next of the part's own events that has come about and has not been taken. The order is the model's (DESIGN CHOICE, log entry 2). A contact
change stands before a decision on its way; a starter that has lost its release takes the decision first all the same (`State.takeWithdrawal`). -/
def State.nextDue (s : State) : Option Instr := s.inputDue <|> s.boxDue <|> s.lineDue <|> s.blockDue

/-- One quantum of time passes, and a status reply that was due is formed before it (R190, log entry 7); while reset is applied time stands. -/
def State.tick (s : State) : State := if s.underReset then s else { s.formReply with now := s.now + 1 }

end Sys2Proof.Machine
end

