-- ==== Sys2Proof/Machine/Dispatch.lean ====
section
/-! DEFINITION. The dispatch of the commands: one arm per constructor of `Instr`, each one call of its meaning. -/

namespace Sys2Proof.Machine

/-- A command's effect on everything but the queue of commands. -/
def exec (i : Instr) (s : State) : Host.Outcome State Fault Refusal :=
  match i with
  | .resetAsserted => Sys2Proof.Machine.execResetAsserted s
  | .endOfReset => Sys2Proof.Machine.execEndOfReset s
  | .readAttemptFailed => Sys2Proof.Machine.execReadAttemptFailed s
  | .readRetryExpiry => Sys2Proof.Machine.execReadRetryExpiry s
  | .headerReadComplete header => Sys2Proof.Machine.execHeaderReadComplete header s
  | .imageReadComplete rest => Sys2Proof.Machine.execImageReadComplete rest s
  | .rawInputChange input level => Sys2Proof.Machine.execRawInputChange input level s
  | .provingContactChange lever => Sys2Proof.Machine.execProvingContactChange lever s
  | .transitLimitExpiry lever => Sys2Proof.Machine.execTransitLimitExpiry lever s
  | .readbackChange lever made => Sys2Proof.Machine.execReadbackChange lever made s
  | .readbackMismatchExpiry lever => Sys2Proof.Machine.execReadbackMismatchExpiry lever s
  | .lockDecisionArrival lever entry => Sys2Proof.Machine.execLockDecisionArrival lever entry s
  | .normalForExpiry term => Sys2Proof.Machine.execNormalForExpiry term s
  | .halfPeriodBoundary sense => Sys2Proof.Machine.execHalfPeriodBoundary sense s
  | .minOccupiedExpiry channel => Sys2Proof.Machine.execMinOccupiedExpiry channel s
  | .headStep head => Sys2Proof.Machine.execHeadStep head s
  | .countResetKeyPress sect => Sys2Proof.Machine.execCountResetKeyPress sect s
  | .resetRequestWindowExpiry sect => Sys2Proof.Machine.execResetRequestWindowExpiry sect s
  | .heldRequestWindowExpiry sect => Sys2Proof.Machine.execHeldRequestWindowExpiry sect s
  | .flasherHalfExpiry => Sys2Proof.Machine.execFlasherHalfExpiry s
  | .frameStart => Sys2Proof.Machine.execFrameStart s
  | .contentionLost => Sys2Proof.Machine.execContentionLost s
  | .lineError => Sys2Proof.Machine.execLineError s
  | .frameBrokenOff => Sys2Proof.Machine.execFrameBrokenOff s
  | .acknowledgeDecision chars => Sys2Proof.Machine.execAcknowledgeDecision chars s
  | .attemptEnd slot => Sys2Proof.Machine.execAttemptEnd slot s
  | .frameTaking => Sys2Proof.Machine.execFrameTaking s
  | .statusRefreshExpiry e => Sys2Proof.Machine.execStatusRefreshExpiry e s
  | .lastHeardExpiry identity => Sys2Proof.Machine.execLastHeardExpiry identity s
  | .listeningPeriodEnd => Sys2Proof.Machine.execListeningPeriodEnd s
  | .tapperStrike e => Sys2Proof.Machine.execTapperStrike e s
  | .tapperRelease e => Sys2Proof.Machine.execTapperRelease e s
  | .quietTimerExpiry e => Sys2Proof.Machine.execQuietTimerExpiry e s
  | .heldTimerExpiry e => Sys2Proof.Machine.execHeldTimerExpiry e s
  | .codeTimerExpiry e => Sys2Proof.Machine.execCodeTimerExpiry e s
  | .beatDue e => Sys2Proof.Machine.execBeatDue e s
  | .strikeEnd e => Sys2Proof.Machine.execStrikeEnd e s
  | .offerHoldExpiry e => Sys2Proof.Machine.execOfferHoldExpiry e s
  | .blockSwitchToAccept e => Sys2Proof.Machine.execBlockSwitchToAccept e s
  | .blockSwitchToNormal e => Sys2Proof.Machine.execBlockSwitchToNormal e s
  | .tosPlungerPress e => Sys2Proof.Machine.execTosPlungerPress e s
  | .cancelPlungerPress e => Sys2Proof.Machine.execCancelPlungerPress e s
  | .plungerOrKeyRelease input => Sys2Proof.Machine.execPlungerOrKeyRelease input s
  | .acceptanceTimerExpiry e => Sys2Proof.Machine.execAcceptanceTimerExpiry e s
  | .cancellationTimerExpiry e => Sys2Proof.Machine.execCancellationTimerExpiry e s
  | .refusalMarkExpiry e => Sys2Proof.Machine.execRefusalMarkExpiry e s
  | .switchKeyMovement => Sys2Proof.Machine.execSwitchKeyMovement s
  | .agreementLimitExpiry => Sys2Proof.Machine.execAgreementLimitExpiry s
  | .holdTimerExpiry => Sys2Proof.Machine.execHoldTimerExpiry s
  | .statusCommand => Sys2Proof.Machine.execStatusCommand s
  | .snapshotCommand => Sys2Proof.Machine.execSnapshotCommand s
  | .readCommand area start => Sys2Proof.Machine.execReadCommand area start s
  | .takeCommand => Sys2Proof.Machine.execTakeCommand s
  | .unknownCommand code => Sys2Proof.Machine.execUnknownCommand code s
  | .snapshotCompletion => Sys2Proof.Machine.execSnapshotCompletion s
  | .takeRecordRemoved => Sys2Proof.Machine.execTakeRecordRemoved s
  | .selectDeasserted => Sys2Proof.Machine.execSelectDeasserted s
  | .startBitSeen => Sys2Proof.Machine.execStartBitSeen s

end Sys2Proof.Machine
end

