-- ==== Sys2Proof/Machine/Step.lean ====
section
/-! DEFINITION. One step: the command at the front of the queue is taken. On an empty queue the block does not stand still: the next of its own
events that has come about is taken, and where there is none a quantum of time passes. -/

namespace Sys2Proof.Machine

/-- A step on an empty queue. -/
def stepIdle (s : State) : Host.Outcome State Fault Refusal :=
  match s.nextDue with
  | some c => exec c s
  | none => .next s.tick

/-- One step of the part. -/
def step (s : State) : Host.Outcome State Fault Refusal :=
  match s.pending with
  | c :: rest => exec c { s with pending := rest }
  | [] => stepIdle s

/-- The state with the command a word spells put at the front of its queue; no word spells one. -/
def State.withFetchWord (s : State) (nbits w : Nat) : State :=
  match decodeTableWord nbits w with
  | some c => { s with pending := c :: s.pending }
  | none => s

end Sys2Proof.Machine
end

