-- ==== Sys2Proof/Safety.lean ====
section
/-! DEFINITION. What counts as a sound state of the part, in the terms the statements use: the laws that stand between events, and what the
locking table demands of the blocks themselves. -/

namespace Sys2Proof.Machine

/-! ### Running a command -/

/-- A command, taken in a state, answers a next state that has a property. -/
def Runs (c : Instr) (s : State) (P : State → Prop) : Prop := ∃ t, exec c s = .next t ∧ P t

/-- No judgement of the proposer's conditions is waiting to be acted on: the state is one between events. -/
def State.quiet (s : State) : Prop := s.switching.failing = none

/-- What the rules below the loader never change: time, reset, the part state and the image, and the commands that wait. -/
def State.sameFrame (s t : State) : Prop :=
  t.now = s.now ∧ t.underReset = s.underReset ∧ t.loader = s.loader ∧ t.cfg = s.cfg ∧ t.pending = s.pending

/-- Records arrived at the event queue, in this order (R195), and nothing else happened at the maintenance port but that the moment of the last
discard follows the arrivals. -/
def Recorded (s t : State) (l : List Event) : Prop :=
  t.port = { s.port with queue := l.foldl (fun q r => arrive r q) s.port.queue, discardAt := t.port.discardAt }

/-- Some records arrived, the first of them `r`. -/
def RecordedFirst (s t : State) (r : Event) : Prop := ∃ l, Recorded s t (r :: l)

/-- The debounced contact behind a field input. -/
def State.inputContact (s : State) : FieldInput → Contact
  | .lever i .n => s.levers[i].n
  | .lever i .r => s.levers[i].r
  | .sensor h .a => s.heads[h].a
  | .sensor h .b => s.heads[h].b
  | .resetKey c => s.sects[c].key
  | .tapper e => s.bells[e].tapper
  | .blockSwitch e => s.blocks[e].switch
  | .tosPlunger e => s.blocks[e].tos
  | .cancelPlunger e => s.blocks[e].cancel
  | .keyIn => s.switching.keyIn
  | .keyOut => s.switching.keyOut

/-- Whether a wheel that entered a head from a side is over it (R60). -/
def Tracking.entered (t : Tracking) (side : Side) : Bool :=
  match t with
  | .passage entry _ => decide (entry = side)
  | .idle => false
  | .resync => false

/-- Two states differ in debounced contacts alone. -/
def SameButContacts (s t : State) : Prop :=
  t = { s with
    levers := t.levers, heads := t.heads, sects := t.sects, bells := t.bells, blocks := t.blocks, switching := t.switching } ∧
  (∀ i : LeverNo, t.levers[i] = { s.levers[i] with n := t.levers[i].n, r := t.levers[i].r }) ∧
  (∀ h : HeadNo, t.heads[h] = { s.heads[h] with a := t.heads[h].a, b := t.heads[h].b }) ∧
  (∀ c : SectNo, t.sects[c] = { s.sects[c] with key := t.sects[c].key }) ∧
  (∀ e : EndNo, t.bells[e] = { s.bells[e] with tapper := t.bells[e].tapper }) ∧
  (∀ e : EndNo, t.blocks[e] =
    { s.blocks[e] with switch := t.blocks[e].switch, tos := t.blocks[e].tos, cancel := t.blocks[e].cancel }) ∧
  t.switching = { s.switching with keyIn := t.switching.keyIn, keyOut := t.switching.keyOut }

/-- A slot holds a frame of a kind for an end, with a destination and a payload, and with the number `n`. -/
def State.slotHolds (s : State) (k : FrameKind) (e : EndNo) (dest : Nat) (payload : List Byte) (n : Nat) : Prop :=
  ∃ i : Fin 8, ∃ f, s.line.slots[i] = some f ∧ f.kind = k ∧ f.e = e ∧ f.dest = dest ∧ f.payload = payload ∧ f.seq = n

/-- A STATUS of an end waits in a slot or is owed (R111, R112). -/
def State.statusPromised (s : State) (e : EndNo) : Prop :=
  (∃ i : Fin 8, ∃ f, s.line.slots[i] = some f ∧ f.kind = .status ∧ f.e = e) ∨ s.line.owed[e] = true

/-- From `s` an end whose record was `b` has returned to NORMAL with a frame of its own queued, which is outstanding; where the slots refuse it
the end is NORMAL all the same (R141, R151, R152). -/
def State.returnedWith (s t : State) (e : EndNo) (b : BlockEnd) (o : OutKind) (k : FrameKind) : Prop :=
  t.blocks[e] = { b with
    state := .normal, release := .none, refusal := none, mismatch := false, acceptUntil := none, cancelUntil := none
    outstanding := t.blocks[e].outstanding } ∧
  (s.answerTo k e ≠ .refused → ∃ n, t.blocks[e].outstanding = some ⟨o, n⟩ ∧ t.slotHolds k e (s.peerId e) [] n) ∧
  (s.answerTo k e = .refused → t.blocks[e].outstanding = b.outstanding) ∧
  ∀ e', e' ≠ e → t.blocks[e'] = s.blocks[e']

/-- From `u` a standing proposal is abandoned, with the codes of a reason and a cause (R170): an ABANDON of its direction is queued to each neighbour
that has AGREED, to the first and then to the second (log entry 67); the agreement is discarded and the controller is in the state it proposed from; the
record is the last, in the order of R170's text (log entry 20). -/
def State.abandons (u t : State) (a : Agreement) (reason cause : Nat) : Prop :=
  let payload : List Byte := [byte a.direction.code]
  let told : State := if a.agreed1 then u.requestSwitch .switchAbandon u.first payload else u
  u.sameFrame t ∧ t.blocks = u.blocks ∧ t.levers = u.levers ∧ t.switching.agreement = none ∧ t.switching.state = a.direction.from_ ∧
  (∀ n, a.agreed1 = true → u.answerTo .switchAbandon u.first = .queued n →
    t.slotHolds .switchAbandon u.first u.cfg.ends[u.first].directId payload n) ∧
  (∀ n, a.agreed2 = true → told.answerTo .switchAbandon u.second = .queued n →
    t.slotHolds .switchAbandon u.second u.cfg.ends[u.second].directId payload n) ∧
  ∃ l r, Recorded u t l ∧ l.getLast? = some r ∧ r.kind = .switching ∧ r.old = a.direction.code ∧ r.new = 3 ∧ r.d1 = reason ∧ r.d2 = cause

/-- From `s` the section of an end has changed its pairing (R68, R78): its remote net is discarded, its pairing check set, its pending, held and
outstanding reset exchanges ended, a RESET_PREP section is DISTURBED, and a request that was pending is recorded as PAIRING_CHANGED. That a
confirmation outstanding ends whatever the latch is the model's choice (log entry 59). -/
def State.rePaired (s t : State) (e : EndNo) : Prop :=
  ∀ c, s.sectOf e = some c →
    t.sects[c] = { s.sects[c] with
      remote := none, pairingCheck := true, pending := none, held := none, confirming := none
      latch := if s.sects[c].latch = .resetPrep then .disturbed else s.sects[c].latch } ∧
    (s.sects[c].pending ≠ none → ∃ l, Recorded s t l ∧
      { time := s.partTime, kind := .countReset, subject := c.val + 1, old := (s.sectState c).code, new := (t.sectState c).code, d1 := 8
        d2 := e.val, d3 := hi s.sects[c].localNet, d4 := lo s.sects[c].localNet } ∈ l)

/-- From `u`, every check before the frames held, a proposal of a direction goes on to its two PROPOSE frames (check 7 of R165, check 3 of R173): with
the first refused it is refused locally; with the second refused an ABANDON follows the first; with both queued it stands for 10 s,
and its record is the last, in the order of R165's text (log entry 20). -/
def State.proposes (u t : State) (d : Direction) : Prop :=
  let id1 := u.cfg.ends[u.first].directId
  let id2 := u.cfg.ends[u.second].directId
  let payload : List Byte := [byte d.code, byte id1, byte u.cfg.ends[u.first].directEnd, byte id2, byte u.cfg.ends[u.second].directEnd]
  (u.answerTo .switchPropose u.first = .refused → t = u.switchRecord (.one u.first id1) d.code .refusedLocally (some .slots) none) ∧
  ∀ n, u.answerTo .switchPropose u.first = .queued n →
    let v := u.requestSwitch .switchPropose u.first payload
    (v.answerTo .switchPropose u.second = .refused →
      t = (v.requestSwitch .switchAbandon u.first [byte d.code]).switchRecord (.one u.second id2) d.code .refusedLocally
        (some .slots) none) ∧
    ∀ m, v.answerTo .switchPropose u.second = .queued m →
      u.sameFrame t ∧ t.blocks = u.blocks ∧ t.levers = u.levers ∧
      t.switching = { u.switching with
        state := d.proposing, agreement := some { direction := d, until_ := u.now + secs 10 }, startWatch := false } ∧
      t.slotHolds .switchPropose u.first id1 payload n ∧ t.slotHolds .switchPropose u.second id2 payload m ∧
      ∃ l r, Recorded u t l ∧ l.getLast? = some r ∧ r.kind = .switching ∧ r.subject = 255 ∧ r.old = d.code ∧ r.new = 1

/-! ### The section checks of an image (R183) -/

/-- One check of the order of R183: what must hold, and the fault code and subject where it does not. -/
structure Check where
  holds : Prop
  code : FaultCode
  subject : Nat

/-- An end of the image that a record names (R183). -/
def Image.namesEnd (g : Image) (n : Nat) : Prop := ∃ e : EndNo, n = e.val ∧ g.ends[e].configured = true

/-- A detection section of the image that a record names. -/
def Image.namesDetection (g : Image) (n : Nat) : Prop := ∃ d : DetNo, n = d.val + 1 ∧ g.detections[d].configured = true

/-- A count section of the image that a record names. -/
def Image.namesSect (g : Image) (n : Nat) : Prop := ∃ c : SectNo, n = c.val + 1 ∧ g.sects[c].configured = true

/-- A fitted head of the image that a record names. -/
def Image.namesHead (g : Image) (n : Nat) : Prop := ∃ h : HeadNo, n = h.val + 1 ∧ g.fitted[h] = 1

/-- An enabled channel of the image that a record names. -/
def Image.namesChannel (g : Image) (n : Nat) : Prop := ∃ c : ChannelNo, n = c.val + 1 ∧ g.channels[c].enabled = true

/-- A number in a range, or 0, which selects a default. -/
def defaultOr (lo hi n : Nat) : Prop := n = 0 ∨ (lo ≤ n ∧ n ≤ hi)

/-- A peer's identity and end (R162). -/
def Image.peerSound (g : Image) (id e : Nat) : Prop := 1 ≤ id ∧ id ≤ 15 ∧ id ≠ g.identity ∧ e ≤ 2

/-- A configured end (R162, R184). -/
def Image.endSound (g : Image) (r : EndRecord) : Prop :=
  g.peerSound r.directId r.directEnd ∧ (r.altId ≠ 0 → g.peerSound r.altId r.altEnd ∧ r.altId ≠ r.directId) ∧
    (r.overlap ≠ 0 → g.namesDetection r.overlap)

/-- The identity-and-end pairs that stand at an end (R184). -/
def EndRecord.hasPair (r : EndRecord) (p : Nat × Nat) : Prop :=
  r.configured = true ∧ (p = (r.directId, r.directEnd) ∨ (r.altId ≠ 0 ∧ p = (r.altId, r.altEnd)))

/-- A lever's role (R185). -/
def Image.roleSound (g : Image) (i : LeverNo) : Prop :=
  g.roles[i] = .ordinary ∨ g.roles[i] = .spare ∨
    ∃ e, g.roles[i] = .starter e ∧ g.namesEnd e ∧ ∀ j : LeverNo, j < i → g.roles[j] ≠ .starter e

/-- An enabled channel (R58). -/
def ChannelRecord.sound (r : ChannelRecord) : Prop :=
  r.phase ≤ 1 ∧ 0 < r.tDrop ∧ r.tDrop < r.tPick ∧ r.tPick ≤ r.tWarn ∧ r.tWarn ≤ 1023 ∧ r.strayLimit ≤ 1023 ∧ r.persistence ≤ 15 ∧
    (r.minOccupied ≤ 100 ∨ r.minOccupied = 255)

/-- A configured count section (R82). That of two BLOCK sections naming one end the higher-numbered fails is the model's choice (log entry
53). -/
def Image.sectSound (g : Image) (c : SectNo) : Prop :=
  let r := g.sects[c]
  (∀ b ∈ r.boundaries, g.namesHead b.head ∧ (b.orientation = .upIn ∨ b.orientation = .downIn)) ∧
    ((r.type = .localSect ∧ 1 ≤ r.boundaries.length ∧ r.boundaries.length ≤ 3 ∧ (r.boundaries.map (·.head)).Nodup) ∨
      (r.type = .block ∧ r.boundaries.length = 1 ∧ g.namesEnd r.blockEnd ∧
        ∀ d : SectNo, d < c → g.sects[d].configured = true → g.sects[d].type = .block → g.sects[d].blockEnd ≠ r.blockEnd))

/-- A head bounds a configured section. -/
def Image.headBounds (g : Image) (h : HeadNo) (c : SectNo) : Prop :=
  g.sects[c].configured = true ∧ ∃ b ∈ g.sects[c].boundaries, b.head = h.val + 1

/-- A term's kind and operands (R32). -/
def Image.termSound (g : Image) : Term → Prop
  | .leverNormal n => 1 ≤ n ∧ n ≤ 32
  | .leverReverse n => 1 ≤ n ∧ n ≤ 32
  | .leverNormalFor n seconds => 1 ≤ n ∧ n ≤ 32 ∧ 1 ≤ seconds ∧ seconds ≤ 255
  | .detectionClear d => g.namesDetection d
  | .detectionOccupied d => g.namesDetection d
  | .releaseUnused e => g.namesEnd e
  | .blockNormal e => g.namesEnd e
  | .countClear c => g.namesSect c
  | .other _ _ _ => False

/-- An alternative's run (R33). -/
def Image.runSound (g : Image) (a : Alternative) : Prop := 1 ≤ a.length ∧ a.length ≤ 8 ∧ a.first + a.length ≤ g.poolCount

/-- An entry of a lever (R33). -/
def Image.entrySound (g : Image) (i : LeverNo) (l : List Alternative) : Prop :=
  l.length ≤ 3 ∧ (∀ a ∈ l, g.runSound a) ∧ (g.roles[i] = .spare → l = [])

/-- A starter's from-normal entry (R34). -/
def Image.starterSound (g : Image) (i : LeverNo) : Prop :=
  ∀ e, g.roles[i] = .starter e → g.entries[i].fromNormal ≠ [] ∧
    ∀ a ∈ g.entries[i].fromNormal, ∃ j < a.length, g.pool[a.first + j]? = some (.releaseUnused e)

/-- A present entry of the bell code table (R136). -/
def CodeEntry.sound (x : CodeEntry) : Prop :=
  1 ≤ x.pattern.length ∧ x.pattern.length ≤ 5 ∧ (∀ n ∈ x.pattern, 1 ≤ n ∧ n ≤ 20) ∧ 1 ≤ x.pattern.sum ∧ x.pattern.sum ≤ 20 ∧
    ∀ c, x.cls ≠ .other c

/-- A switchable part's designated ends (R177). -/
def Image.switchSound (g : Image) : Prop :=
  g.firstEnd ≠ g.secondEnd ∧ ∃ a b : EndNo, g.firstEnd = a.val ∧ g.secondEnd = b.val ∧ g.ends[a].configured = true ∧
    g.ends[b].configured = true ∧ g.ends[a].directId ≠ g.ends[b].directId

/-- The checks of the ends, the levers and the track circuits (R58, R162, R184, R185), in R183's order. That each end is compared with the ends before
it, the later end of a match being the subject, is a reading of R184 (DEDUCED, log entry 43). -/
def Image.boxChecks (g : Image) : List Check :=
  (Machine.ends.map fun e => ⟨g.ends[e].configured = true → g.endSound g.ends[e], .blockEnd, e.val⟩) ++
    (Machine.ends.map fun e =>
      ⟨∀ e' : EndNo, e' < e → ∀ p, g.ends[e].hasPair p → ¬g.ends[e'].hasPair p, .blockPeerDuplicate, e.val⟩) ++
    [⟨defaultOr 30 240 g.cancellation, .blockTimer, 0⟩, ⟨defaultOr 2 30 g.transitLimit, .leverTransit, 0⟩] ++
    ((List.finRange 32).map fun i => ⟨g.roleSound i, .leverRole, i.val + 1⟩) ++
    (Machine.ends.map fun e =>
      ⟨g.ends[e].configured = true → ∃ i : LeverNo, g.roles[i] = .starter e.val, .leverStarterMissing, e.val⟩) ++
    [⟨defaultOr 10 50 g.halfPeriod, .trackFeed, 0⟩] ++
    ((List.finRange 12).map fun c => ⟨g.channels[c].enabled = true → g.channels[c].sound, .trackChannel, c.val + 1⟩)

/-- The checks of the heads, the count sections and the detection sections (R82, R91), in R183's order. -/
def Image.countChecks (g : Image) : List Check :=
  ((List.finRange 4).map fun h => ⟨g.fitted[h] = 0 ∨ g.fitted[h] = 1, .countHead, h.val + 1⟩) ++
    ((List.finRange 6).map fun c => ⟨g.sects[c].configured = true → g.sectSound c, .countSection, c.val + 1⟩) ++
    (Machine.ends.map fun e =>
      ⟨g.ends[e].configured = true → ∃ c : SectNo, g.sects[c].configured = true ∧ g.sects[c].type = .block ∧
        g.sects[c].blockEnd = e.val, .countEndMissing, e.val⟩) ++
    ((List.finRange 4).map fun h =>
      ⟨¬∃ a b c : SectNo, a < b ∧ b < c ∧ g.headBounds h a ∧ g.headBounds h b ∧ g.headBounds h c, .countHeadShared, h.val + 1⟩) ++
    (List.finRange 16).flatMap fun d =>
      let r := g.detections[d]
      [⟨r.configured = true → r.channel ≠ 0 ∨ r.count ≠ 0, .detectionEmpty, d.val + 1⟩,
        ⟨r.configured = true → r.channel ≠ 0 → g.namesChannel r.channel, .detectionChannel, d.val + 1⟩,
        ⟨r.configured = true → r.count ≠ 0 → g.namesSect r.count, .detectionCount, d.val + 1⟩]

/-- The checks of the locking table, the bells and the switching record (R32 to R34, R136, R177), in R183's order. -/
def Image.tableChecks (g : Image) : List Check :=
  [⟨g.poolCount ≤ 512, .tablePool, 0⟩] ++
    ((List.range g.pool.length).map fun k => ⟨∀ t, g.pool[k]? = some t → g.termSound t, .tableTerm, k⟩) ++
    ((List.finRange 32).flatMap fun i =>
      [⟨g.entrySound i g.entries[i].fromNormal, .tableEntry, 2 * (i.val + 1)⟩,
        ⟨g.entrySound i g.entries[i].fromReverse, .tableEntry, 2 * (i.val + 1) + 1⟩]) ++
    [⟨g.altNamed = true → g.switchable = true ∧ g.runSound g.alternative, .tableEntry, 100⟩] ++
    ((List.finRange 32).map fun i => ⟨g.starterSound i, .tableStarter, i.val + 1⟩) ++
    [⟨defaultOr 30 120 g.gGroup, .bellTiming, 1⟩, ⟨defaultOr 80 400 g.gEnd, .bellTiming, 2⟩,
      ⟨defaultOr 4 30 g.codeLimit, .bellTiming, 3⟩, ⟨defaultOr 50 200 g.heldStrike, .bellTiming, 4⟩,
      ⟨defaultOr 4 20 g.strikeLength, .bellTiming, 5⟩, ⟨defaultOr 30 600 g.offerHold, .bellTiming, 6⟩,
      ⟨(if g.gGroup = 0 then 60 else g.gGroup) + 20 ≤ (if g.gEnd = 0 then 200 else g.gEnd), .bellGap, 0⟩] ++
    ((List.finRange 16).map fun k => ⟨g.codes[k].present = true → g.codes[k].sound, .bellCode, k.val⟩) ++
    ((List.finRange 16).map fun k =>
      ⟨g.codes[k].present = true → ∀ j : Fin 16, j < k → g.codes[j].present = true → g.codes[j].pattern ≠ g.codes[k].pattern,
        .bellDuplicate, k.val⟩) ++
    [⟨g.switchable = true → g.switchSound, .switchRecord, 0⟩]

/-- Every section check, in the order of R183. -/
def Image.checks (g : Image) : List Check := g.boxChecks ++ g.countChecks ++ g.tableChecks

/-! ### The laws between events -/

/-- The event queue (R195, R196): at most 64 records, the 64th being QUEUE_OVERFLOW, which stands only as the last; and a TAKE that is
to remove a record finds one. -/
def QueueLaw (s : State) : Prop :=
  (s.port.queue.length ≤ 63 ∨ (s.port.queue.length = 64 ∧ (s.port.queue.getLast?.map (·.kind)) = some .queueOverflow)) ∧
    (∀ r ∈ s.port.queue.dropLast, r.kind ≠ .queueOverflow) ∧
    ∀ b, s.port.transaction = .take b true → s.port.queue ≠ []

/-- Lock outputs (R9 to R13): every output is what the position, the decision kept for it, the hold, LOCK_FAULT, the role and the part
state give. -/
def LockLaw (s : State) : Prop := ∀ i : LeverNo, s.levers[i].output = lockOutput s.isRunning (s.spare i) s.levers[i]

/-- Releases (R145): a release is other than NONE only at an end that is CLEAR_OUT, and UNUSED only while the end's link is UP. -/
def ReleaseLaw (s : State) : Prop :=
  ∀ e : EndNo, (s.blocks[e].release ≠ .none → s.blocks[e].state = .clearOut) ∧
    (s.blocks[e].release = .unused → s.line.link[e] = true)

/-- Offers (R128, R129): one is held only for an end that is NORMAL and whose link is UP. -/
def OfferLaw (s : State) : Prop :=
  ∀ e : EndNo, s.bells[e].offer.isSome = true → s.blocks[e].state = .normal ∧ s.line.link[e] = true

/-- The timers of a block end (section 8.1): the acceptance timer runs only in ACCEPTING, the cancellation timer only in CANCELLING. -/
def EndTimerLaw (s : State) : Prop :=
  ∀ e : EndNo, (s.blocks[e].acceptUntil.isSome = true → s.blocks[e].state = .accepting) ∧
    (s.blocks[e].cancelUntil.isSome = true → s.blocks[e].state = .cancelling)

/-- Whether two slots hold frames that should have been coalesced (R107, R109): a STATUS, or a COUNT, of one end in both. -/
def clash (x y : Option Frame) : Bool :=
  match x, y with
  | some f, some g => f.kind.composed && decide (f.kind = g.kind) && decide (f.e = g.e)
  | _, _ => false

/-- The transmit slots (R107): no two hold a STATUS, or a COUNT, of one end. That they are 8 is their type. -/
def SlotLaw (s : State) : Prop := ∀ i j : Fin 8, i ≠ j → clash s.line.slots[i] s.line.slots[j] = false

/-- The numbers of the frames in the slots, which stand for their age (R107, R110): each is below the next number, and no two are the same. -/
def NumberLaw (s : State) : Prop :=
  ∀ i : Fin 8, ∀ f ∈ s.line.slots[i], f.seq < s.line.nextSeq ∧ ∀ j : Fin 8, ∀ g ∈ s.line.slots[j], g.seq = f.seq → j = i

/-- Whether the controller's state is one of the two in which the part is SWITCHED_OUT (R164). -/
def SwitchState.isOut : SwitchState → Bool
  | .out => true
  | .proposingIn => true
  | .inUse => false
  | .proposingOut => false

/-- The switching controller (R164): an agreement record stands in the two proposing states alone, with their direction; the part is
SWITCHED_OUT in OUT and PROPOSING_IN alone; under reset the part is STARTING; and no judgement is left waiting. -/
def ControllerLaw (s : State) : Prop :=
  (match s.switching.agreement with
    | some a => s.switching.state = a.direction.proposing
    | none => s.switching.state = .inUse ∨ s.switching.state = .out) ∧
  (s.loader.partState = .switchedOut ↔ s.switching.state.isOut = true) ∧
  (s.underReset = true → s.loader.partState = .starting) ∧
  s.quiet

/-- R169: while the part is SWITCHED_OUT its designated ends are INACTIVE. -/
def SwitchedOutLaw (s : State) : Prop :=
  s.loader.partState = .switchedOut → s.blocks[s.first].state = .inactive ∧ s.blocks[s.second].state = .inactive

/-- One channel (R41 to R48): every number is in its range; a CLEAR channel's minimum-occupied timer has expired; MARGIN_LOW is a flag of
a CLEAR channel; an interference condition goes with OCCUPIED and a count of 0. -/
def ChannelOk (x : Channel) : Prop :=
  x.f ≤ 1023 ∧ x.count ≤ 15 ∧ x.lastOn ≤ 1023 ∧ x.lastOff ≤ 1023 ∧ x.lastD ≤ 1023 ∧ x.pendingOn.getD 0 ≤ 1023 ∧
    (x.clear = true → x.minUntil = none) ∧ (x.marginLow = true → x.clear = true) ∧
    (x.interference = true → x.clear = false ∧ x.count = 0)

/-- The track circuit unit: every channel is sound, and OCCUPIED until the entry into RUNNING (R53). -/
def ChannelLaw (s : State) : Prop :=
  ∀ c : ChannelNo, ChannelOk s.track.channels[c] ∧ (s.active = false → s.track.channels[c].clear = false)

/-- Every copy a block holds of another's data agrees with its owner (R25, R28, R84, R90), and every configured detection section is as its
held values make it (R85, R87). Until the entry into RUNNING every count section is DISTURBED and every detection section OCCUPIED. -/
def CopiesLaw (s : State) : Prop :=
  (∀ i : LeverNo, s.evaluator.view.position[i] = s.levers[i].position) ∧
  (∀ d : DetNo, s.evaluator.view.detection[d] = s.combiner.sects[d].clear) ∧
  (∀ e : EndNo, s.evaluator.view.release[e] = s.blocks[e].release ∧ s.evaluator.view.block[e] = s.blocks[e].state) ∧
  (∀ c : SectNo, s.evaluator.view.count[c] = s.sectState c ∧ s.combiner.count[c] = s.sectState c) ∧
  (∀ c : ChannelNo, s.combiner.channelClear[c] = s.track.channels[c].clear ∧
    s.combiner.interference[c] = s.track.channels[c].interference) ∧
  (∀ d : DetNo, s.active = true → s.cfg.detections[d].configured = true →
    s.combiner.sects[d] = s.combiner.judged s.cfg.detections[d]) ∧
  (s.active = false →
    (∀ c : SectNo, s.sects[c].latch = .disturbed) ∧ (∀ c : ChannelNo, s.track.channels[c].clear = false) ∧
      ∀ d : DetNo, s.combiner.sects[d].clear = false)

/-- The evaluator's decision on an entry of a lever. -/
def Evaluator.decision (v : Evaluator) (i : LeverNo) (k : EntryKind) : Bool :=
  match k with
  | .fromNormal => v.decisions[i].normal
  | .fromReverse => v.decisions[i].reverse

/-- The decision the scanner keeps for an entry of a lever. -/
def Lever.kept (l : Lever) (k : EntryKind) : Bool :=
  match k with
  | .fromNormal => l.decNormal
  | .fromReverse => l.decReverse

/-- The scanner keeps, or has on its way to it, the evaluator's decision on an entry. -/
def State.decisionAgrees (s : State) (i : LeverNo) (k : EntryKind) : Prop :=
  (s.evaluator.lastHanded i k).getD (s.levers[i].kept k) = s.evaluator.decision i k

/-- Decisions (R26, R28, R31): from the entry into RUNNING every decision is the one the view gives; and the scanner keeps, or has on its
way to it, the evaluator's decision on every entry. Until then there is no decision and none is on its way. -/
def DecisionLaw (s : State) : Prop :=
  (∀ i : LeverNo, s.decisionAgrees i .fromNormal ∧ s.decisionAgrees i .fromReverse) ∧
  (s.active = true →
    (∀ i : LeverNo, s.evaluator.decisions[i] = s.evaluator.newDecision s.cfg i) ∧
      s.evaluator.altDecision = s.evaluator.judgeAlternative s.cfg) ∧
  (s.active = false → s.evaluator.handed = [])

/-! ### What an energised lock stands for -/

/-- Whether a term of the pool is true of the blocks themselves (R20 to R24); a LEVER_NORMAL_FOR term is true while its lever is NORMAL and
its elapsed mark is set. -/
def State.termTrue (s : State) (k : Nat) : Term → Prop
  | .leverNormal n => (item s.levers n).map (·.position) = some .normal
  | .leverReverse n => (item s.levers n).map (·.position) = some .reverse
  | .leverNormalFor n _ =>
    (item s.levers n).map (·.position) = some .normal ∧ (s.evaluator.timers[k]?).map (·.elapsed) = some true
  | .detectionClear d => (item s.combiner.sects d).map (·.clear) = some true
  | .detectionOccupied d => (item s.combiner.sects d).map (·.clear) = some false
  | .releaseUnused e => (item0 s.blocks e).map (·.release) = some .unused
  | .blockNormal e => (item0 s.blocks e).map (·.state) = some .normal
  | .countClear c => ∃ n, c = n.val + 1 ∧ s.sectState n = .clear
  | .other _ _ _ => False

/-- Whether every term of an alternative's run is true of the blocks themselves (R18). -/
def State.alternativeTrue (s : State) (a : Alternative) : Prop :=
  ∀ j < a.length, ∃ t, s.cfg.pool[a.first + j]? = some t ∧ s.termTrue (a.first + j) t

/-- Whether an entry is satisfied by the blocks themselves (R18, R19): it has no alternatives, or every term of one of them is true. -/
def State.entryTrue (s : State) (l : List Alternative) : Prop := l = [] ∨ ∃ a ∈ l, s.alternativeTrue a

/-- The alternatives of an entry of a lever, in the order the image gives them (R19). -/
def State.entry (s : State) (i : LeverNo) (k : EntryKind) : List Alternative :=
  match k with
  | .fromNormal => s.cfg.entries[i].fromNormal
  | .fromReverse => s.cfg.entries[i].fromReverse

/-- The first-holding alternative that the evaluator keeps for an entry (R19). -/
def Evaluator.first (v : Evaluator) (i : LeverNo) (k : EntryKind) : FirstHolding :=
  match k with
  | .fromNormal => v.decisions[i].firstNormal
  | .fromReverse => v.decisions[i].firstReverse

/-- From `before` a lever's position has been reported (R21): its LEVER_NORMAL_FOR terms have no elapsed mark, and the expiry given for their
period; the timer of every other term is as it was. -/
def timersFollow (pool : List Term) (i : LeverNo) (expiry : Nat → Option Nat) (before after : List TermTimer) : Prop :=
  ∀ (k : Nat) (term : Term) (x : TermTimer), pool[k]? = some term → before[k]? = some x →
    (∀ seconds, term = .leverNormalFor (i.val + 1) seconds → after[k]? = some { elapsed := false, expiry := expiry seconds }) ∧
    ((∀ seconds, term ≠ .leverNormalFor (i.val + 1) seconds) → after[k]? = some x)

end Sys2Proof.Machine
end

