-- ==== Sys2Proof/Certificates/Slice0/Obligations.lean ====
section
/-! DEFINITION. The statements for the provers. Each docstring names the rules of the spec that a statement formalises, or says that it
rests on a choice of the model's. -/

open Sys2Proof Sys2Proof.Machine

/-! ### Steps and time -/

/-- A step takes the command at the front of the queue, with the rest of the queue left waiting. -/
def Obligations.StepTakesFrontCommand : Prop :=
  ∀ (c : Instr) (rest : List Instr) (s : State),
    step { s with pending := c :: rest } = exec c { s with pending := rest }

/-- Every command answers a next state from every state: the part has no fault and refuses nothing (log entry 5). What a step does with no
command waiting is the model's choice (log entry 2): the next of the part's own events that has come about is taken; where there is none one
quantum of time passes, and a status reply whose first byte was due keeps the values held until then (R190, log entry 7); under reset nothing
does. -/
def Obligations.StepsNeverStop : Prop :=
  ∀ s : State,
    (∀ c : Instr, Runs c s fun _ => True) ∧
    (∀ c, s.pending = [] → s.nextDue = some c → step s = exec c s) ∧
    (s.pending = [] → s.nextDue = none → s.underReset = false → (∀ error, s.port.transaction ≠ .status error) →
      step s = .next { s with now := s.now + 1 }) ∧
    (∀ error, s.pending = [] → s.nextDue = none → s.underReset = false → s.port.transaction = .status error →
      step s = .next { s with now := s.now + 1, port := { s.port with transaction := .reply (s.statusReply error) } }) ∧
    (s.pending = [] → s.nextDue = none → s.underReset = true → step s = .next s)

/-- An event of the part's own that has not come about changes nothing (log entry 3): the row of a timer that has not run out, of a change
that has not been held for its debounce period, of a decision that is not on its way. -/
def Obligations.NothingHappensBeforeItsMoment : Prop :=
  ∀ s : State, s.quiet →
    (s.retryDue = false → exec .readRetryExpiry s = .next s) ∧
    (∀ i, s.contactDue i = false → exec (.provingContactChange i) s = .next s) ∧
    (∀ i, s.transitDue i = false → exec (.transitLimitExpiry i) s = .next s) ∧
    (∀ i, s.mismatchDue i = false → exec (.readbackMismatchExpiry i) s = .next s) ∧
    (∀ i k, s.evaluator.nextHanded i k = none → exec (.lockDecisionArrival i k) s = .next s) ∧
    (∀ k, s.normalForDue k = false → exec (.normalForExpiry k) s = .next s) ∧
    (∀ v, s.boundaryDue = none → exec (.halfPeriodBoundary v) s = .next s) ∧
    (∀ c, s.minOccupiedDue c = false → exec (.minOccupiedExpiry c) s = .next s) ∧
    (∀ h, s.sensorDue h = false → exec (.headStep h) s = .next s) ∧
    (∀ c, s.keyDue c true = false → exec (.countResetKeyPress c) s = .next s) ∧
    (∀ c, s.requestDue c = false → exec (.resetRequestWindowExpiry c) s = .next s) ∧
    (∀ c, s.heldDue c = false → exec (.heldRequestWindowExpiry c) s = .next s) ∧
    (s.flasherDue = false → exec .flasherHalfExpiry s = .next s) ∧
    (s.startable = none → exec .frameStart s = .next s) ∧
    (∀ e, expired s.now s.line.refresh[e] = false → exec (.statusRefreshExpiry e) s = .next s) ∧
    (∀ id, s.heardDue id = false → exec (.lastHeardExpiry id) s = .next s) ∧
    (expired s.now s.line.listenUntil = false → exec .listeningPeriodEnd s = .next s) ∧
    (∀ e, s.tapperDue e true = false → exec (.tapperStrike e) s = .next s) ∧
    (∀ e, s.tapperDue e false = false → exec (.tapperRelease e) s = .next s) ∧
    (∀ e, s.quietDue e = false → exec (.quietTimerExpiry e) s = .next s) ∧
    (∀ e, expired s.now s.bells[e].heldUntil = false → exec (.heldTimerExpiry e) s = .next s) ∧
    (∀ e, expired s.now s.bells[e].codeUntil = false → exec (.codeTimerExpiry e) s = .next s) ∧
    (∀ e, s.beatIsDue e = false → exec (.beatDue e) s = .next s) ∧
    (∀ e, expired s.now s.bells[e].strikeUntil = false → exec (.strikeEnd e) s = .next s) ∧
    (∀ e, expired s.now (s.bells[e].offer.map (·.until_)) = false → exec (.offerHoldExpiry e) s = .next s) ∧
    (∀ e, s.instrumentDue e s.blocks[e].switch true = false → exec (.blockSwitchToAccept e) s = .next s) ∧
    (∀ e, s.instrumentDue e s.blocks[e].switch false = false → exec (.blockSwitchToNormal e) s = .next s) ∧
    (∀ e, s.instrumentDue e s.blocks[e].tos true = false → exec (.tosPlungerPress e) s = .next s) ∧
    (∀ e, s.instrumentDue e s.blocks[e].cancel true = false → exec (.cancelPlungerPress e) s = .next s) ∧
    (∀ e, s.instrumentDue e s.blocks[e].tos false = false → exec (.plungerOrKeyRelease (.tosPlunger e)) s = .next s) ∧
    (∀ e, s.instrumentDue e s.blocks[e].cancel false = false → exec (.plungerOrKeyRelease (.cancelPlunger e)) s = .next s) ∧
    (∀ c, s.keyDue c false = false → exec (.plungerOrKeyRelease (.resetKey c)) s = .next s) ∧
    (∀ e, expired s.now s.blocks[e].acceptUntil = false → exec (.acceptanceTimerExpiry e) s = .next s) ∧
    (∀ e, expired s.now s.blocks[e].cancelUntil = false → exec (.cancellationTimerExpiry e) s = .next s) ∧
    (∀ e, expired s.now (s.blocks[e].refusal.map (·.until_)) = false → exec (.refusalMarkExpiry e) s = .next s) ∧
    (s.switchKeyDue = false → exec .switchKeyMovement s = .next s) ∧
    (expired s.now (s.switching.agreement.map (·.until_)) = false → exec .agreementLimitExpiry s = .next s) ∧
    (expired s.now (s.switching.hold.map (·.until_)) = false → exec .holdTimerExpiry s = .next s) ∧
    (s.captureDue = none → exec .snapshotCompletion s = .next s)

/-! ### Reset, the loader and raw inputs (Chapter 10) -/

/-- RESET_ASSERTED (R178): from any state every block returns to its reset values, every output is off with the FAULT pin asserted, and no read
of the memory is under way. What stands outside the part stays: the raw levels at its inputs, the sense values, the commands that wait (the
model's reading, log entries 12 and 13). That the times of a code's first and latest strike are 0 and the previous strike is absent is the
model's choice (log entry 62). -/
def Obligations.ResetHoldsEveryBlockAtResetValues : Prop :=
  ∀ s : State, Runs .resetAsserted s fun t =>
    t = { State.reset with
      underReset := true, loader := { phase := .stopped }, levers := t.levers, track := t.track, heads := t.heads
      sects := t.sects, bells := t.bells, blocks := t.blocks, switching := t.switching, freeCount := s.freeCount
      pending := s.pending } ∧
    (∀ i : LeverNo, t.levers[i] =
      { n := { raw := s.levers[i].n.raw }, r := { raw := s.levers[i].r.raw }, readback := s.levers[i].readback }) ∧
    t.track.feedTimer = none ∧ (∀ c : ChannelNo, t.track.channels[c] = { sense := s.track.channels[c].sense }) ∧
    (∀ h : HeadNo, t.heads[h] = { a := { raw := s.heads[h].a.raw }, b := { raw := s.heads[h].b.raw } }) ∧
    (∀ c : SectNo, t.sects[c] = { key := { raw := s.sects[c].key.raw } }) ∧
    (∀ e : EndNo, t.bells[e] = { tapper := { raw := s.bells[e].tapper.raw } }) ∧
    (∀ e : EndNo, t.blocks[e] =
      { switch := { raw := s.blocks[e].switch.raw }, tos := { raw := s.blocks[e].tos.raw }
        cancel := { raw := s.blocks[e].cancel.raw } }) ∧
    t.switching = { keyIn := { raw := s.switching.keyIn.raw }, keyOut := { raw := s.switching.keyOut.raw } } ∧
    t.faultPin = true ∧ t.attention = false ∧ t.switchedOutLamp = false ∧ t.memoryRead = none ∧
    (∀ e : EndNo, t.endLamps e = EndLamps.dark ∧ t.bellCoil e = false) ∧ ∀ d : DetNo, t.detectionLamp d = false

/-- END_OF_RESET, READ_ATTEMPT_FAILED and READ_RETRY_EXPIRY (R178, R180): the part is STARTING at part time 0 with fault code 0 and its first read
attempt begun; the next attempt begins 100 ms after a failure, and the third failure is CONFIG_FAULT with NO_IMAGE and subject 3. An attempt
addresses the memory at bus address 0x52 and sends the start address 0 in two bytes; at any other time the I2C pair is released. Out of
reset END_OF_RESET is no event of the part's and changes nothing (log entry 3). -/
def Obligations.StartMakesThreeReadAttempts : Prop :=
  ∀ s : State,
    (s.underReset = true → exec .endOfReset s = .next { s with underReset := false, now := 0, loader := {} }) ∧
    (s.underReset = false → exec .endOfReset s = .next s) ∧
    (s.reading = true → s.loader.phase = .header → s.loader.failedAttempts < 2 →
      exec .readAttemptFailed s = .next { s with loader := { s.loader with
        failedAttempts := s.loader.failedAttempts + 1, phase := .waiting (s.now + ms 100) } }) ∧
    (s.reading = true → s.loader.phase = .header → 2 ≤ s.loader.failedAttempts →
      exec .readAttemptFailed s = .next { s with loader := { s.loader with
        failedAttempts := s.loader.failedAttempts + 1, partState := .configFault, faultCode := .noImage
        faultSubject := 3, phase := .stopped } }) ∧
    (∀ u, s.reading = true → s.loader.phase = .waiting u → u ≤ s.now →
      exec .readRetryExpiry s = .next { s with loader := { s.loader with phase := .header } }) ∧
    (s.reading = true → s.loader.phase = .header ∨ (∃ h, s.loader.phase = .body h) →
      s.memoryRead = some (0x52#7, [0#8, 0#8])) ∧
    (s.reading = false ∨ s.loader.phase = .stopped ∨ (∃ u, s.loader.phase = .waiting u) → s.memoryRead = none)

/-- HEADER_READ_COMPLETE, and IMAGE_READ_COMPLETE with an unsound image (R180, R182, R183): the mark, the version and the length of the header are
checked in that order, then the CRC, the section count, the section lengths, the identity and the rate, and then the sections in R183's order,
each with its code and subject (the rows of `Image.checks`, from R32 to R34, R58, R82, R91, R136, R162, R177, R184 and R185); the first check that
fails is CONFIG_FAULT with its code and subject, and an image that passes them all is sound. Which of two BLOCK sections naming one end fails is
the model's choice (log entry 53), and that BLOCK_PEER_DUPLICATE compares each end with the ends before it, so that the later end of the first match
so found is the subject, is its reading of R184 (log entry 43). Sections that leave bytes over fail with IMAGE_STRUCTURE and a subject that the spec
does not state, a free value (log entry 8). -/
def Obligations.UnsoundImageIsConfigFault : Prop :=
  ∀ s : State, s.quiet → s.reading = true →
    (∀ h : Vector Byte 8, s.loader.phase = .header →
      exec (.headerReadComplete h) s = .next { s with loader :=
        if h[0] ≠ 0xE7#8 ∨ h[1] ≠ 0x16#8 then
          { s.loader with partState := .configFault, faultCode := .imageMark, faultSubject := 0, phase := .stopped }
        else if h[2] ≠ 1#8 then
          { s.loader with partState := .configFault, faultCode := .imageVersion, faultSubject := 0, phase := .stopped }
        else if h[3].toNat * 256 + h[4].toNat < 30 ∨ 4096 < h[3].toNat * 256 + h[4].toNat then
          { s.loader with partState := .configFault, faultCode := .imageLength, faultSubject := 0, phase := .stopped }
        else { s.loader with phase := .body h.toList } }) ∧
    ∀ h rest : List Byte, s.loader.phase = .body h → (h ++ rest).length = headerLength h →
      (crcAgrees (h ++ rest) = false →
        exec (.imageReadComplete rest) s = .next { s with loader := { s.loader with
          partState := .configFault, faultCode := .imageCrc, faultSubject := 0, phase := .stopped, image := h ++ rest } }) ∧
      (∀ f, validate (h ++ rest) = .failed f →
        exec (.imageReadComplete rest) s = .next { s with loader := { s.loader with
          partState := .configFault, faultCode := f.1, faultSubject := f.2, phase := .stopped, image := h ++ rest } }) ∧
      (crcAgrees (h ++ rest) = true →
        (((h ++ rest).getD 7 0).toNat ≠ 10 → validate (h ++ rest) = .failed (.imageStructure, 0)) ∧
        (((h ++ rest).getD 7 0).toNat = 10 →
          (∀ k, parseImage (h ++ rest) = .wrongLength k → validate (h ++ rest) = .failed (.imageStructure, k)) ∧
          (parseImage (h ++ rest) = .unfilled → ∃ k ≤ 10, validate (h ++ rest) = .failed (.imageStructure, k)) ∧
          ∀ g, parseImage (h ++ rest) = .parsed g →
            let identified := 1 ≤ g.identity ∧ g.identity ≤ 15
            let rated := g.rate = 1 ∨ g.rate = 2
            (¬identified → validate (h ++ rest) = .failed (.headerIdentity, 0)) ∧
            (identified → ¬rated → validate (h ++ rest) = .failed (.headerRate, 0)) ∧
            (identified → rated →
              (∀ before x after, g.checks = before ++ x :: after → (∀ y ∈ before, y.holds) → ¬x.holds →
                validate (h ++ rest) = .failed (x.code, x.subject)) ∧
              ((∀ y ∈ g.checks, y.holds) → validate (h ++ rest) = .passed { g with validated := true }))))

/-- IMAGE_READ_COMPLETE, the entry into RUNNING (R186 and the start rules R8, R28, R36, R54, R63, R87, R90, R112, R115, R163, R175): the image is
handed on, PART_STARTED is the first record, and every block starts: first positions, first decisions with those that differ handed to the scanner in
ascending order of lever (R26 leaves their order open: the model's, log entry 19), feeds and minimum-occupied timers, the heads' tracking from their
patterns, the expiry of each LEVER_NORMAL_FOR term of a lever found NORMAL at the entry's part time and its period later, the first judgement of the
detection sections and the flasher, the listening period with every end's STATUS owed, the key's position and the start watch. The controller is in
IN, as it is in every state of STARTING (R175). -/
def Obligations.SoundImageEntersRunning : Prop :=
  ∀ (s : State) (h rest : List Byte) (g : Image), s.quiet → s.switching.state = .inUse → s.reading = true →
    s.loader.phase = .body h → (h ++ rest).length = headerLength h → validate (h ++ rest) = .passed g →
    Runs (.imageReadComplete rest) s fun t =>
      t.loader = { s.loader with partState := .running, phase := .stopped, image := h ++ rest } ∧ t.cfg = g ∧
      t.now = s.now ∧ t.underReset = false ∧ t.pending = s.pending ∧
      RecordedFirst s t
        { time := s.partTime, kind := .partStarted, subject := g.identity, old := 0, new := 1
          d1 := hi g.length, d2 := lo g.length, d3 := hi g.crc, d4 := lo g.crc } ∧
      (∀ i : LeverNo, g.roles[i] ≠ .spare →
        t.levers[i].position = derive s.levers[i].n.value s.levers[i].r.value ∧ t.levers[i].output = lockOutput true false t.levers[i]) ∧
      (∀ i : LeverNo, g.roles[i] = .spare →
        t.levers[i] = { s.levers[i] with n := s.levers[i].n.disuse, r := s.levers[i].r.disuse }) ∧
      t.track.feedTimer = some { number := 1, until_ := s.now + units g.halfUnits } ∧
      (∀ c : ChannelNo, t.track.channels[c].feed = (g.channels[c].enabled && decide (g.channels[c].phase = 0))) ∧
      (∀ c : ChannelNo, t.track.channels[c].minUntil =
        if g.channels[c].enabled then (if g.channels[c].minTime = 0 then none else some (s.now + g.channels[c].minTime))
        else s.track.channels[c].minUntil) ∧
      (∀ h : HeadNo, g.fitted[h] = 1 → t.heads[h] = { s.heads[h] with
        tracking := if s.heads[h].a.value = false ∧ s.heads[h].b.value = false then .idle else .resync }) ∧
      (∀ h : HeadNo, g.fitted[h] ≠ 1 → t.heads[h] = { s.heads[h] with a := s.heads[h].a.disuse, b := s.heads[h].b.disuse }) ∧
      (∀ i : LeverNo, t.evaluator.decisions[i] = t.evaluator.newDecision g i) ∧
      (∀ i : LeverNo, g.roles[i] ≠ .spare → t.evaluator.view.position[i] = t.levers[i].position) ∧
      (∀ (k : Nat) (term : Term), g.pool[k]? = some term →
        (∀ (i : LeverNo) (seconds : Nat), term = .leverNormalFor (i.val + 1) seconds → g.roles[i] ≠ .spare →
          t.levers[i].position = .normal →
          t.evaluator.timers[k]? = some { elapsed := false, expiry := some (unitsAt s.now + 100 * seconds) }) ∧
        ((∀ (i : LeverNo) (seconds : Nat), term = .leverNormalFor (i.val + 1) seconds →
          g.roles[i] = .spare ∨ t.levers[i].position ≠ .normal) → t.evaluator.timers[k]? = some {})) ∧
      t.evaluator.altDecision = t.evaluator.judgeAlternative g ∧
      t.evaluator.handed = s.evaluator.handed ++
        (List.finRange 32).flatMap (fun i => changesOf i s.evaluator.decisions[i] t.evaluator.decisions[i]) ∧
      (∀ d : DetNo, t.combiner.sects[d] =
        if g.detections[d].configured then s.combiner.judged g.detections[d] else s.combiner.sects[d]) ∧
      t.combiner.flasher = some { lit := true, until_ := s.now + ms 500 } ∧
      t.line.listenUntil = some (s.now + secs 2) ∧ (∀ e : EndNo, t.line.owed[e] = g.ends[e].configured) ∧
      (∀ e : EndNo, t.blocks[e].state = s.blocks[e].state ∧ t.blocks[e].release = s.blocks[e].release) ∧
      t.switching.startWatch = (g.switchable || s.switching.startWatch) ∧ t.switching.state = .inUse ∧
      t.switching.proved =
        if g.switchable = false then s.switching.proved
        else if s.switching.keyIn.value = true ∧ s.switching.keyOut.value = false then some .keyIn
        else if s.switching.keyIn.value = false ∧ s.switching.keyOut.value = true then some .keyOut
        else none

/-- RAW_INPUT_CHANGE (R1, R59, R71, R118, R137, R163): the raw level of the one input changes, a change begins its count afresh, and no
debounced value and nothing else changes. -/
def Obligations.RawChangeRestartsTheCount : Prop :=
  ∀ (s : State) (x : FieldInput) (level : Bool), Runs (.rawInputChange x level) s fun t =>
    t.inputContact x =
      (if (s.inputContact x).raw = level then s.inputContact x
        else { raw := level, value := (s.inputContact x).value, since := s.now }) ∧
    (∀ y, y ≠ x → t.inputContact y = s.inputContact y) ∧ SameButContacts s t

/-! ### Levers (Chapter 1) -/

/-- Lock outputs (R9 to R13) are as LockLaw says after every step from a state where they are. -/
def Obligations.LockLawKeptByStep : Prop := ∀ s t : State, LockLaw s → step s = .next t → LockLaw t

/-- PROVING_CONTACT_CHANGE (R2 to R5, R9, R10, R14, R16, R21): the debounced values are taken; where they derive a new position, the lever takes it,
its output follows it under the decisions then held, the change is the first record, and the evaluator's view takes it; the elapsed mark of every
LEVER_NORMAL_FOR term naming the lever is cleared, and its expiry is the new time of last normal and its period later at NORMAL, none at any other
position (`timersFollow`); otherwise, and before the entry into RUNNING, nothing else changes. A starter that has lost its release, with the decision
that its from-normal entry no longer holds on its way (`State.withdrawn`), takes that decision first and leaves NORMAL with a de-energised hold value
(R15, R147; the model's reading, log entry 51). -/
def Obligations.LeverTakesDerivedPosition : Prop :=
  ∀ (s : State) (i : LeverNo), s.quiet → s.contactDue i = true →
    let n := s.levers[i].n.settle (ms 50) s.now
    let r := s.levers[i].r.settle (ms 50) s.now
    let p := derive n.value r.value
    let old := s.levers[i].position
    let kept := s.active = false ∨ p = old ∨ (old = .fault ∧ p = .transit)
    (kept → exec (.provingContactChange i) s = .next (s.modLever i fun l => { l with n := n, r := r })) ∧
    (¬kept → Runs (.provingContactChange i) s fun t =>
      s.sameFrame t ∧ t.track = s.track ∧ t.heads = s.heads ∧ (∀ j : LeverNo, j ≠ i → t.levers[j] = s.levers[j]) ∧
      t.levers[i].n = n ∧ t.levers[i].r = r ∧ t.levers[i].position = p ∧
      t.levers[i].transitFrom = (if p = .transit then some s.now else none) ∧
      (p = .transit → t.levers[i].hold = (s.levers[i].output && !s.withdrawn i)) ∧
      t.levers[i].lastNormal = (if p = .normal then some (unitsAt s.now) else s.levers[i].lastNormal) ∧
      t.levers[i].faultCause = (if p = .fault then some .bothMade else none) ∧
      t.levers[i].output = lockOutput s.isRunning (s.spare i) t.levers[i] ∧
      t.levers[i].lockFault = s.levers[i].lockFault ∧ t.levers[i].decNormal = (s.levers[i].decNormal && !s.withdrawn i) ∧
      t.levers[i].decReverse = s.levers[i].decReverse ∧ t.levers[i].readback = s.levers[i].readback ∧
      t.evaluator.view.position[i] = p ∧
      timersFollow s.cfg.pool i (fun seconds => if p = .normal then some (unitsAt s.now + 100 * seconds) else none)
        s.evaluator.timers t.evaluator.timers ∧
      RecordedFirst s t
        (if p = .fault then
          { time := s.partTime, kind := .leverFault, subject := i.val + 1, old := old.code, new := 3, d1 := 1 }
        else
          { time := s.partTime, kind := .leverMoved, subject := i.val + 1, old := old.code, new := p.code
            d1 := bit t.levers[i].output, d3 := hi (s.levers[i].transitLength s.now), d4 := lo (s.levers[i].transitLength s.now) }))

/-- What the scanner and the axle counting unit report to the block controller (R15, R61, R64, R69, R145, R148). PROVING_CONTACT_CHANGE of a
starter: "left NORMAL" makes an UNUSED or SUSPENDED release TAKEN, "returned to NORMAL" makes a TAKEN one SPENT, and each leaves every other
release, and every end's state, as it stands. A change of a BLOCK section's content from zero to nonzero is a train's entry, whether another
event changes the section's nets or HEAD_STEP at the part's own head does: CLEAR_OUT and CANCELLING become OCCUPIED_OUT, CLEAR_IN becomes
OCCUPIED_IN, and a change of content that is no entry, or at an end in another state, moves no end. -/
def Obligations.ReportsMoveTheEnd : Prop :=
  ∀ (s : State) (e : EndNo),
    let b := s.blocks[e]
    (∀ i : LeverNo, s.quiet → s.active = true → s.contactDue i = true → s.cfg.roles[i] = .starter e.val →
      let p := derive (s.levers[i].n.settle (ms 50) s.now).value (s.levers[i].r.settle (ms 50) s.now).value
      let old := s.levers[i].position
      (old = .normal → p ≠ .normal → Runs (.provingContactChange i) s fun t =>
        t.blocks[e].release = (if b.release = .unused ∨ b.release = .suspended then .taken else b.release) ∧
          t.blocks[e].state = b.state ∧ ∀ e', e' ≠ e → t.blocks[e'] = s.blocks[e']) ∧
      (old ≠ .normal → p = .normal → Runs (.provingContactChange i) s fun t =>
        t.blocks[e].release = (if b.release = .taken then .spent else b.release) ∧
          t.blocks[e].state = b.state ∧ ∀ e', e' ≠ e → t.blocks[e'] = s.blocks[e'])) ∧
    (∀ (c : SectNo) (f : Sect → Sect), s.sectEnd c = some e →
      let t := s.changeSect c f
      let entry := s.indication c = .zero ∧ (s.modSect c f).indication c = .nonzero
      (entry → b.state = .clearOut ∨ b.state = .cancelling →
        t.blocks[e].state = .occupiedOut ∧ t.blocks[e].release = .none ∧ t.blocks[e].cancelUntil = none ∧ t.statusPromised e) ∧
      (entry → b.state = .clearIn → t.blocks[e].state = .occupiedIn ∧ t.statusPromised e) ∧
      (¬entry ∨ ¬(b.state = .clearOut ∨ b.state = .cancelling ∨ b.state = .clearIn) → t.blocks = s.blocks)) ∧
    ∀ (h : HeadNo) (c : SectNo), s.quiet → s.active = true → s.sensorDue h = true → s.cfg.sects[c].boundaryAt h ≠ none →
      s.sectEnd c = some e → (∀ c', s.cfg.sects[c'].boundaryAt h ≠ none → s.sectEnd c' = some e → c' = c) →
      Runs (.headStep h) s fun t =>
        let entry := s.indication c = .zero ∧ t.indication c = .nonzero
        (entry → b.state = .clearOut ∨ b.state = .cancelling →
          t.blocks[e].state = .occupiedOut ∧ t.blocks[e].release = .none ∧ t.blocks[e].cancelUntil = none ∧ t.statusPromised e) ∧
        (entry → b.state = .clearIn → t.blocks[e].state = .occupiedIn ∧ t.statusPromised e) ∧
        (¬entry ∨ ¬(b.state = .clearOut ∨ b.state = .cancelling ∨ b.state = .clearIn) → t.blocks[e] = b)

/-- TRANSIT_LIMIT_EXPIRY (R3, R4, R9, R16, R21): the lever enters FAULT with cause TRANSIT_LIMIT, de-energised, with no elapsed mark and no expiry in
the LEVER_NORMAL_FOR terms naming it, and the fault is the first record. -/
def Obligations.TransitLimitIsFault : Prop :=
  ∀ (s : State) (i : LeverNo), s.quiet → s.transitDue i = true →
    Runs (.transitLimitExpiry i) s fun t =>
      s.sameFrame t ∧ t.track = s.track ∧ t.heads = s.heads ∧ (∀ j : LeverNo, j ≠ i → t.levers[j] = s.levers[j]) ∧
      t.levers[i].position = .fault ∧ t.levers[i].faultCause = some .transitLimit ∧ t.levers[i].transitFrom = none ∧
      t.levers[i].output = false ∧ t.levers[i].n = s.levers[i].n ∧ t.levers[i].r = s.levers[i].r ∧
      t.levers[i].lastNormal = s.levers[i].lastNormal ∧ t.levers[i].lockFault = s.levers[i].lockFault ∧
      t.evaluator.view.position[i] = .fault ∧
      timersFollow s.cfg.pool i (fun _ => none) s.evaluator.timers t.evaluator.timers ∧
      RecordedFirst s t
        { time := s.partTime, kind := .leverFault, subject := i.val + 1, old := s.levers[i].position.code, new := 3, d1 := 2 }

/-- READBACK_CHANGE and READBACK_MISMATCH_EXPIRY (R12, R13, R16, R188): a mismatch of a supervised lever is timed from its beginning, and the end of
one clears the timer; at the limit the lever takes LOCK_FAULT, de-energised in its output and its hold, its supervision stops, one LOCK_FAULT
record is appended, and the FAULT pin is asserted. -/
def Obligations.ReadbackIsSupervised : Prop :=
  ∀ (s : State) (i : LeverNo), s.quiet →
    (∀ made : Bool, exec (.readbackChange i made) s = .next (s.modLever i fun l => { l with
      readback := made
      mismatchFrom :=
        if s.active = true ∧ s.spare i = false ∧ l.lockFault = false ∧ l.output ≠ made then some (l.mismatchFrom.getD s.now)
        else none })) ∧
    (s.mismatchDue i = true → Runs (.readbackMismatchExpiry i) s fun t =>
      t = ((s.append
        { kind := .lockFault, subject := i.val + 1, old := bit s.levers[i].output, new := bit s.levers[i].readback
          d1 := s.levers[i].position.code }).modLever i fun l =>
            { l with lockFault := true, output := false, hold := false, mismatchFrom := none }) ∧
      t.faultPin = true)

/-- LOCK_DECISION_ARRIVAL (R9, R14, R26): the scanner keeps the oldest decision on its way to the entry, and sets the output again;
nothing else of the lever or the part changes, but for the mismatch timer that a changed output starts or clears (R12). -/
def Obligations.DecisionArrivesAtTheScanner : Prop :=
  ∀ (s : State) (i : LeverNo) (k : EntryKind) (h : Handed), s.quiet → s.evaluator.nextHanded i k = some h →
    Runs (.lockDecisionArrival i k) s fun t =>
      t = { s with evaluator := t.evaluator, levers := t.levers } ∧
      t.evaluator =
        { s.evaluator with handed := s.evaluator.handed.eraseP fun x => decide (x.lever = i) && decide (x.entry = k) } ∧
      (∀ j : LeverNo, j ≠ i → t.levers[j] = s.levers[j]) ∧
      t.levers[i] = { s.levers[i] with
        decNormal := if k = .fromNormal then h.holds else s.levers[i].decNormal
        decReverse := if k = .fromReverse then h.holds else s.levers[i].decReverse
        output := lockOutput s.isRunning (s.spare i) t.levers[i], mismatchFrom := t.levers[i].mismatchFrom } ∧
      t.levers[i].mismatchFrom =
        if s.active = true ∧ s.spare i = false ∧ s.levers[i].lockFault = false ∧ t.levers[i].output ≠ s.levers[i].readback then
          some (s.levers[i].mismatchFrom.getD s.now)
        else none

/-! ### The locking table (Chapter 2) -/

/-- NORMAL_FOR_EXPIRY (R17, R21, R26): the elapsed mark of the term, and of every term of the pool identical to it, is set with no expiry left, no
other term's timer changes, every decision is then the one the view gives, the decisions that changed follow those already on their way, in ascending
order of lever (R26 leaves their order open: the model's, log entry 19), and no lever changes until they arrive. Outside PROPOSING_OUT, where the
judgement may bring about the abandonment of the proposal and what follows from that, nothing but the evaluator changes. -/
def Obligations.NormalForExpirySetsTheMark : Prop :=
  ∀ (s : State) (k : Nat), s.quiet → s.normalForDue k = true →
    Runs (.normalForExpiry k) s fun t =>
      s.sameFrame t ∧ t.levers = s.levers ∧ t.track = s.track ∧ t.heads = s.heads ∧
      t.evaluator.timers[k]? = some { elapsed := true, expiry := none } ∧
      (∀ j : Nat, t.evaluator.timers[j]? = (s.evaluator.timers[j]?).map fun x : TermTimer =>
        if s.cfg.pool[j]? = s.cfg.pool[k]? then { elapsed := true, expiry := none } else x) ∧
      (∀ i : LeverNo, t.evaluator.decisions[i] = t.evaluator.newDecision s.cfg i) ∧
      t.evaluator.view.position = s.evaluator.view.position ∧
      (∃ l, t.evaluator.handed = s.evaluator.handed ++ l) ∧
      (s.switching.state ≠ .proposingOut →
        t = { s with evaluator := t.evaluator } ∧ t.evaluator.view = s.evaluator.view ∧
        t.evaluator.altDecision = t.evaluator.judgeAlternative s.cfg ∧
        t.evaluator.handed = s.evaluator.handed ++
          (List.finRange 32).flatMap fun i => changesOf i s.evaluator.decisions[i] t.evaluator.decisions[i])

/-- The copies every block holds of another's data agree with their owners after every step from a state where they do. -/
def Obligations.CopiesLawKeptByStep : Prop := ∀ s t : State, CopiesLaw s → step s = .next t → CopiesLaw t

/-- The decisions are those the view gives, and are kept by the scanner or on their way to it, after every step from a state where they are. -/
def Obligations.DecisionLawKeptByStep : Prop := ∀ s t : State, DecisionLaw s → step s = .next t → DecisionLaw t

/-- The locking table, in both directions (R9, R18 to R26, R31), over the levers, detection sections, block ends and count sections themselves. From the
entry into RUNNING the decision on an entry of a lever that is not SPARE holds just when the entry has no alternatives or every term of one of
them is true, and its first-holding alternative is the lowest of these; the switch-out alternative's holds just when the part is switchable,
one is named, and every term of its run is true. With no decision on its way, a lock is energised only in RUNNING, for a lever neither
SPARE nor in LOCK_FAULT; at NORMAL or REVERSE such a lever's is energised just when its entry for that position is satisfied. The premises
are the laws that the other statements show every step to keep. -/
def Obligations.EnergisedLockIsPermitted : Prop :=
  ∀ s : State, CopiesLaw s → DecisionLaw s →
    (s.active = true →
      (∀ (i : LeverNo) (k : EntryKind), s.cfg.roles[i] ≠ .spare →
        let l := s.entry i k
        (s.evaluator.decision i k = true ↔ s.entryTrue l) ∧
        (s.evaluator.first i k = .noAlternatives ↔ l = []) ∧
        ∀ n, s.evaluator.first i k = .alternative n ↔
          (∃ a, l[n]? = some a ∧ s.alternativeTrue a) ∧ ∀ m < n, ∀ a, l[m]? = some a → ¬s.alternativeTrue a) ∧
      (∀ (i : LeverNo) (k : EntryKind), s.cfg.roles[i] = .spare → s.evaluator.decision i k = false) ∧
      (s.evaluator.altDecision = true ↔
        s.cfg.switchable = true ∧ s.cfg.altNamed = true ∧ s.alternativeTrue s.cfg.alternative)) ∧
    (LockLaw s → s.evaluator.handed = [] → ∀ i : LeverNo,
      let permitted := s.isRunning = true ∧ s.cfg.roles[i] ≠ .spare ∧ s.levers[i].lockFault = false
      (s.levers[i].output = true → permitted) ∧
      (s.levers[i].position = .normal → (s.levers[i].output = true ↔ permitted ∧ s.entryTrue (s.entry i .fromNormal))) ∧
      (s.levers[i].position = .reverse → (s.levers[i].output = true ↔ permitted ∧ s.entryTrue (s.entry i .fromReverse))))

/-! ### Track circuits (Chapter 3) -/

/-- Every channel's numbers are in range, a CLEAR channel's minimum-occupied timer has expired, and the flags go with the states (R41 to R48),
after every step from a state where they are. -/
def Obligations.ChannelLawKeptByStep : Prop := ∀ s t : State, ChannelLaw s → step s = .next t → ChannelLaw t

/-- The arithmetic of a cycle (R41, R42): the differential is S_on less S_off, clamped at 0, and lies from 0 to 1023; the new filtered value is
(3 f + d + 2) / 4, truncated, whatever the channel's state and in a drop cycle or an interference cycle alike; it stays within 0 to 1023, where
the ceiling stands as it is; f is 0 after reset; the count and the MARGIN_LOW flag are judged with the new f; the channel keeps S_on, S_off
and d. -/
def Obligations.CycleArithmetic : Prop :=
  (∀ c : ChannelNo, State.reset.track.channels[c].f = 0) ∧
  ∀ (r : ChannelRecord) (now : Time) (son soff : Nat) (x : Channel), son ≤ 1023 → soff ≤ 1023 → x.f ≤ 1023 →
    let y := x.complete r now son soff
    y.lastOn = son ∧ y.lastOff = soff ∧ y.lastD ≤ 1023 ∧
    (soff < son → y.lastD + soff = son) ∧ (son ≤ soff → y.lastD = 0) ∧
    y.f = (3 * x.f + y.lastD + 2) / 4 ∧ y.f ≤ 1023 ∧ (x.f = 1023 → y.lastD = 1023 → y.f = 1023) ∧
    (r.tDrop ≤ y.lastD → soff ≤ r.strayLimit →
      y.count = (if r.tPick ≤ y.f then min 15 (x.count + 1) else 0) ∧ (y.marginLow = true ↔ y.clear = true ∧ y.f < r.tWarn))

/-- HALF_PERIOD_BOUNDARY, what it does at every boundary (R36 to R38, R52): the next half-period is numbered and timed from the last, the feeds
take its levels, S_on is kept at the end of an on half, an off half with no pending S_on completes nothing, and a disabled channel takes
no sample. -/
def Obligations.BoundarySamplesAndFeeds : Prop :=
  ∀ (s : State) (sense : Vector Sense 12) (ft : FeedTimer), s.quiet → s.boundaryDue = some ft →
    Runs (.halfPeriodBoundary sense) s fun t =>
      s.sameFrame t ∧ t.levers = s.levers ∧ t.heads = s.heads ∧
      t.track.feedTimer = some { number := ft.number + 1, until_ := ft.until_ + units s.cfg.halfUnits } ∧
      ∀ c : ChannelNo,
        let r := s.cfg.channels[c]
        let x := s.track.channels[c]
        let on (number : Nat) : Bool := r.enabled && decide (number % 2 = if r.phase = 0 then 1 else 0)
        t.track.channels[c].feed = on (ft.number + 1) ∧ t.track.channels[c].sense = sense[c] ∧
        (r.enabled = false → t.track.channels[c] = { x with sense := sense[c], feed := false }) ∧
        (r.enabled = true → on ft.number = true →
          t.track.channels[c] = { x with sense := sense[c], feed := on (ft.number + 1), pendingOn := some sense[c].val }) ∧
        (r.enabled = true → on ft.number = false → x.pendingOn = none →
          t.track.channels[c] = { x with sense := sense[c], feed := on (ft.number + 1) })

/-- HALF_PERIOD_BOUNDARY, the completion of a cycle (R38, R40 to R48): what becomes of every channel whose off half ends with an S_on
pending. A cycle that begins a run of interference is recorded, and so is a MARGIN_LOW flag that goes from clear to set (R48, R50, R56), each
once. -/
def Obligations.CycleCompletes : Prop :=
  ∀ (s : State) (sense : Vector Sense 12) (ft : FeedTimer) (c : ChannelNo) (son : Nat), s.quiet → s.boundaryDue = some ft →
    s.cfg.channels[c].enabled = true → ft.number % 2 ≠ (if s.cfg.channels[c].phase = 0 then 1 else 0) →
    s.track.channels[c].pendingOn = some son →
    Runs (.halfPeriodBoundary sense) s fun t =>
      let r := s.cfg.channels[c]
      let x := s.track.channels[c]
      let y := t.track.channels[c]
      let soff := sense[c].val
      let d := if soff < son then son - soff else 0
      let f := (3 * x.f + d + 2) / 4
      y.pendingOn = none ∧ y.lastOn = son ∧ y.lastOff = soff ∧ y.lastD = d ∧ y.f = f ∧
      y.interference = decide (r.strayLimit < soff) ∧
      (d < r.tDrop ∨ r.strayLimit < soff →
        y.count = 0 ∧ y.clear = false ∧ y.marginLow = false ∧
          y.minUntil = (if r.minTime = 0 then none else some (s.now + r.minTime))) ∧
      (¬(d < r.tDrop ∨ r.strayLimit < soff) →
        y.count = (if r.tPick ≤ f then min 15 (x.count + 1) else 0) ∧ y.minUntil = x.minUntil ∧
          (y.clear = true ↔ x.clear = true ∨ (r.p ≤ y.count ∧ x.minUntil = none)) ∧
          (y.marginLow = true ↔ y.clear = true ∧ f < r.tWarn)) ∧
      ∃ l, Recorded s t l ∧
        (l.filter fun e => decide (e.kind = .trackInterference) && decide (e.subject = c.val + 1)) =
          (if r.strayLimit < soff ∧ x.interference = false then
            [{ time := s.partTime, kind := .trackInterference, subject := c.val + 1, old := bit x.clear, new := 0
               d1 := hi soff, d2 := lo soff, d3 := hi son, d4 := lo son }]
          else []) ∧
        (l.filter fun e => decide (e.kind = .trackMarginLow) && decide (e.subject = c.val + 1)) =
          (if y.marginLow = true ∧ x.marginLow = false then
            [{ time := s.partTime, kind := .trackMarginLow, subject := c.val + 1, old := bit (!x.clear), new := 1
               d1 := hi f, d2 := lo f, d3 := hi r.tWarn, d4 := lo r.tWarn }]
          else [])

/-- MIN_OCCUPIED_EXPIRY (R46, R48, R51): an OCCUPIED channel whose count stands at P or above becomes CLEAR, its margin is judged at once, and
the combiner holds the new state; any other stays as it is. A flag so set is recorded once, with the old value of a channel that has just
become CLEAR (R48, R56); no other record is of the track circuits. No other channel changes. -/
def Obligations.MinOccupiedExpiryMayClear : Prop :=
  ∀ (s : State) (c : ChannelNo), s.quiet → s.minOccupiedDue c = true →
    Runs (.minOccupiedExpiry c) s fun t =>
      let r := s.cfg.channels[c]
      let x := s.track.channels[c]
      s.sameFrame t ∧ t.levers = s.levers ∧ t.heads = s.heads ∧ t.track.feedTimer = s.track.feedTimer ∧
      (∀ c' : ChannelNo, c' ≠ c → t.track.channels[c'] = s.track.channels[c']) ∧
      t.track.channels[c] = { x with
        minUntil := none, clear := x.clear || decide (r.p ≤ x.count)
        marginLow := if x.clear then x.marginLow else decide (r.p ≤ x.count) && decide (x.f < r.tWarn) } ∧
      (x.clear = false → r.p ≤ x.count → t.combiner.channelClear[c] = true) ∧
      ∃ l, Recorded s t l ∧ (l.filter fun e => decide (e.kind = .trackInterference) || decide (e.kind = .trackMarginLow)) =
        (if x.clear = false ∧ r.p ≤ x.count ∧ x.f < r.tWarn ∧ x.marginLow = false then
          [{ time := s.partTime, kind := .trackMarginLow, subject := c.val + 1, old := 1, new := 1
             d1 := hi x.f, d2 := lo x.f, d3 := hi r.tWarn, d4 := lo r.tWarn }]
        else [])

/-! ### Axle counting (Chapter 4) -/

/-- HEAD_STEP (R59 to R63): the debounced values are taken; the tracking state, the ERROR condition and the three counts follow the tables;
no other head changes. In STARTING and CONFIG_FAULT the debounced values alone are taken. -/
def Obligations.HeadStepTracksWheels : Prop :=
  ∀ (s : State) (h : HeadNo), s.quiet → s.sensorDue h = true →
    let x := s.heads[h]
    let a := x.a.settle (ms 2) s.now
    let b := x.b.settle (ms 2) s.now
    let old := patternOf x.a.value x.b.value
    let new := patternOf a.value b.value
    let illegal := a.value ≠ x.a.value ∧ b.value ≠ x.b.value
    (s.active = false → exec (.headStep h) s = .next (s.modHead h fun x => { x with a := a, b := b })) ∧
    (s.active = true → Runs (.headStep h) s fun t =>
      let y := t.heads[h]
      s.sameFrame t ∧ t.levers = s.levers ∧ t.track = s.track ∧ (∀ h' : HeadNo, h' ≠ h → t.heads[h'] = s.heads[h']) ∧
      y.a = a ∧ y.b = b ∧
      (new = .none → y.tracking = .idle ∧ y.error = false) ∧
      (illegal → new ≠ .none → y.tracking = .resync ∧ y.error = true) ∧
      (¬illegal → new ≠ .none → y.error = x.error) ∧
      (¬illegal → x.tracking = .idle → new = .a → y.tracking = .passage .a .a) ∧
      (¬illegal → x.tracking = .idle → new = .b → y.tracking = .passage .b .b) ∧
      (∀ side last, ¬illegal → x.tracking = .passage side last → new ≠ .none → y.tracking = .passage side new) ∧
      (¬illegal → x.tracking = .resync → new ≠ .none → y.tracking = .resync) ∧
      y.up = (if x.tracking.entered .a = true ∧ old = .b ∧ new = .none then (x.up + 1) % 65536 else x.up) ∧
      y.down = (if x.tracking.entered .b = true ∧ old = .a ∧ new = .none then (x.down + 1) % 65536 else x.down) ∧
      y.errors = (if illegal ∧ x.tracking ≠ .resync then min 255 (x.errors + 1) else x.errors))

/-- HEAD_STEP, the sections (R61, R62, R64, R67): a counted wheel moves the local net of every section the head bounds, up by 1 where its direction
counts into the section and down by 1 where it does not, modulo 4096, and every other local net stays; an illegal step makes every section the head
bounds DISTURBED. A wheel counted at the head of a BLOCK section queues a COUNT for the section's end unless that is INACTIVE (R70): outside
PROPOSING_OUT, where an abandonment's frames may follow, one then waits with attempt count 0, or every slot is full with no frame that gives way to a
COUNT; no other COUNT is queued. An illegal step from IDLE or PASSAGE records HEAD_ERROR, before the records of the sections (R62, R80); no other step
does. -/
def Obligations.WheelsMoveTheNets : Prop :=
  ∀ (s : State) (h : HeadNo), s.quiet → s.active = true → s.sensorDue h = true →
    let x := s.heads[h]
    let a := x.a.settle (ms 2) s.now
    let b := x.b.settle (ms 2) s.now
    let old := patternOf x.a.value x.b.value
    let new := patternOf a.value b.value
    let up := x.tracking.entered .a = true ∧ old = .b ∧ new = .none
    let down := x.tracking.entered .b = true ∧ old = .a ∧ new = .none
    let illegal := a.value ≠ x.a.value ∧ b.value ≠ x.b.value
    let errors := min 255 (x.errors + 1)
    let counts (e : EndNo) : Prop :=
      (up ∨ down) ∧ s.blocks[e].state ≠ .inactive ∧ ∃ c, s.cfg.sects[c].boundaryAt h ≠ none ∧ s.sectEnd c = some e
    Runs (.headStep h) s fun t =>
      (illegal → x.tracking ≠ .resync → RecordedFirst s t
        { time := s.partTime, kind := .headError, subject := h.val + 1, old := old.code, new := new.code
          d1 := if x.tracking.entered .a then 1 else if x.tracking.entered .b then 2 else 0
          d2 := ((List.finRange 6).filter fun c => (s.cfg.sects[c].boundaryAt h).isSome).length
          d3 := errors / 256, d4 := errors % 256 }) ∧
      (¬illegal ∨ x.tracking = .resync → ∃ l, Recorded s t l ∧ ∀ r ∈ l, r.kind ≠ .headError) ∧
      (∀ e : EndNo, counts e → s.switching.state ≠ .proposingOut →
        (∃ (i : Fin 8) (f : Frame), t.line.slots[i] = some f ∧ f.kind = .count ∧ f.e = e ∧ f.attempts = 0) ∨
          ∀ i : Fin 8, ∃ f, t.line.slots[i] = some f ∧ (f.onLine = true ∨ f.kind.cls ≤ 1)) ∧
      (∀ e : EndNo, ¬counts e → ∀ (i : Fin 8) (f : Frame), t.line.slots[i] = some f → f.kind = .count → f.e = e →
        s.line.slots[i] = some f) ∧
      ∀ c : SectNo,
        t.sects[c].localNet =
          (match s.cfg.sects[c].boundaryAt h with
            | some bd =>
              if (up ∧ bd.orientation = .upIn) ∨ (down ∧ bd.orientation = .downIn) then (s.sects[c].localNet + 1) % 4096
              else if up ∨ down then (s.sects[c].localNet + 4095) % 4096
              else s.sects[c].localNet
            | none => s.sects[c].localNet) ∧
        (a.value ≠ x.a.value → b.value ≠ x.b.value → s.cfg.sects[c].boundaryAt h ≠ none → t.sectState c = .disturbed)

/-- A section's state (R66): its latch where it has one, and otherwise UNKNOWN while its content is undefined, CLEAR at content 0, OCCUPIED from 1
to 2047. A BLOCK section is CLEAR only while it holds a remote net and the two nets sum to 0 modulo 4096. The arrival of a peer's net (R65,
R67, R68, R73) resolves a pairing check and may end the sweep of a reset, and a peer's DISTURBED disturbs. A STATUS, COUNT or TOS delivered for an
end is such an arrival at its section and at no other, before the end is handed the frame; but while a confirmation is outstanding (R65, R77) the
section disregards the net and the state, and the frame's other effects stand. -/
def Obligations.SectionStateFollowsContent : Prop :=
  (∀ (s : State) (e : EndNo) (f : RxFrame),
    let status := statusFields f.payload
    (f.kind = .count → s.deliver e f = s.takeNet e (netAt f.payload 0) false) ∧
    (f.kind = .tos → s.deliver e f = (s.takeNet e (netAt f.payload 0) false).tosTaken e) ∧
    (f.kind = .status → s.deliver e f = (s.takeNet e status.net (decide (status.sect = 2))).statusTaken e status) ∧
    ∀ (net : Nat) (disturbed : Bool),
      (s.sectOf e = none → s.takeNet e net disturbed = s) ∧
      ∀ c, s.sectOf e = some c →
        (s.sects[c].confirming ≠ none → s.takeNet e net disturbed = s) ∧
        (s.sects[c].confirming = none →
          (s.takeNet e net disturbed).sects = s.sects.set c (Sect.takeNet .block net disturbed s.sects[c]))) ∧
  ∀ x : Sect,
    (x.latch = .disturbed → ∀ t, sectState t x = .disturbed) ∧ (x.latch = .resetPrep → ∀ t, sectState t x = .resetPrep) ∧
    (x.latch = .none → sectState .localSect x = if x.localNet = 0 then .clear else if x.localNet < 2048 then .occupied else .disturbed) ∧
    (x.latch = .none → x.remote = none → sectState .block x = .unknown) ∧
    (∀ r, x.latch = .none → x.remote = some r →
      sectState .block x =
        if (x.localNet + r) % 4096 = 0 then .clear else if (x.localNet + r) % 4096 < 2048 then .occupied else .disturbed) ∧
    (sectState .block x = .clear → ∃ r, x.remote = some r ∧ (x.localNet + r) % 4096 = 0) ∧
    ∀ (net : Nat) (disturbed : Bool),
      let y := x.takeNet .block net disturbed
      let content := (x.localNet + net) % 4096
      y.localNet = x.localNet ∧ y.remote = some net ∧ y.pairingCheck = false ∧
      (x.latch = .disturbed ∨ disturbed = true → y.latch = .disturbed) ∧
      (disturbed = false → x.latch = .none →
        sectState .block y =
          if content = 0 then .clear else if x.pairingCheck = false ∧ content < 2048 then .occupied else .disturbed) ∧
      (disturbed = false → x.latch = .resetPrep →
        y.latch = if 2048 ≤ content then .disturbed else if content = 0 ∧ (x.swept = true ∨ net ≠ 0) then .none else .resetPrep)

/-- COUNT_RESET_KEY_PRESS while the part is not active or on a section that is not configured, on a CLEAR section, and on a LOCAL section in any
other state (R71, R72): the press is disregarded, the debounced value alone taking its level; REFUSED_CLEAR is recorded and nothing else changes; or
the section is zeroed into RESET_PREP with its swept mark clear. -/
def Obligations.ResetKeyOnClearOrLocalSection : Prop :=
  ∀ (s : State) (c : SectNo), s.quiet → s.keyDue c true = true →
    let taken := s.active = true ∧ s.cfg.sects[c].configured = true
    (¬taken → exec (.countResetKeyPress c) s = .next (s.modSect c fun x => { x with key := x.key.settle (ms 50) s.now })) ∧
    (taken → s.sectState c = .clear →
      exec (.countResetKeyPress c) s = .next ((s.modSect c fun x => { x with key := x.key.settle (ms 50) s.now }).append
        { kind := .countReset, subject := c.val + 1, old := 0, new := 0, d1 := 11, d2 := s.sectEndCode c
          d3 := hi s.sects[c].localNet, d4 := lo s.sects[c].localNet })) ∧
    (taken → s.sectState c ≠ .clear → s.cfg.sects[c].type = .localSect → Runs (.countResetKeyPress c) s fun t =>
      s.sameFrame t ∧ t.levers = s.levers ∧ t.track = s.track ∧ t.heads = s.heads ∧
      t.sects[c] = { s.sects[c] with
        key := s.sects[c].key.settle (ms 50) s.now, localNet := 0, latch := .resetPrep, swept := false } ∧
      t.sectState c = .resetPrep ∧ ∃ l r, Recorded s t l ∧ r ∈ l ∧ r.kind = .countReset ∧ r.subject = c.val + 1 ∧ r.d1 = 1)

/-- COUNT_RESET_KEY_PRESS on a BLOCK section that is not CLEAR (R74, R76, R80). With a request of its own pending, and none of the peer's held, the press
does nothing. Otherwise it is refused and recorded, with nothing else changed, where the link is not UP, the end's state does not allow it, or the slots
refuse its frame, in that order. With no request of the peer's held, a RESET_REQ is queued, the section holds a pending request with a window of 60 s,
its nets and latch stay, and REQUESTED is the last record. With one held, a RESET_CONFIRM is queued, the section is zeroed into RESET_PREP, the held
request ends, a confirmation is outstanding, and CONFIRMED is the last record, after that of the change of state. In PROPOSING_OUT that change may bring
about the abandonment of the proposal, which follows at the event's close (`State.settle`, the model's choice, log entry 34). -/
def Obligations.ResetKeyOnBlockSection : Prop :=
  ∀ (s : State) (c : SectNo) (e : EndNo), s.quiet → s.active = true → s.keyDue c true = true → s.cfg.sects[c].configured = true →
    s.sectEnd c = some e → s.sectState c ≠ .clear →
    let x := s.sects[c]
    let key := x.key.settle (ms 50) s.now
    let pressed : State := s.modSect c fun x => { x with key := key }
    let record (outcome new : Nat) : Event :=
      { time := s.partTime, kind := .countReset, subject := c.val + 1, old := (s.sectState c).code, new := new, d1 := outcome, d2 := e.val
        d3 := hi x.localNet, d4 := lo x.localNet }
    let refused (outcome : Nat) : Prop :=
      exec (.countResetKeyPress c) s = .next (pressed.append (record outcome (s.sectState c).code))
    let st := s.blocks[e].state
    let up := s.line.link[e] = true
    let allowed := up ∧ (st = .normal ∨ st = .occupiedIn ∨ st = .occupiedOut ∨ st = .recovering)
    let elsewhere (t : State) : Prop :=
      s.sameFrame t ∧ t.levers = s.levers ∧ t.track = s.track ∧ t.heads = s.heads ∧ t.blocks = s.blocks ∧
        ∀ c' : SectNo, c' ≠ c → t.sects[c'] = s.sects[c']
    (x.held = none → x.pending ≠ none → exec (.countResetKeyPress c) s = .next pressed) ∧
    (x.held = none → x.pending = none →
      (¬up → refused 12) ∧ (up → ¬allowed → refused 13) ∧ (allowed → s.answerTo .resetReq e = .refused → refused 14) ∧
      ∀ n, allowed → s.answerTo .resetReq e = .queued n → Runs (.countResetKeyPress c) s fun t =>
        elsewhere t ∧ t.sects[c] = { x with key := key, pending := some ⟨s.now + secs 60, n⟩ } ∧
        t.slotHolds .resetReq e (s.peerId e) [] n ∧
        ∃ l, Recorded s t l ∧ l.getLast? = some (record 2 (s.sectState c).code)) ∧
    (x.held ≠ none →
      (¬up → refused 12) ∧ (up → ¬allowed → refused 13) ∧ (allowed → s.answerTo .resetConfirm e = .refused → refused 14) ∧
      ∀ n, allowed → s.answerTo .resetConfirm e = .queued n →
        ∃ u : State, exec (.countResetKeyPress c) s = .next u.settle ∧ (s.switching.state ≠ .proposingOut → u.settle = u) ∧
          elsewhere u ∧
          u.sects[c] = { x with
            key := key, localNet := 0, remote := none, latch := .resetPrep, swept := false, held := none, pending := none
            confirming := some n } ∧
          u.slotHolds .resetConfirm e (s.peerId e) [] n ∧
          ∃ l, Recorded s u l ∧ l.getLast? = some (record 3 3) ∧
            (s.sectState c ≠ .resetPrep →
              { time := s.partTime, kind := .countStateChanged, subject := c.val + 1, old := (s.sectState c).code, new := 3, d1 := 0, d2 := 0
                d3 := 255, d4 := 255 } ∈ l))

/-- The reset procedure's windows and frames (R75, R77, R78, R80). RESET_REQUEST_WINDOW_EXPIRY and HELD_REQUEST_WINDOW_EXPIRY: a pending request ends
with outcome EXPIRED recorded, a held one with no event. A RESET_REQ delivered for an end is held for 60 s, or confirms the section's own
request; a RESET_CONFIRM zeroes a section that has one pending, and is disregarded by any other. -/
def Obligations.ResetRequestsConclude : Prop :=
  ∀ (s : State) (c : SectNo),
    let x := s.sects[c]
    (s.quiet → s.requestDue c = true →
      exec (.resetRequestWindowExpiry c) s = .next ((s.modSect c fun x => { x with pending := none }).append
        { kind := .countReset, subject := c.val + 1, old := (s.sectState c).code, new := (s.sectState c).code, d1 := 6
          d2 := s.sectEndCode c, d3 := hi x.localNet, d4 := lo x.localNet })) ∧
    (s.quiet → s.heldDue c = true →
      exec (.heldRequestWindowExpiry c) s = .next (s.modSect c fun x => { x with held := none })) ∧
    ∀ (e : EndNo) (f : RxFrame), s.sectOf e = some c →
      (f.kind = .resetReq → x.pending = none →
        s.deliver e f = s.modSect c fun x => { x with held := some (s.now + secs 60) }) ∧
      (∀ n, f.kind = .resetReq → x.pending ≠ none → s.answerTo .resetConfirm e = .queued n →
        (s.deliver e f).sects[c] =
          { x with
            localNet := 0, remote := none, latch := .resetPrep, swept := false, held := none, pending := none, confirming := some n } ∧
        (s.deliver e f).slotHolds .resetConfirm e (s.peerId e) [] n) ∧
      (f.kind = .resetReq → x.pending ≠ none → s.answerTo .resetConfirm e = .refused →
        (s.deliver e f).sects[c] = { x with pending := none }) ∧
      (f.kind = .resetConfirm → x.pending ≠ none →
        (s.deliver e f).sects[c] =
          { x with localNet := 0, remote := none, latch := .resetPrep, swept := false, pending := none }) ∧
      (f.kind = .resetConfirm → x.pending = none → s.deliver e f = s)

/-! ### Detection sections (Chapter 5) -/

/-- A detection section (R85, R87): it is CLEAR exactly when every component it names is held CLEAR; its lamp is DARK when it is CLEAR, FLASHING
when it is OCCUPIED with its count section held DISTURBED, RESET_PREP or UNKNOWN or its channel's interference condition set, and STEADY
otherwise. FLASHER_HALF_EXPIRY: the flasher goes to its other half for 500 ms, and nothing else changes. -/
def Obligations.DetectionFollowsItsComponents : Prop :=
  (∀ (b : Combiner) (r : DetRecord),
    let x := b.judged r
    let cause := b.heldInterference r = some true ∨
      ∃ z, b.heldCount r = some z ∧ (z = .disturbed ∨ z = .resetPrep ∨ z = .unknown)
    (x.clear = true ↔ b.heldChannel r ≠ some false ∧ ∀ z, b.heldCount r = some z → z = .clear) ∧
    (x.clear = true → x.lamp = .dark) ∧ (x.clear = false → cause → x.lamp = .flashing) ∧
    (x.clear = false → ¬cause → x.lamp = .steady)) ∧
  ∀ (s : State) (f : Flasher), s.quiet → s.active = true → s.combiner.flasher = some f → f.until_ ≤ s.now →
    exec .flasherHalfExpiry s = .next { s with combiner := { s.combiner with
      flasher := some { lit := !f.lit, until_ := f.until_ + ms 500 } } }

/-! ### The block line (Chapter 6) -/

/-- The frame codec (R94, and R93, R95 to R97): every field of a frame to be sent stands at its place in the three header characters with its most
significant bit lowest, and the places between are zero; the payload follows, and then the check of R96 over all of these, its high eight bits first:
a 16-bit register that starts at all ones takes each character most significant bit first by x^16 + x^12 + x^5 + 1, and is not inverted. The
characters it is sent as are judged, at the station that decodes them, to be that frame, sound, with every field as it was; with any other
check in its place they are a frame of bad CRC. On the line each character is ten levels of one bit time (R92): a driven start bit, the eight data bits
least significant first with 0 driven and 1 idle, an idle stop bit, and the next start bit at once; samples of these levels are read as the
characters sent. A driven stop bit (a framing error), an idle start bit of a character due, and a payload length of 7 break the frame off
(R93), and in the acknowledge slot a character is read only with both sound. -/
def Obligations.SentFrameIsDecoded : Prop :=
  ∀ f : RxFrame, f.cls = f.kind.cls → 1 ≤ f.sender → f.sender ≤ 15 → f.dest ≤ 15 → f.senderEnd ≤ 3 →
    f.payload.length = f.kind.length →
    let shift (r : BitVec 16) (bit : Bool) : BitVec 16 := if r.msb = bit then r <<< 1 else (r <<< 1) ^^^ 0x1021#16
    let character (r : BitVec 16) (c : Byte) : BitVec 16 := (List.range 8).foldl (fun r k => shift r (c.getLsbD (7 - k))) r
    judgeChars f.chars = .sound f ∧
    ∃ (h0 h1 h2 high low : Byte),
      let checked := [h0, h1, h2] ++ f.payload
      f.chars = checked ++ [high, low] ∧ high ++ low = checked.foldl character 0xFFFF#16 ∧
      (∀ x y : Byte, x ++ y ≠ high ++ low → judgeChars (checked ++ [x, y]) = .badCrc) ∧
      (∀ k < 2, h0.getLsbD k = f.cls.testBit (1 - k)) ∧ (∀ k < 4, h0.getLsbD (2 + k) = f.sender.testBit (3 - k)) ∧
      (∀ k < 2, h0.getLsbD (6 + k) = false) ∧
      (∀ k < 4, h1.getLsbD k = f.kind.code.testBit (3 - k)) ∧ (∀ k < 4, h1.getLsbD (4 + k) = f.dest.testBit (3 - k)) ∧
      (∀ k < 2, h2.getLsbD k = f.senderEnd.testBit (1 - k)) ∧ (∀ k < 3, h2.getLsbD (2 + k) = f.payload.length.testBit (2 - k)) ∧
      (∀ k < 3, h2.getLsbD (5 + k) = false) ∧
      let levels := charsLevels f.chars
      levels.length = 10 * f.chars.length ∧
      (∀ (k : Nat) (c : Byte), f.chars[k]? = some c →
        levels[10 * k]? = some .driven ∧ (∀ j < 8, levels[10 * k + 1 + j]? = some (if c.getLsbD j then .idle else .driven)) ∧
        levels[10 * k + 9]? = some .idle ∧ readFrameChars (levels.set (10 * k) .idle) = none ∧
        readFrameChars (levels.set (10 * k + 9) .driven) = none ∧
        readAcknowledge (charLevels c) = some c ∧ readAcknowledge ((charLevels c).set 0 .idle) = none ∧
        readAcknowledge ((charLevels c).set 9 .driven) = none) ∧
      (∀ more : List LineLevel, readFrameChars (levels ++ more) = some f.chars) ∧
      ∀ (x : Byte) (more : List LineLevel), (∀ k < 3, x.getLsbD (2 + k) = true) → readFrameChars (charsLevels [h0, h1, x] ++ more) = none

/-- The choice of a frame to start (R108) is a frame not on the line of lowest class, and of those the oldest; the choice of a frame to evict for a
request (R110) is a frame not on the line and of a higher class than the request's, of the highest class, and of those the oldest; and none is chosen
only where there is no such frame. A queue request (R107, R109, R110): it is COALESCED exactly where it is for a STATUS or COUNT and its end already
has one in a slot; QUEUED puts the frame in a slot, and is the answer while a slot is empty; REFUSED changes nothing, and is the answer only with all
slots full and none to evict. A request queued into an empty slot changes nothing else; one queued with all slots full evicts that frame (R110, R112,
R116): FRAME_UNDELIVERED with cause EVICTED is the first record, before its owner's (the model's reading, log entry 23), the frame is in no slot, an
evicted STATUS is owed, a CODE marks its record not sent, a RESET_REQ ends the request it carries, and a RESET_CONFIRM ends its confirmation with the
section DISTURBED. -/
def Obligations.SlotsChooseAndAnswer : Prop :=
  (∀ l : Line,
    (∀ i, l.chosen = some i → ∃ f, l.slots[i] = some f ∧ f.onLine = false ∧
      ∀ (j : Fin 8) (g : Frame), l.slots[j] = some g → g.onLine = false →
        f.kind.cls < g.kind.cls ∨ (f.kind.cls = g.kind.cls ∧ f.seq ≤ g.seq)) ∧
    (l.chosen = none → ∀ (j : Fin 8) (g : Frame), l.slots[j] = some g → g.onLine = true) ∧
    (∀ cls i, l.victim cls = some i → ∃ f, l.slots[i] = some f ∧ f.onLine = false ∧ cls < f.kind.cls ∧
      ∀ (j : Fin 8) (g : Frame), l.slots[j] = some g → g.onLine = false → cls < g.kind.cls →
        g.kind.cls < f.kind.cls ∨ (g.kind.cls = f.kind.cls ∧ f.seq ≤ g.seq)) ∧
    (∀ cls, l.victim cls = none → ∀ (j : Fin 8) (g : Frame), l.slots[j] = some g → g.onLine = true ∨ g.kind.cls ≤ cls)) ∧
  ∀ (s : State) (k : FrameKind) (e : EndNo) (dest : Nat) (payload : List Byte),
    let t := s.request k e dest payload
    (s.answerTo k e = .coalesced ↔
      k.composed = true ∧ ∃ i : Fin 8, ∃ f, s.line.slots[i] = some f ∧ f.kind = k ∧ f.e = e) ∧
    (s.answerTo k e = .coalesced → ∃ i : Fin 8, ∃ f, s.line.slots[i] = some f ∧ f.kind = k ∧ f.e = e ∧
      t = { s with line := { s.line with
        slots := s.line.slots.set i
          (some (if f.onLine then { f with attempts := 0, renewed := true } else { f with attempts := 0 })) } }) ∧
    (∀ n, s.answerTo k e = .queued n → n = s.line.nextSeq ∧ t.slotHolds k e dest payload n) ∧
    (∀ n, s.answerTo k e = .queued n → (∃ i : Fin 8, s.line.slots[i] = none) → ∃ i : Fin 8, s.line.slots[i] = none ∧
      t = { s with line := { s.line with
        slots := s.line.slots.set i (some { kind := k, e := e, dest := dest, payload := payload, seq := n }), nextSeq := n + 1 } }) ∧
    ((∃ (i : Fin 8) (f : Frame), s.line.slots[i] = some f ∧ f.onLine = false ∧ k.cls < f.kind.cls) → s.answerTo k e ≠ .refused) ∧
    (∀ n v f, s.answerTo k e = .queued n → (∀ i : Fin 8, s.line.slots[i] ≠ none) → s.line.victim k.cls = some v →
      s.line.slots[v] = some f →
      RecordedFirst s t
        { time := s.partTime, kind := .frameUndelivered, subject := f.e.val, old := f.kind.code, new := 2
          d1 := if f.kind.composed = true ∧ f.onLine = false then s.peerId f.e else f.dest
          d2 := f.kind.cls, d3 := f.attempts
          d4 := match f.failure with
            | .none => 0
            | .noAcknowledge => 1
            | .lineError => 2 } ∧
      (NumberLaw s → ∀ (j : Fin 8) (g : Frame), t.line.slots[j] = some g → g.seq ≠ f.seq) ∧
      (f.kind = .status → t.line.owed[f.e] = true) ∧
      (f.kind = .bellCode → ∀ r, s.bells[f.e].lastOut = some r → r.seq = some f.seq →
        t.bells[f.e].lastOut = some { r with notSent := true }) ∧
      (f.kind = .resetReq → ∀ c, s.sectOf f.e = some c → s.sects[c].pending.map (·.seq) = some f.seq →
        t.sects[c].pending = none) ∧
      (f.kind = .resetConfirm → ∀ c, s.sectOf f.e = some c → s.sects[c].confirming = some f.seq →
        t.sects[c].confirming = none ∧ t.sects[c].latch = .disturbed)) ∧
    ((∃ i : Fin 8, s.line.slots[i] = none) → s.answerTo k e ≠ .refused) ∧
    (s.answerTo k e = .refused → t = s ∧ ∀ i : Fin 8, ∃ f, s.line.slots[i] = some f ∧ (f.onLine = true ∨ f.kind.cls ≤ k.cls))

/-- FRAME_START (R92, R94, R97 to R99, R108, R111): the frame chosen goes on the line, a STATUS or COUNT composed from the values now held and
addressed to the end's current peer; nothing outside the line controller changes. From this moment, while it goes on sending, the part puts the levels
of the frame's characters on the line, one a bit time of 1/9600 or 1/4800 s, and after them leaves it idle. A STATUS restarts its end's refresh timer
for 2 s at once, before contention is decided, which R111 asks of one that is not lost in it (the model's reading, log entry 42). -/
def Obligations.FrameStarts : Prop :=
  ∀ (s : State) (i : Fin 8) (f : Frame), s.quiet → s.startable = some i → s.line.slots[i] = some f →
    Runs .frameStart s fun t =>
      let payload : List Byte :=
        if f.kind = .status then
          [byte s.blocks[f.e].state.code, byte (s.blocks[f.e].release.code + if s.blocks[f.e].long then 16 else 0),
            byte ((s.blocks[f.e].refusal.map (·.reason.code)).getD 0), byte (s.endSectState f.e).code,
            byte (hi (s.endNet f.e)), byte (lo (s.endNet f.e))]
        else if f.kind = .count then [byte (hi (s.endNet f.e)), byte (lo (s.endNet f.e))]
        else f.payload
      let dest := if f.kind = .status ∨ f.kind = .count then s.peerId f.e else f.dest
      let chars := RxFrame.chars
        { cls := f.kind.cls, sender := s.cfg.identity, kind := f.kind, dest := dest, senderEnd := f.e.val, payload := payload }
      t = { s with line := t.line } ∧
      t.line.slots = s.line.slots.set i (some { f with onLine := true, dest := dest, payload := payload }) ∧
      t.line.decoder = .receiving ∧ t.line.frameFrom = s.now ∧
      t.line.sending = some { slot := i, since := s.now, refreshBefore := s.line.refresh[f.e], chars := chars } ∧
      (s.cfg.rate = 1 → 4800 * s.bitTime = secs 1) ∧ (s.cfg.rate = 2 → 9600 * s.bitTime = secs 1) ∧
      (∀ d : Time, { t with now := s.now + d }.lineLevel = (charsLevels chars).getD (d / s.bitTime) .idle) ∧
      t.line.refresh = (if f.kind = .status then s.line.refresh.set f.e (some (s.now + secs 2)) else s.line.refresh) ∧
      t.line.link = s.line.link ∧ t.line.heard = s.line.heard ∧ t.line.owed = s.line.owed

/-- CONTENTION_LOST (R100, R109, R111): the sender stops, its frame keeps its slot, age and attempt count, though a renewed one goes to count 0; the
decoder goes on with the frame; the loss is counted; and a STATUS that lost leaves its refresh timer as it stood before the start (the model's
reading, log entry 42). -/
def Obligations.LostContentionKeepsTheFrame : Prop :=
  ∀ (s : State) (x : Sending) (f : Frame), s.quiet → s.active = true → s.line.decoder = .receiving ∨ x.brokenOff = true →
    s.line.sending = some x → s.line.slots[x.slot] = some f →
    exec .contentionLost s = .next { s with line := { s.line with
      sending := none, contentionLosses := (s.line.contentionLosses + 1) % 65536
      refresh := if f.kind = .status then s.line.refresh.set f.e x.refreshBefore else s.line.refresh
      slots := s.line.slots.set x.slot
        (some { f with onLine := false, renewed := false, attempts := if f.renewed then 0 else f.attempts }) } }

/-- LINE_ERROR and ATTEMPT_END, a failed attempt (R101, R103, R109, R116): the frame's attempt count goes up by 1 and, below 4, it stays in its slot
with its age; a renewed frame stays with count 0, and keeps the cause (the model's reading, log entry 25); at 4 it is dropped, so that no slot holds
it, and FRAME_UNDELIVERED is the first record, before its owner's (log entry 24); a STATUS whose link is LOST is dropped with no such record. With no
agreement standing nothing is recorded then. The owner of a frame dropped acts as its own rules say: an ACCEPT whose acceptance stands returns its end
to NORMAL, and the end's outstanding frame is cleared (R141); a CODE marks its record not sent (R126); a RESET_REQ ends the request it carries, and a
RESET_CONFIRM its confirmation with the section DISTURBED, each recorded (R77, R78); a COMMIT of a standing proposal abandons it (R169, R170). A
station whose own decoder has broken the frame off (R93) reads no acknowledge for it (log entry 32), and after LINE_ERROR its decoder keeps the frame
in progress (log entry 33): each the model's reading. -/
def Obligations.FailedAttempts : Prop :=
  ∀ (s : State) (x : Sending) (f : Frame) (slot : Option Byte), s.quiet → s.active = true → s.line.sending = some x →
    s.line.slots[x.slot] = some f →
    let kept (cause : AttemptFailure) : Frame :=
      { f with onLine := false, renewed := false, attempts := if f.renewed then 0 else f.attempts + 1, failure := cause }
    let record (cause : Nat) : Event :=
      { time := s.partTime, kind := .frameUndelivered, subject := f.e.val, old := f.kind.code, new := 1
        d1 := if f.kind.composed = true ∧ f.onLine = false then s.peerId f.e else f.dest
        d2 := f.kind.cls, d3 := f.attempts + 1, d4 := cause }
    let dropped (t : State) (cause : Nat) : Prop :=
      t.line.sending = none ∧
      (NumberLaw s → ∀ (j : Fin 8) (g : Frame), t.line.slots[j] = some g → g.seq ≠ f.seq) ∧
      (f.kind ≠ .status ∨ s.line.link[f.e] = true → RecordedFirst s t (record cause)) ∧
      (f.kind = .status → s.line.link[f.e] = false →
        ∃ l, Recorded s t l ∧ (∀ r ∈ l, r.kind = .frameUndelivered → r.new = 2) ∧ (s.switching.agreement = none → l = [])) ∧
      (f.kind = .accept ∨ f.kind = .withdraw ∨ f.kind = .cancel ∨ f.kind = .tos →
        s.blocks[f.e].outstanding.map (·.seq) = some f.seq → t.blocks[f.e].outstanding = none) ∧
      (f.kind = .accept → s.blocks[f.e].state = .accepting → s.blocks[f.e].acceptSeq = some f.seq →
        t.blocks[f.e].state = .normal ∧ t.blocks[f.e].release = .none ∧ t.blocks[f.e].acceptUntil = none ∧ t.statusPromised f.e) ∧
      (f.kind = .bellCode → ∀ r, s.bells[f.e].lastOut = some r → r.seq = some f.seq →
        t.bells[f.e].lastOut = some { r with notSent := true }) ∧
      (∀ c, s.sectOf f.e = some c →
        let ends (outcome new : Nat) : Prop := ∃ l, Recorded s t l ∧
          { time := s.partTime, kind := .countReset, subject := c.val + 1, old := (s.sectState c).code, new := new, d1 := outcome
            d2 := f.e.val, d3 := hi s.sects[c].localNet, d4 := lo s.sects[c].localNet } ∈ l
        (f.kind = .resetReq → s.sects[c].pending.map (·.seq) = some f.seq →
          t.sects[c].pending = none ∧ ends 9 (s.sectState c).code) ∧
        (f.kind = .resetConfirm → s.sects[c].confirming = some f.seq →
          t.sects[c].confirming = none ∧ t.sects[c].latch = .disturbed ∧ ends 10 2)) ∧
      (∀ a, f.kind = .switchCommit → s.switching.agreement = some a → a.commit1 = .queued f.seq ∨ a.commit2 = .queued f.seq →
        t.switching.agreement = none ∧ t.switching.state = a.direction.from_ ∧
        ∃ l r, Recorded s t l ∧ r ∈ l ∧ r.kind = .switching ∧ r.subject = f.e.val ∧ r.old = a.direction.code ∧ r.new = 3 ∧ r.d2 = 4)
    let sendsOn := s.line.decoder = .receiving ∨ x.brokenOff = true
    let unread := x.brokenOff = true ∨ slot ≠ some 0x96#8
    let ended : Line :=
      if x.brokenOff then { s.line with sending := none }
      else { s.line with sending := none, decoder := .noFrame, acknowledging := false, idleFrom := s.now }
    (sendsOn → f.renewed = true ∨ f.attempts < 3 →
      exec .lineError s = .next { s with line := { s.line with
        sending := none, lineErrors := (s.line.lineErrors + 1) % 65536, slots := s.line.slots.set x.slot (some (kept .lineError)) } }) ∧
    (sendsOn → f.renewed = false → 3 ≤ f.attempts → Runs .lineError s fun t => dropped t 2) ∧
    (unread → f.dest ≠ 0 → f.renewed = true ∨ f.attempts < 3 →
      exec (.attemptEnd slot) s = .next { s with line := { ended with
        slots := s.line.slots.set x.slot (some (kept .noAcknowledge)) } }) ∧
    (unread → f.dest ≠ 0 → f.renewed = false → 3 ≤ f.attempts → Runs (.attemptEnd slot) s fun t => dropped t 1)

/-- ATTEMPT_END, a delivered attempt (R77, R102, R103, R109, R112, R141): with 0x96 read in the acknowledge slot, or for a frame to all stations, the
frame leaves its slot, unless it was renewed, and the frame in progress has ended, from when idle bit times are counted, but for one its own decoder
had broken off before (R93; the model's readings, log entry 32). With no agreement standing: where no STATUS is owed no slot is filled again in the
event; where one is, as the slot empties the owed STATUS of the lowest-numbered end is queued, or coalesced with one that waits, and its mark is
cleared, and the other marks stay. With one standing the drain is judged last (`State.slotEmptied`). Its owner acts, the frame renewed or not: the
end's outstanding frame is cleared, an ACCEPT whose acceptance stands is marked delivered, and the confirmation that a RESET_CONFIRM carries ends, its
section otherwise as it was; a COMMIT's effect is in AgreementsConclude. -/
def Obligations.DeliveredFrameLeavesItsSlot : Prop :=
  ∀ (s : State) (x : Sending) (f : Frame) (slot : Option Byte), s.quiet → s.active = true → s.line.sending = some x →
    s.line.slots[x.slot] = some f → (slot = some 0x96#8 ∧ x.brokenOff = false) ∨ f.dest = 0 →
    (f.renewed = false → exec (.attemptEnd slot) s = .next
      ((({ s with line := { (if x.brokenOff then s.line else { s.line with
          decoder := .noFrame, acknowledging := false, idleFrom := s.now }) with
        sending := none, slots := s.line.slots.set x.slot none } }).reportDelivered f).slotEmptied).settle) ∧
    (∀ e : EndNo, s.switching.agreement = none → f.renewed = false → s.line.owed[e] = true →
      (∀ e' : EndNo, e' < e → s.line.owed[e'] = false) → Runs (.attemptEnd slot) s fun t =>
        (∃ (i : Fin 8) (g : Frame), t.line.slots[i] = some g ∧ g.kind = .status ∧ g.e = e ∧ g.attempts = 0) ∧
        ((∀ (i : Fin 8) (g : Frame), i ≠ x.slot → s.line.slots[i] = some g → g.kind = .status → g.e ≠ e) →
          t.slotHolds .status e (s.peerId e) [] s.line.nextSeq) ∧
        t.line.owed = s.line.owed.set e false) ∧
    ((∀ e : EndNo, s.line.owed[e] = false) → s.switching.agreement = none →
    Runs (.attemptEnd slot) s fun t =>
      s.sameFrame t ∧ t.line.sending = none ∧
      t.line.decoder = (if x.brokenOff then s.line.decoder else .noFrame) ∧
      t.line.idleFrom = (if x.brokenOff then s.line.idleFrom else s.now) ∧
      (f.renewed = false → t.line.slots = s.line.slots.set x.slot none) ∧
      (f.renewed = true →
        t.line.slots = s.line.slots.set x.slot (some { f with onLine := false, renewed := false, attempts := 0 }))) ∧
    Runs (.attemptEnd slot) s fun t =>
      (∀ c, f.kind = .resetConfirm → s.sectOf f.e = some c → s.sects[c].confirming = some f.seq →
        t.sects[c].confirming = none ∧ t.sects[c].latch = s.sects[c].latch ∧ t.sects[c].localNet = s.sects[c].localNet ∧
          t.sects[c].remote = s.sects[c].remote) ∧
      (f.kind = .accept ∨ f.kind = .withdraw ∨ f.kind = .cancel ∨ f.kind = .tos →
        s.blocks[f.e].outstanding.map (·.seq) = some f.seq → t.blocks[f.e].outstanding = none) ∧
      (f.kind = .accept → s.blocks[f.e].state = .accepting → s.blocks[f.e].acceptSeq = some f.seq →
        t.blocks[f.e].acceptDelivered = true)

/-- START_BIT_SEEN, FRAME_BROKEN_OFF and ACKNOWLEDGE_DECISION (R92, R93, R95, R96, R102): H0 begins only on a quiet line, and any other start bit begins
the count of idle bit times again; a frame in progress is broken off at any station, at the sending one too, whose sending goes on; a frame of bad CRC
or malformed is counted and not acknowledged; a sound frame is acknowledged where it is addressed to this station by another: a station that is not
sending drives the line in the bit times of the acknowledge slot alone, which follow the characters of the frame it acknowledges, with the ten levels of
0x96. The moments from which
idle bit times are counted are the model's reading (log entry 32). -/
def Obligations.DecoderFollowsTheLine : Prop :=
  ∀ (s : State) (chars : List Byte), s.quiet → s.active = true →
    (s.lineQuiet = true → exec .startBitSeen s = .next { s with line := { s.line with decoder := .receiving, frameFrom := s.now } }) ∧
    (s.line.decoder = .noFrame → s.lineQuiet = false →
      exec .startBitSeen s = .next { s with line := { s.line with idleFrom := s.now + s.bitTime } }) ∧
    (s.line.decoder = .receiving →
      (s.line.sending = none → exec .frameBrokenOff s = .next { s with line := { s.line with
        decoder := .noFrame, acknowledging := false, idleFrom := s.now } }) ∧
      ∀ x, s.line.sending = some x → exec .frameBrokenOff s = .next { s with line := { s.line with
        decoder := .noFrame, acknowledging := false, idleFrom := s.now, sending := some { x with brokenOff := true } } }) ∧
    (s.line.decoder = .receiving → s.line.sending = none →
      (judgeChars chars = .badCrc → exec (.acknowledgeDecision chars) s = .next { s with line := { s.line with
        decoder := .discarded, crcFailures := (s.line.crcFailures + 1) % 65536 } }) ∧
      (judgeChars chars = .malformed → exec (.acknowledgeDecision chars) s = .next { s with line := { s.line with
        decoder := .discarded, malformed := (s.line.malformed + 1) % 65536 } }) ∧
      ∀ f, judgeChars chars = .sound f → exec (.acknowledgeDecision chars) s = .next { s with line := { s.line with
        decoder := .sound f, acknowledging := decide (f.sender ≠ s.cfg.identity ∧ f.dest = s.cfg.identity) } }) ∧
    (s.line.sending = none →
      ((∀ f, s.line.decoder ≠ .sound f) ∨ s.line.acknowledging = false → s.lineLevel = .idle) ∧
      ∀ f, s.line.decoder = .sound f → s.line.acknowledging = true →
        let slot := 10 * (5 + f.payload.length)
        let k := (s.now - s.line.frameFrom) / s.bitTime
        (k = slot → s.lineLevel = .driven) ∧
        (∀ j < 8, k = slot + 1 + j → s.lineLevel = if (0x96#8).getLsbD j then .idle else .driven) ∧
        (k < slot ∨ slot + 9 ≤ k → s.lineLevel = .idle))

/-- FRAME_TAKING (R96, R104, R106, R113): a sound frame of another station is counted, and then in this order its sender's supervision restarts
(`State.hear`), it is delivered where it is addressed here and maps to an end (`State.deliverMapped`), and it is handed over as overheard with
whether it was delivered (`State.overhear`), whatever these bring about; one of the station's own identity is recorded as
DUPLICATE_IDENTITY and nothing more; a discarded frame only ends. Idle bit times are counted from the frame's end (log entry 32), the end of a
discarded frame is an event (log entry 33), and an abandonment that the taking calls for is carried out at its close (`State.settle`, log
entry 34): the model's readings and choice. -/
def Obligations.FrameIsTaken : Prop :=
  ∀ s : State, s.quiet → s.active = true → s.line.sending = none →
    let ended : Line := { s.line with decoder := .noFrame, acknowledging := false, idleFrom := s.now }
    (s.line.decoder = .discarded → exec .frameTaking s = .next { s with line := ended }) ∧
    ∀ f, s.line.decoder = .sound f →
      (f.sender = s.cfg.identity → exec .frameTaking s = .next ({ s with line := ended }.append
        { kind := .duplicateIdentity, subject := s.cfg.identity, old := f.kind.code, new := f.dest, d1 := f.senderEnd, d2 := f.cls })) ∧
      (f.sender ≠ s.cfg.identity →
        let counted : State := { s with line := { ended with framesTaken := (s.line.framesTaken + 1) % 65536 } }
        let delivered := (counted.hear f).deliverMapped f
        exec .frameTaking s = .next (delivered.1.overhear f delivered.2).settle) ∧
      (f.sender ≠ s.cfg.identity → Runs .frameTaking s fun t =>
        t.now = s.now ∧ t.cfg = s.cfg ∧ t.pending = s.pending ∧ t.track = s.track ∧ t.heads = s.heads ∧
        t.line.decoder = .noFrame ∧ t.line.sending = none ∧ t.line.idleFrom = s.now ∧
        t.line.framesTaken = (s.line.framesTaken + 1) % 65536 ∧
        t.line.heard = s.line.heard.set (identityIndex f.sender) { last := some s.now, running := true } ∧
        ∃ l, Recorded s t l)

/-- The supervision of a taken frame's sender, and the mapping of the frame (R104 step 1, R105, R113): after the first step every configured end whose
current peer is the sender is UP, and a frame addressed to this station or to all whose sender identity and sender end are a configured end's current
peer is delivered for that end; no other frame is delivered. A STATUS as it is overheard (R104 step 3): one in DIRECT pairing and not SWITCHING, from
a LONG end's alternate peer to its direct peer with no hold standing, reverts that end to DIRECT (R171); in OUT one delivered from a designated end's
direct peer that is DIRECT and not SWITCHING resumes the part's working (R172), and any other from one neighbour's facing end to the other neighbour
sets its overheard entry, as it does in PROPOSING_IN (the model's reading, log entry 37), with the part time of the STATUS; a
section re-paired by any of these is left as R68 and R78 say (`State.rePaired`; that a confirmation outstanding ends whatever the latch is the model's
choice, log entry 59); in IN with the start watch set such a STATUS in LONG pairing puts the part into OUT (R175); where none of these applies it
changes nothing. -/
def Obligations.TakenFrameBringsTheLinkUp : Prop :=
  ∀ (s : State) (f : RxFrame),
    (∀ e : EndNo, s.cfg.ends[e].configured = true → s.peerId e = f.sender → (s.hear f).line.link[e] = true) ∧
    (∀ e : EndNo, s.peerId e ≠ f.sender → (s.hear f).line.link[e] = s.line.link[e]) ∧
    ((s.deliverMapped f).2 = true →
      (f.dest = s.cfg.identity ∨ f.dest = 0) ∧
      ∃ e : EndNo, s.cfg.ends[e].configured = true ∧ s.peerId e = f.sender ∧ s.peerEnd e = f.senderEnd ∧
        (s.deliverMapped f).1 = s.deliver e f) ∧
    ((s.deliverMapped f).2 = false → (s.deliverMapped f).1 = s) ∧
    (∀ e : EndNo, f.dest = s.cfg.identity ∨ f.dest = 0 → s.cfg.ends[e].configured = true → s.peerId e = f.sender →
      s.peerEnd e = f.senderEnd →
      (∀ e' : EndNo, s.cfg.ends[e'].configured = true → s.peerId e' = f.sender → s.peerEnd e' = f.senderEnd → e' = e) →
      s.deliverMapped f = (s.deliver e f, true)) ∧
    (f.kind = .status → ∀ delivered : Bool,
      let x := statusFields f.payload
      let w := s.switching
      let t := s.overhear f delivered
      let direct := x.long = false ∧ x.state ≠ 8
      let far (e : EndNo) : Prop :=
        s.cfg.ends[e].configured = true ∧ s.blocks[e].long = true ∧ s.cfg.ends[e].altId = f.sender ∧
          s.cfg.ends[e].altEnd = f.senderEnd ∧ s.cfg.ends[e].directId = f.dest
      let reverts := direct ∧ w.hold = none ∧ ∃ e, far e
      let facing (e : EndNo) : Prop :=
        s.cfg.ends[e].configured = true ∧ s.cfg.ends[e].directId = f.sender ∧ s.cfg.ends[e].directEnd = f.senderEnd
      let across (a b : EndNo) : Prop := s.cfg.switchable = true ∧ facing a ∧ f.dest = s.cfg.ends[b].directId
      let across1 := across s.first s.second
      let across2 := across s.second s.first
      let resumes := s.cfg.switchable = true ∧ delivered = true ∧ direct ∧ (facing s.first ∨ facing s.second)
      let entry : Overheard := { state := x.state, long := x.long, net := x.net, time := unitsAt s.now }
      let ends := [s.first, s.second]
      (∀ e, direct → w.hold = none → far e → (∀ e', far e' → e' = e) →
        t.blocks[e].long = false ∧ t.blocks[e].mismatch = false ∧ t.blocks[e].outstanding = none ∧ t.bells[e].playout = [] ∧
        t.statusPromised e ∧ s.rePaired t e ∧
        (s.cfg.switchable = false → t.blocks[e].state = s.blocks[e].state)) ∧
      (w.state = .out → resumes →
        t.switching.state = .inUse ∧ t.loader.partState = .running ∧ ∀ e ∈ ends,
          t.blocks[e].state = .normal ∧ t.blocks[e].release = .none ∧ s.rePaired t e) ∧
      ((w.state = .out ∧ ¬resumes) ∨ w.state = .proposingIn →
        t.switching.state = w.state ∧ t.loader = s.loader ∧
        (across1 → t.switching.overheard1 = some entry) ∧ (¬across1 → t.switching.overheard1 = w.overheard1) ∧
        (across2 → t.switching.overheard2 = some entry) ∧ (¬across2 → t.switching.overheard2 = w.overheard2)) ∧
      (w.state = .inUse → w.startWatch = true → x.long = true → across1 ∨ across2 →
        t.switching.state = .out ∧ t.switching.startWatch = false ∧ t.switching.overheard1 = none ∧
        t.switching.overheard2 = none ∧ t.loader = { s.loader with partState := .switchedOut } ∧
        (∀ i : LeverNo, t.levers[i].output = false) ∧ ∀ e ∈ ends,
          t.blocks[e].state = .inactive ∧ t.blocks[e].release = .none ∧ s.rePaired t e) ∧
      (¬reverts → s.cfg.switchable = false ∨ w.state = .proposingOut ∨
        (w.state = .inUse ∧ ¬(w.startWatch = true ∧ x.long = true ∧ (across1 ∨ across2))) → t = s))

/-- STATUS_REFRESH_EXPIRY and LISTENING_PERIOD_END (R109 to R112, R165, R175, R187). At the expiry of a refresh timer it stops, and the end's STATUS is
merged into the one that waits, or takes an empty slot, or is owed where all slots are full. At the end of the listening period the STATUS owed marks
are served in order of end number: that of an end whose STATUS waits is cleared, and of the others as many are queued as slots are empty, the rest
staying owed; a mark that is not set stays so. Then a key found at OUT, with the start watch still set and the controller in IN, is judged by R165's
checks, which KeyMovesTheController writes out: the proposal is refused with the first that fails, recorded, and the watch stays set; or the proposal
is made, whose frames may evict a STATUS, which is then owed. Whom the record concerns is the model's reading (log entry 36). -/
def Obligations.StatusIsRaisedOrOwed : Prop :=
  ∀ s : State, s.quiet → s.active = true →
    let isStatus (f : Frame) (e : EndNo) : Prop := f.kind = .status ∧ f.e = e
    let waits (e : EndNo) : Bool := s.line.slots.toList.any fun x => x.any fun f => decide (f.kind = .status) && decide (f.e = e)
    let free := (s.line.slots.toList.filter (·.isNone)).length
    (∀ e : EndNo, expired s.now s.line.refresh[e] = true → Runs (.statusRefreshExpiry e) s fun t =>
      t = { s with line := t.line } ∧ t.line.refresh = s.line.refresh.set e none ∧ t.line.link = s.line.link ∧ t.statusPromised e ∧
      (∀ (i : Fin 8) (f : Frame), s.line.slots[i] = some f → isStatus f e →
        (∀ (j : Fin 8) (g : Frame), s.line.slots[j] = some g → isStatus g e → j = i) →
        t.line.slots = s.line.slots.set i
          (some (if f.onLine then { f with attempts := 0, renewed := true } else { f with attempts := 0 })) ∧
        t.line.owed = s.line.owed) ∧
      (waits e = false → 0 < free →
        t.slotHolds .status e (s.peerId e) [] s.line.nextSeq ∧ t.line.owed = s.line.owed ∧
          ∀ (i : Fin 8) (f : Frame), s.line.slots[i] = some f → t.line.slots[i] = some f) ∧
      (waits e = false → free = 0 → t.line.slots = s.line.slots ∧ t.line.owed = s.line.owed.set e true)) ∧
    (expired s.now s.line.listenUntil = true →
      (Runs .listeningPeriodEnd s fun t => s.sameFrame t ∧ t.line.listenUntil = none ∧ t.blocks = s.blocks ∧
        ∀ e : EndNo, s.line.owed[e] = true → t.statusPromised e) ∧
      ∃ u : State,
        u = { s with line := u.line } ∧ u.line.listenUntil = none ∧ u.line.link = s.line.link ∧ u.line.refresh = s.line.refresh ∧
        (∀ (i : Fin 8) (f : Frame), s.line.slots[i] = some f → f.kind ≠ .status ∨ s.line.owed[f.e] = false → u.line.slots[i] = some f) ∧
        (∀ e : EndNo, s.line.owed[e] = false ∨ waits e = true → u.line.owed[e] = false) ∧
        (∀ e : EndNo, s.line.owed[e] = true → waits e = false →
          let before := (Machine.ends.filter fun e' => decide (e' < e) && s.line.owed[e'] && !waits e').length
          (before < free → u.line.owed[e] = false ∧ u.slotHolds .status e (s.peerId e) [] (s.line.nextSeq + before)) ∧
          (free ≤ before → u.line.owed[e] = true ∧ ∀ (i : Fin 8) (f : Frame), u.line.slots[i] = some f → ¬isStatus f e)) ∧
        let judged := s.switching.startWatch = true ∧ s.switching.proved = some .keyOut ∧ s.switching.state = .inUse
        (¬judged → exec .listeningPeriodEnd s = .next u) ∧
        (∀ x, judged → s.proposalConditions = some x →
          exec .listeningPeriodEnd s = .next (u.switchRecord x.concern 1 .refusedLocally (some x.reason) none)) ∧
        (judged → s.proposalConditions = none → Runs .listeningPeriodEnd s fun t => u.proposes t .out))

/-- LAST_HEARD_EXPIRY, link loss (R65, R78, R113, R116, R129, R133, R145, R154): the identity's timer has stopped; every configured end that was UP with
it as current peer is LOST and LINK_LOST is recorded for it, an UNUSED release becomes SUSPENDED with the state kept, no offer is held and the playout
queue is empty. Its section's remote net is absent and its pending and held requests end, the pending one with outcome LINK_LOST recorded; nothing
else of the section changes outside PROPOSING_OUT, where the frames of an abandonment may follow, so that a confirmation outstanding stands. -/
def Obligations.SilentPeerLosesTheLink : Prop :=
  ∀ (s : State) (id : Fin 16), s.quiet → s.heardDue id = true →
    Runs (.lastHeardExpiry id) s fun t =>
      s.sameFrame t ∧ t.line.heard[id].running = false ∧ ∃ l, Recorded s t l ∧
      ∀ e : EndNo, s.cfg.ends[e].configured = true → s.peerId e = id.val → s.line.link[e] = true →
        { time := s.partTime, kind := .linkLost, subject := e.val, old := 1, new := 0, d1 := id.val, d2 := s.peerEnd e
          d3 := bit s.blocks[e].long } ∈ l ∧
        t.line.link[e] = false ∧ t.blocks[e].state = s.blocks[e].state ∧
        t.blocks[e].release = (if s.blocks[e].release = .unused then .suspended else s.blocks[e].release) ∧
        t.bells[e].offer = none ∧ t.bells[e].playout = [] ∧
        ∀ c, s.sectOf e = some c →
          t.sects[c].remote = none ∧ t.sects[c].pending = none ∧ t.sects[c].held = none ∧
          (s.switching.state ≠ .proposingOut → t.sects[c] = { s.sects[c] with remote := none, pending := none, held := none }) ∧
          (s.sects[c].pending ≠ none →
            { time := s.partTime, kind := .countReset, subject := c.val + 1, old := (s.sectState c).code
              new := if s.sects[c].latch = .none then 4 else (s.sectState c).code, d1 := 7, d2 := e.val
              d3 := hi s.sects[c].localNet, d4 := lo s.sects[c].localNet } ∈ l)

/-! ### Bells (Chapter 7) -/

/-- TAPPER_STRIKE (R118 to R120, R125): a strike begins a code, joins the last group or opens a new one by its interval, or is refused and ends the
code TOO_MANY; every strike taken stops the quiet timer, starts the held timer and fixes the interval its BEAT will carry. A strike that is not
taken moves the debounced value alone. -/
def Obligations.StrikesBuildTheCode : Prop :=
  ∀ (s : State) (e : EndNo), s.quiet → s.tapperDue e true = true →
    let b := s.bells[e]
    let tapper := b.tapper.settle (ms 20) s.now
    let now := unitsAt s.now
    let interval := if b.quiet = .expired then 255 else (b.lastStrike.map fun u => min 254 (now - u)).getD 255
    let struck : Bell :=
      { b with
        tapper := tapper, down := true, beat := some interval, lastStrike := some now, quiet := .stopped
        heldUntil := some (s.now + units s.cfg.heldStrikeUnits) }
    let apart := now - b.latestStrike
    let refused := b.groups.sum = 20 ∨ (s.cfg.gGroupUnits ≤ apart ∧ b.groups.length = 5)
    let groups :=
      if apart < s.cfg.gGroupUnits then b.groups.dropLast ++ [b.groups.getLast?.getD 0 + 1] else b.groups ++ [1]
    let becomes (y : Bell) : Prop := exec (.tapperStrike e) s = .next (s.modBell e fun _ => y)
    (s.tapped e = false → becomes { b with tapper := tapper }) ∧
    (s.tapped e = true → b.parser = .idle → becomes { struck with
      parser := .collecting, groups := [1], firstStrike := now, latestStrike := now
      codeUntil := some (s.now + secs s.cfg.codeLimitSecs) }) ∧
    (s.tapped e = true → b.parser = .waitQuiet → becomes struck) ∧
    (s.tapped e = true → b.parser = .collecting → ¬refused → becomes { struck with groups := groups, latestStrike := now }) ∧
    (s.tapped e = true → b.parser = .collecting → refused → Runs (.tapperStrike e) s fun t =>
      t.bells[e] = { struck with parser := .waitQuiet, groups := [], codeUntil := none, lastOut := t.bells[e].lastOut } ∧
      (t.bells[e].lastOut.map fun r => (r.groups, r.termination, r.index, r.time)) =
        some (b.groups, .tooMany, none, b.firstStrike))

/-- An end that becomes INACTIVE (R121, R122, R126, R133): its parser is IDLE with every timer stopped, the quiet timer expired, no strike to complete and no
beat to play; a code in progress forms a record that ends ABANDONED, with CODE_SENT recorded and no CODE queued, and without one no record is formed.
QUIET_TIMER_EXPIRY, HELD_TIMER_EXPIRY and CODE_TIMER_EXPIRY in COLLECTING (R121, R123, R126, R135): the code ends with its termination and forms the
last outbound record, whose CODE is queued, or which is marked not sent, and CODE_SENT is recorded; in the other parser states no record is formed. A
code of an OBSTRUCTION entry makes its end OBSTRUCTED, unless it is INACTIVE, whatever became of the CODE; one of an OBSTRUCTION_REMOVED entry whose CODE
was queued makes an OBSTRUCTED end NORMAL; any other changes no end. At the expiry of the held timer, in any
parser state, the strike awaiting completion sends its BEAT with held mark 1, or BEAT_DROPPED is the first record (R125, R135); the BEAT is the
first of the two frames (the model's choice, log entry 52). -/
def Obligations.CodesEnd : Prop :=
  (∀ (s : State) (e : EndNo),
    let b := s.bells[e]
    let t := s.orderState e .inactive
    let sent : Event :=
      { time := s.partTime, kind := .codeSent, subject := e.val, old := 5, new := 255, d1 := b.groups.length, d2 := b.groups.sum, d3 := 2
        d4 := 255 }
    t.blocks[e].state = .inactive ∧
    t.bells[e] = { b with
      parser := .idle, groups := [], quiet := .expired, heldUntil := none, codeUntil := none, down := false, beat := none, playout := []
      offer := t.bells[e].offer
      lastOut := if b.parser = .collecting then
          some { groups := b.groups, termination := .abandoned, index := none, time := b.firstStrike, notSent := true }
        else b.lastOut } ∧
    (∀ (i : Fin 8) (f : Frame), t.line.slots[i] = some f → f.kind = .bellCode ∨ f.kind = .beat → s.line.slots[i] = some f) ∧
    ∃ l, Recorded s t l ∧ (l.filter fun r => decide (r.kind = .codeSent)) = if b.parser = .collecting then [sent] else []) ∧
  ∀ (s : State) (e : EndNo), s.quiet → s.switching.state ≠ .proposingOut → s.active = true →
    let b := s.bells[e]
    let ended (t : State) (term : Termination) (index : Option Nat) : Prop :=
      ∃ r l, t.bells[e].lastOut = some r ∧ r.groups = b.groups ∧ r.termination = term ∧ r.index = index ∧ r.time = b.firstStrike ∧
        t.bells[e].groups = [] ∧ t.bells[e].codeUntil = none ∧ Recorded s t l ∧
        { time := s.partTime, kind := .codeSent, subject := e.val, old := term.code, new := index.getD 255, d1 := b.groups.length
          d2 := b.groups.sum, d3 := bit r.notSent, d4 := ((s.cfg.classOf index).map (·.code)).getD 255 } ∈ l ∧
        (r.notSent = false → ∃ n, r.seq = some n ∧ t.slotHolds .bellCode e (s.peerId e) r.payload n) ∧
        (b.beat = none → (r.notSent = true ↔ s.answerTo .bellCode e = .refused))
    (s.quietDue e = true →
      (b.parser = .collecting → Runs (.quietTimerExpiry e) s fun t =>
        let cls := s.cfg.classOf (s.cfg.matchCode b.groups)
        let st := s.blocks[e].state
        let obstructs := cls = some .obstruction ∧ st ≠ .inactive ∧ st ≠ .obstructed
        let restores := cls = some .obstructionRemoved ∧ s.answerTo .bellCode e ≠ .refused ∧ st = .obstructed
        let becomes (x : BlockState) : Prop := t.blocks[e].state = x ∧ t.blocks[e].release = .none ∧ t.statusPromised e
        t.bells[e].parser = .idle ∧ t.bells[e].quiet = .expired ∧ ended t .endGap (s.cfg.matchCode b.groups) ∧
        (obstructs → becomes .obstructed) ∧ (restores → becomes .normal) ∧ (¬obstructs → ¬restores → t.blocks = s.blocks) ∧
        ∀ e', e' ≠ e → t.blocks[e'] = s.blocks[e']) ∧
      (b.parser ≠ .collecting → exec (.quietTimerExpiry e) s = .next (s.modBell e fun b =>
        { b with quiet := .expired, parser := .idle }))) ∧
    (∀ iv, expired s.now b.heldUntil = true → b.beat = some iv → Runs (.heldTimerExpiry e) s fun t =>
      (∀ n, s.answerTo .beat e = .queued n → t.slotHolds .beat e (s.peerId e) [byte iv, 1#8] n) ∧
      (s.answerTo .beat e = .refused → RecordedFirst s t
        { time := s.partTime, kind := .beatDropped, subject := e.val, old := 1, new := iv, d1 := 1, d2 := b.playout.length })) ∧
    (expired s.now b.heldUntil = true →
      (b.parser = .collecting → Runs (.heldTimerExpiry e) s fun t =>
        t.bells[e].parser = .waitQuiet ∧ t.bells[e].heldUntil = none ∧ t.bells[e].beat = none ∧ t.blocks = s.blocks ∧
          ended t .held none) ∧
      (b.parser ≠ .collecting → Runs (.heldTimerExpiry e) s fun t =>
        t.bells[e] = { b with heldUntil := none, beat := none } ∧ t.blocks = s.blocks)) ∧
    (expired s.now b.codeUntil = true →
      (b.parser = .collecting → Runs (.codeTimerExpiry e) s fun t =>
        t.bells[e].parser = .waitQuiet ∧ t.bells[e].quiet = b.quiet ∧ t.blocks = s.blocks ∧ ended t .tooLong none) ∧
      (b.parser ≠ .collecting → exec (.codeTimerExpiry e) s = .next (s.modBell e fun b => { b with codeUntil := none })))

/-- TAPPER_RELEASE, BEAT_DUE, STRIKE_END and OFFER_HOLD_EXPIRY (R119, R125, R129, R132): the release of a strike taken starts the quiet timer and
queues the BEAT; the beat at the head of a queue, with the last strike's moments kept to the quantum (the model's choice, log entry 64), is due at the
latest of its aim (its arrival where its interval is 255 or no strike has been played, and otherwise the last strike's start plus its interval), the
last strike's end plus 40 ms and its arrival, and then leaves the queue and energises the coil for its length; before that BEAT_DUE changes nothing
(log entry 3). The coil is de-energised at the strike's end; an offer whose hold has run out is cleared. -/
def Obligations.BeatsAreSentAndPlayed : Prop :=
  ∀ (s : State) (e : EndNo), s.quiet →
    let b := s.bells[e]
    let tapper := b.tapper.settle (ms 20) s.now
    (s.tapperDue e false = true →
      (s.tapped e = false ∨ b.down = false → exec (.tapperRelease e) s = .next (s.modBell e fun b => { b with tapper := tapper })) ∧
      (s.tapped e = true → b.down = true → Runs (.tapperRelease e) s fun t =>
        t.bells[e] = { b with
          tapper := tapper, down := false, heldUntil := none, quiet := .running (s.now + units s.cfg.gEndUnits), beat := none } ∧
        (∀ iv n, b.beat = some iv → s.answerTo .beat e = .queued n → t.slotHolds .beat e (s.peerId e) [byte iv, 0#8] n) ∧
        (∀ iv, b.beat = some iv → s.answerTo .beat e = .refused → Recorded s t
          [{ time := s.partTime, kind := .beatDropped, subject := e.val, old := 1, new := iv, d1 := 0, d2 := b.playout.length }]))) ∧
    (∀ x rest, s.active = true → b.playout = x :: rest →
      let aim := match b.lastPlayed with
        | some p => if x.interval = 255 then units x.arrival else p.start + units x.interval
        | none => units x.arrival
      let reached := aim ≤ s.now ∧ (∀ p, b.lastPlayed = some p → p.stop + ms 40 ≤ s.now) ∧ units x.arrival ≤ s.now
      let stop := s.now + if x.held then ms 1500 else units s.cfg.strikeUnits
      (reached → Runs (.beatDue e) s fun t => t.bellCoil e = true ∧
        t = s.modBell e fun b => { b with playout := rest, lastPlayed := some ⟨s.now, stop⟩, strikeUntil := some stop }) ∧
      (¬reached → exec (.beatDue e) s = .next s)) ∧
    (s.active = true → expired s.now b.strikeUntil = true → Runs (.strikeEnd e) s fun t => t.bellCoil e = false ∧
      t = s.modBell e fun b => { b with strikeUntil := none }) ∧
    (s.active = true → expired s.now (b.offer.map (·.until_)) = true →
      exec (.offerHoldExpiry e) s = .next (s.modBell e fun b => { b with offer := none }))

/-- A CODE delivered for an end (R98, R123, R127, R128, R135): the payload is sound where groups of 1 to 20 beats, 20 in all at most, stand first with
zeros after them and the termination is from 1 to 5. A sound one forms a record, read against this part's own table, and CODE_RECEIVED is the first
event record; an OFFER sets an offer at a NORMAL end alone, and an INACTIVE end has no effect of class. An unsound one is recorded INVALID and changes
nothing else. A BEAT delivered for an end (R131): it joins the playout queue as the last, with its interval, its held mark and the part time of its
taking, while fewer than 16 are held; with 16 held it is dropped and recorded; an INACTIVE end disregards it. What
becomes of a held mark or an index outside R98 is the model's choice (log entries 28 and 60). -/
def Obligations.ReceivedCodeActs : Prop :=
  (∀ (s : State) (e : EndNo) (f : RxFrame), f.kind = .beat →
    let b := s.bells[e]
    (s.blocks[e].state = .inactive → s.deliver e f = s) ∧
    (s.blocks[e].state ≠ .inactive → b.playout.length < 16 → s.deliver e f = s.modBell e fun b => { b with
      playout := b.playout ++
        [{ interval := (f.payload.getD 0 0#8).toNat, held := decide (f.payload.getD 1 0#8 = 1#8), arrival := unitsAt s.now }] }) ∧
    (s.blocks[e].state ≠ .inactive → 16 ≤ b.playout.length → s.deliver e f = s.append
      { kind := .beatDropped, subject := e.val, old := 2, new := (f.payload.getD 0 0#8).toNat, d1 := (f.payload.getD 1 0#8).toNat
        d2 := b.playout.length })) ∧
  (∀ (p : List Byte) (g : List Nat) (term : Termination), p.length = 6 →
    (payloadGroups p = some g ↔
      1 ≤ g.length ∧ (∀ n ∈ g, 1 ≤ n ∧ n ≤ 20) ∧ g.sum ≤ 20 ∧ (p.take 5).map (·.toNat) = g ++ List.replicate (5 - g.length) 0) ∧
    (payloadTermination p = some term ↔ (p.getD 5 0#8).toNat % 8 = term.code)) ∧
  ∀ (s : State) (e : EndNo) (f : RxFrame) (g : List Nat) (term : Termination), f.kind = .bellCode →
    let t := s.deliver e f
    let sent := (f.payload.getD 5 0#8).toNat / 8
    let theirs := if sent = 0 then 255 else sent - 1
    let index := s.cfg.recordIndex term g
    let cls := s.cfg.classOf index
    (payloadGroups f.payload = none ∨ payloadTermination f.payload = none → t = s.append
      { kind := .codeReceived, subject := e.val, old := theirs, new := 255, d1 := 0, d2 := 0, d3 := 0, d4 := 6 }) ∧
    (payloadGroups f.payload = some g → payloadTermination f.payload = some term →
      t.bells[e].lastIn = some { groups := g, termination := term, index := index, time := unitsAt s.now } ∧
      RecordedFirst s t
        { time := s.partTime, kind := .codeReceived, subject := e.val, old := theirs, new := index.getD 255, d1 := term.code, d2 := g.sum
          d3 := g.length
          d4 := if s.blocks[e].state = .inactive then 0
            else match cls with
              | some .offer => if s.blocks[e].state = .normal then 1 else 2
              | some .cancelOffer => 3
              | some .obstruction => 4
              | some .obstructionRemoved => 5
              | _ => 0 } ∧
      (∀ k, index = some k → cls = some .offer → s.blocks[e].state = .normal →
        t.bells[e].offer = some { index := k, time := unitsAt s.now, until_ := s.now + secs s.cfg.offerHoldSecs } ∧ t.blocks = s.blocks) ∧
      (cls = some .offer → s.blocks[e].state ≠ .normal → t.bells[e].offer = s.bells[e].offer ∧ t.blocks = s.blocks) ∧
      (cls = some .cancelOffer → s.blocks[e].state ≠ .inactive → t.bells[e].offer = none ∧ t.blocks = s.blocks) ∧
      (cls = some .obstruction → s.blocks[e].state ≠ .inactive → t.blocks[e].state = .obstructed) ∧
      (cls = some .obstructionRemoved → t.blocks[e].state = if s.blocks[e].state = .obstructed then .normal else s.blocks[e].state) ∧
      (s.blocks[e].state = .inactive ∨
          (cls ≠ some .offer ∧ cls ≠ some .cancelOffer ∧ cls ≠ some .obstruction ∧ cls ≠ some .obstructionRemoved) →
        t.blocks = s.blocks ∧ t.bells[e].offer = s.bells[e].offer))

/-! ### Block sections (Chapter 8) -/

/-- A block end's lamps (R138): in every state of the part they are lit as the end's state, link and mismatch mark give, and are dark while the part
is under reset, STARTING or in CONFIG_FAULT and at an end that is not configured. -/
def Obligations.EndLampsFollowTheRecord : Prop :=
  ∀ (s : State) (e : EndNo),
    let l := s.endLamps e
    let st := s.blocks[e].state
    (s.active = false ∨ s.cfg.ends[e].configured = false →
      l.blocked = false ∧ l.clear = false ∧ l.train = false ∧ l.fail = false) ∧
    (s.active = true → s.cfg.ends[e].configured = true →
      (l.blocked = true ↔ st = .normal ∨ st = .accepting ∨ st = .recovering ∨ st = .switching) ∧
      (l.clear = true ↔ st = .clearIn ∨ st = .clearOut ∨ st = .cancelling) ∧
      (l.train = true ↔ st = .occupiedIn ∨ st = .occupiedOut) ∧
      (l.fail = true ↔ s.line.link[e] = false ∨ st = .obstructed ∨ s.blocks[e].mismatch = true) ∧
      (st = .inactive → l.blocked = false ∧ l.clear = false ∧ l.train = false))

/-- The laws of a block end (R128, R129, R145, section 8.1): each of the three is kept by every step. A release other than NONE goes with CLEAR_OUT
and UNUSED with a link that is UP; an offer goes with NORMAL and a link that is UP; each timer runs in its own state. -/
def Obligations.EndLawsKeptByStep : Prop :=
  ∀ s t : State, step s = .next t →
    (ReleaseLaw s → ReleaseLaw t) ∧ (OfferLaw s → OfferLaw t) ∧ (EndTimerLaw s → EndTimerLaw t)

/-- BLOCK_SWITCH_TO_ACCEPT (R130, R137, R140, R159): at an end that is INACTIVE or not configured, and while the part is not active, the movement is
disregarded, the debounced value alone taking its level. Otherwise the first check that fails refuses the acceptance and changes nothing but the
records; with all passed the end is ACCEPTING for 5 s, its ACCEPT is outstanding in a slot with the offer's index, and the offer is cleared. -/
def Obligations.AcceptanceIsJudged : Prop :=
  ∀ (s : State) (e : EndNo), s.quiet → s.instrumentDue e s.blocks[e].switch true = true →
    let b := s.blocks[e]
    let switch := b.switch.settle (ms 50) s.now
    let offer := s.bells[e].offer
    let repeated := s.cfg.ends[e].repetition = false ∨
      ∃ o r, offer = some o ∧ s.bells[e].lastOut = some r ∧ r.index = some o.index ∧ o.time < r.time ∧ r.notSent = false
    let overlap := ∀ d, item s.combiner.sects s.cfg.ends[e].overlap = some d → d.clear = true
    let refuses (r : Reason) : Prop :=
      exec (.blockSwitchToAccept e) s = .next ((s.modBlock e fun b => { b with switch := switch }).append
        { kind := .acceptRefused, subject := e.val, old := 1, new := r.code, d1 := b.state.code
          d2 := (offer.map (·.index)).getD 255, d3 := (s.endSectState e).code })
    let taken := s.active = true ∧ s.cfg.ends[e].configured = true ∧ b.state ≠ .inactive
    let check1 := taken ∧ b.state = .normal
    let check2 := check1 ∧ s.line.link[e] = true
    let check3 := check2 ∧ s.loader.partState = .running
    let check4 := check3 ∧ s.endSectState e = .clear
    let check5 := check4 ∧ offer ≠ none
    let check6 := check5 ∧ repeated
    let check7 := check6 ∧ overlap
    (¬taken → exec (.blockSwitchToAccept e) s = .next (s.modBlock e fun b => { b with switch := switch })) ∧
    (taken → ¬check1 → refuses .notNormal) ∧ (check1 → ¬check2 → refuses .link) ∧ (check2 → ¬check3 → refuses .part) ∧
    (check3 → ¬check4 → refuses .count) ∧ (check4 → ¬check5 → refuses .noOffer) ∧ (check5 → ¬check6 → refuses .noRepeat) ∧
    (check6 → ¬check7 → refuses .overlap) ∧ (check7 → s.answerTo .accept e = .refused → refuses .slots) ∧
    (∀ o n, check7 → offer = some o → s.answerTo .accept e = .queued n → Runs (.blockSwitchToAccept e) s fun t =>
      s.sameFrame t ∧ t.levers = s.levers ∧ t.track = s.track ∧ t.heads = s.heads ∧
      (∀ e', e' ≠ e → t.blocks[e'] = s.blocks[e']) ∧
      t.blocks[e] = { b with
        switch := switch, state := .accepting, release := .none, refusal := none, mismatch := false
        acceptUntil := some (s.now + secs 5), cancelUntil := none, acceptDelivered := false, acceptSeq := some n
        outstanding := some ⟨.accept, n⟩ } ∧
      t.bells[e].offer = none ∧ t.slotHolds .accept e (s.peerId e) [byte o.index] n)

/-- BLOCK_SWITCH_TO_NORMAL and ACCEPTANCE_TIMER_EXPIRY (R137, R141, R146): an acceptance is given up to NORMAL with a WITHDRAW; in CLEAR_IN a WITHDRAW
is queued and the state kept, or its want of a slot is recorded; in any other state the movement has no effect. -/
def Obligations.AcceptanceIsWithdrawn : Prop :=
  ∀ (s : State) (e : EndNo), s.quiet →
    let b := s.blocks[e]
    let settled : BlockEnd := { b with switch := b.switch.settle (ms 50) s.now }
    (s.instrumentDue e b.switch false = true →
      (s.instrumented e = false ∨ (b.state ≠ .accepting ∧ b.state ≠ .clearIn) →
        exec (.blockSwitchToNormal e) s = .next (s.modBlock e fun _ => settled)) ∧
      (s.instrumented e = true → b.state = .accepting → Runs (.blockSwitchToNormal e) s fun t =>
        s.sameFrame t ∧ s.returnedWith t e settled .withdraw .withdraw) ∧
      (∀ n, s.instrumented e = true → b.state = .clearIn → s.answerTo .withdraw e = .queued n →
        Runs (.blockSwitchToNormal e) s fun t =>
          s.sameFrame t ∧ t.blocks[e] = { settled with outstanding := some ⟨.withdraw, n⟩ } ∧
            t.slotHolds .withdraw e (s.peerId e) [] n) ∧
      (s.instrumented e = true → b.state = .clearIn → s.answerTo .withdraw e = .refused →
        exec (.blockSwitchToNormal e) s = .next ((s.modBlock e fun _ => settled).append
          { kind := .blockStateChanged, subject := e.val, old := 2, new := 2, d1 := b.release.code, d2 := 1
            d3 := bit s.line.link[e], d4 := 4 }))) ∧
    (s.active = true → expired s.now b.acceptUntil = true →
      (b.state = .accepting → Runs (.acceptanceTimerExpiry e) s fun t =>
        s.sameFrame t ∧ s.returnedWith t e b .withdraw .withdraw) ∧
      (b.state ≠ .accepting → exec (.acceptanceTimerExpiry e) s = .next (s.modBlock e fun b => { b with acceptUntil := none })))

/-- TOS_PLUNGER_PRESS, CANCEL_PLUNGER_PRESS, CANCELLATION_TIMER_EXPIRY, PLUNGER_OR_KEY_RELEASE and REFUSAL_MARK_EXPIRY (R71, R137, R144, R149, R151,
R152): what each does by the end's state, release and count section. That a CANCEL press with release NONE does nothing is the model's choice (log
entry 61). -/
def Obligations.PlungersActByTheState : Prop :=
  ∀ (s : State) (e : EndNo), s.quiet →
    let b := s.blocks[e]
    let tos : BlockEnd := { b with tos := b.tos.settle (ms 50) s.now }
    let cancel : BlockEnd := { b with cancel := b.cancel.settle (ms 50) s.now }
    let refused (op cause : Nat) : Event :=
      { kind := .blockStateChanged, subject := e.val, old := b.state.code, new := b.state.code, d1 := b.release.code, d2 := cause
        d3 := bit s.line.link[e], d4 := op }
    let sound := s.endSectState e = .clear ∨ s.endSectState e = .resetPrep
    (s.instrumentDue e b.tos true = true →
      (s.instrumented e = false ∨ b.state ≠ .occupiedIn → exec (.tosPlungerPress e) s = .next (s.modBlock e fun _ => tos)) ∧
      (s.instrumented e = true → b.state = .occupiedIn →
        (¬sound → exec (.tosPlungerPress e) s = .next ((s.modBlock e fun _ => tos).append (refused 2 11))) ∧
        (sound → s.answerTo .tos e = .refused →
          exec (.tosPlungerPress e) s = .next ((s.modBlock e fun _ => tos).append (refused 3 11))) ∧
        (∀ n, sound → s.answerTo .tos e = .queued n → Runs (.tosPlungerPress e) s fun t =>
          s.sameFrame t ∧ t.blocks[e] = { tos with
            state := .normal, release := .none, refusal := none, mismatch := false, acceptUntil := none, cancelUntil := none
            outstanding := some ⟨.tos, n⟩ } ∧
          t.slotHolds .tos e (s.peerId e) [byte (hi (s.endNet e)), byte (lo (s.endNet e))] n))) ∧
    (s.instrumentDue e b.cancel true = true →
      (s.instrumented e = false ∨ b.state ≠ .clearOut ∨ b.release = .none →
        exec (.cancelPlungerPress e) s = .next (s.modBlock e fun _ => cancel)) ∧
      (s.instrumented e = true → b.state = .clearOut →
        (b.release = .unused ∨ b.release = .suspended → Runs (.cancelPlungerPress e) s fun t =>
          s.sameFrame t ∧ s.returnedWith t e cancel .cancel .cancel) ∧
        (b.release = .taken →
          exec (.cancelPlungerPress e) s = .next ((s.modBlock e fun _ => cancel).append (refused 1 13))) ∧
        (b.release = .spent → Runs (.cancelPlungerPress e) s fun t =>
          s.sameFrame t ∧ t.blocks[e] = { cancel with
            state := .cancelling, release := .none, refusal := none, mismatch := false, acceptUntil := none
            cancelUntil := some (s.now + secs s.cfg.cancellationSecs) }))) ∧
    (s.active = true → expired s.now b.cancelUntil = true →
      (b.state = .cancelling → Runs (.cancellationTimerExpiry e) s fun t =>
        s.sameFrame t ∧ s.returnedWith t e b .cancel .cancel) ∧
      (b.state ≠ .cancelling → exec (.cancellationTimerExpiry e) s = .next (s.modBlock e fun b => { b with cancelUntil := none }))) ∧
    (s.instrumentDue e b.tos false = true →
      exec (.plungerOrKeyRelease (.tosPlunger e)) s = .next (s.modBlock e fun _ => tos)) ∧
    (s.instrumentDue e b.cancel false = true →
      exec (.plungerOrKeyRelease (.cancelPlunger e)) s = .next (s.modBlock e fun _ => cancel)) ∧
    (∀ c, s.keyDue c false = true → exec (.plungerOrKeyRelease (.resetKey c)) s =
      .next (s.modSect c fun x => { x with key := x.key.settle (ms 50) s.now })) ∧
    (s.active = true → expired s.now (b.refusal.map (·.until_)) = true → Runs (.refusalMarkExpiry e) s fun t =>
      t = { s with blocks := t.blocks, line := t.line } ∧ t.blocks = s.blocks.set e { b with refusal := none } ∧
        t.statusPromised e)

/-- ACCEPT, WITHDRAW, CANCEL and TOS as they are delivered for an end (R142, R143, R147, R150, R152). The TOS has been taken by the axle counting unit
first. That a WITHDRAW with release NONE is refused, and that an offered index above 15 is kept as it came, are the model's choices (log entries
61 and 60). -/
def Obligations.DeliveredFramesMoveTheEnd : Prop :=
  ∀ (s : State) (e : EndNo) (f : RxFrame),
    let b := s.blocks[e]
    let t := s.deliver e f
    let x := (s.takeNet e (netAt f.payload 0) false).blocks[e]
    let starter := ∃ i, s.starterOf e = some i ∧ s.levers[i].position = .normal
    let check1 := s.loader.partState = .running
    let check2 := check1 ∧ b.state ≠ .switching
    let check3 := check2 ∧ b.state = .normal
    let check4 := check3 ∧ s.endSectState e = .clear
    let check5 := check4 ∧ starter
    let refused (r : Reason) : Prop :=
      t.blocks[e] = { b with refusal := some ⟨r, s.now + secs 5⟩ } ∧ t.statusPromised e ∧ Recorded s t
        [{ time := s.partTime, kind := .acceptRefused, subject := e.val, old := 2, new := r.code, d1 := b.state.code, d2 := f.sender
           d3 := (s.endSectState e).code }]
    let granted (t : State) (cause : Nat) : Prop :=
      t.blocks[e] = { b with
        state := .clearOut, release := .unused, refusal := none, mismatch := false, acceptUntil := none, cancelUntil := none
        acceptDelivered := if b.state = .accepting then false else b.acceptDelivered
        acceptedIndex := some (f.payload.getD 0 0#8).toNat } ∧
      t.statusPromised e ∧ t.evaluator.view.release[e] = .unused ∧ RecordedFirst s t
        { time := s.partTime, kind := .blockStateChanged, subject := e.val, old := b.state.code, new := 3, d1 := 1, d2 := cause
          d3 := bit s.line.link[e] }
    let normal (t : State) : Prop :=
      t.blocks[e].state = .normal ∧ t.blocks[e].release = .none ∧ t.blocks[e].cancelUntil = none ∧ t.statusPromised e
    (f.kind = .accept →
      (b.state = .inactive → t = s) ∧
      (b.state = .clearOut → t.blocks = s.blocks ∧ t.statusPromised e) ∧
      (b.state ≠ .inactive → b.state ≠ .clearOut → b.state ≠ .accepting →
        (¬check1 → refused .part) ∧ (check1 → ¬check2 → refused .switching) ∧ (check2 → ¬check3 → refused .notNormal) ∧
        (check3 → ¬check4 → refused .count) ∧ (check4 → ¬check5 → refused .starter) ∧ (check5 → granted t 2)) ∧
      (b.state = .accepting →
        (s.cfg.identity ≤ f.sender → t = s) ∧
        (f.sender < s.cfg.identity →
          (check1 ∧ s.endSectState e = .clear ∧ starter → granted t 7) ∧
          (¬(check1 ∧ s.endSectState e = .clear ∧ starter) →
            normal t ∧ t.blocks[e].acceptUntil = none ∧ t.blocks[e].acceptDelivered = false ∧
              t.blocks[e].outstanding = b.outstanding ∧ ∃ r, t.blocks[e].refusal = some ⟨r, s.now + secs 5⟩)))) ∧
    (f.kind = .withdraw →
      (b.state = .inactive → t = s) ∧
      (b.state = .clearOut → b.release = .unused ∨ b.release = .suspended → normal t) ∧
      (b.state = .clearOut → ¬(b.release = .unused ∨ b.release = .suspended) →
        t.blocks = s.blocks ∧ t.statusPromised e ∧ Recorded s t
          [{ time := s.partTime, kind := .blockStateChanged, subject := e.val, old := 3, new := 3, d1 := b.release.code, d2 := 9
             d3 := bit s.line.link[e], d4 := 5 }]) ∧
      (b.state ≠ .inactive → b.state ≠ .clearOut → t.blocks = s.blocks ∧ t.statusPromised e ∧ Recorded s t [])) ∧
    (f.kind = .cancel → (b.state = .clearIn → normal t) ∧ (b.state ≠ .clearIn → t = s)) ∧
    (f.kind = .tos →
      (x.state = .occupiedOut ∨ x.state = .clearOut ∨ x.state = .cancelling → normal t) ∧
      (¬(x.state = .occupiedOut ∨ x.state = .clearOut ∨ x.state = .cancelling) → t = s.takeNet e (netAt f.payload 0) false))

/-- A peer STATUS taken at an end (R141, R145, R155 to R158, R161): what forbids a comparison, the table of R156 with the states kept, entered and
answered, the release restored, the answer to an acceptance, and the state a RECOVERING end adopts. A compared pair that is not listed sets the
mismatch mark, and records STATE_MISMATCH where the mark was clear (R157); a state or release code outside R98 is in no listed pair (the model's
reading, log entry 27). A STATUS answers an acceptance with a refusal by any mark other than 0, one above 15 included (the model's choice, log entry
60). -/
def Obligations.PeerStatusActs : Prop :=
  ∀ (s : State) (e : EndNo) (f : StatusFields),
    let b := s.blocks[e]
    let t := s.statusTaken e f
    let mismatch : Prop :=
      (b.mismatch = true → t = s) ∧
      (b.mismatch = false → t = (s.modBlock e fun b => { b with mismatch := true }).append
        { kind := .stateMismatch, subject := e.val, old := b.state.code, new := f.state, d1 := f.release, d2 := s.peerId e, d3 := f.sect
          d4 := bit b.long })
    (BlockState.ofCode f.state = none → b.outstanding = none →
      b.state = .normal ∨ b.state = .clearIn ∨ b.state = .clearOut ∨ b.state = .cancelling ∨ b.state = .occupiedIn ∨ b.state = .occupiedOut →
      mismatch) ∧
    ∀ p : BlockState, BlockState.ofCode f.state = some p →
    let keeps : Prop := t = s.modBlock e fun b => { b with mismatch := false }
    let becomes (st : BlockState) : Prop := t.blocks[e].state = st ∧ t.blocks[e].release = .none ∧ t.statusPromised e
    let sends (k : FrameKind) (o : OutKind) : Prop :=
      t.blocks[e].state = b.state ∧ ∀ n, s.answerTo k e = .queued n →
        t.blocks[e].outstanding = some ⟨o, n⟩ ∧ t.slotHolds k e (s.peerId e) [] n
    let compared := b.outstanding = none ∧ ¬(b.release = .suspended ∧ p = .clearIn)
    (compared → b.state = .normal →
      (p = .normal ∨ p = .accepting ∨ p = .recovering → keeps) ∧ (p = .clearIn → sends .cancel .cancel) ∧
      (p = .clearOut → f.release = 1 ∨ f.release = 2 → sends .withdraw .withdraw) ∧
      (p = .clearOut → f.release = 3 ∨ f.release = 4 → becomes .clearIn) ∧
      (p = .clearOut → f.release = 0 ∨ 4 < f.release → mismatch) ∧ (p = .cancelling → becomes .clearIn) ∧
      (p = .occupiedOut → becomes .occupiedIn) ∧ (p = .occupiedIn → becomes .occupiedOut)) ∧
    (compared → b.state = .clearIn →
      (p = .normal ∨ p = .recovering → becomes .normal) ∧ (p = .clearOut ∨ p = .cancelling → keeps) ∧
      (p = .occupiedOut → becomes .occupiedIn) ∧ (p = .accepting ∨ p = .clearIn ∨ p = .occupiedIn → mismatch)) ∧
    (compared → b.state = .clearOut →
      (p = .normal ∨ p = .recovering → b.release = .unused ∨ b.release = .suspended → becomes .normal) ∧
      (p = .normal ∨ p = .recovering → b.release = .taken ∨ b.release = .spent → keeps) ∧
      (p = .clearIn ∨ p = .accepting → keeps) ∧ (p = .occupiedIn → becomes .occupiedOut) ∧
      (p = .clearOut ∨ p = .cancelling ∨ p = .occupiedOut → mismatch)) ∧
    (compared → b.state = .cancelling →
      (p = .normal ∨ p = .recovering ∨ p = .clearIn → keeps) ∧ (p = .occupiedIn → becomes .occupiedOut) ∧
      (p = .accepting ∨ p = .clearOut ∨ p = .cancelling ∨ p = .occupiedOut → mismatch)) ∧
    (compared → b.state = .occupiedIn →
      (p = .occupiedOut ∨ p = .normal ∨ p = .recovering ∨ p = .clearOut ∨ p = .cancelling → keeps) ∧
      (p = .accepting ∨ p = .clearIn ∨ p = .occupiedIn → mismatch)) ∧
    (compared → b.state = .occupiedOut →
      (p = .occupiedIn ∨ p = .normal ∨ p = .recovering ∨ p = .clearIn → keeps) ∧
      (p = .accepting ∨ p = .clearOut ∨ p = .cancelling ∨ p = .occupiedOut → mismatch)) ∧
    (b.state = .accepting →
      (p = .clearOut → becomes .clearIn) ∧ (p ≠ .clearOut → f.mark ≠ 0 → b.acceptDelivered = true → becomes .normal) ∧
      (p ≠ .clearOut → f.mark = 0 ∨ b.acceptDelivered = false → t = s)) ∧
    (b.state = .recovering →
      (p = .normal ∨ p = .accepting ∨ p = .clearIn ∨ p = .switching ∨ p = .recovering → becomes .normal) ∧
      (p = .clearOut ∨ p = .cancelling → becomes .clearIn) ∧ (p = .occupiedOut → becomes .occupiedIn) ∧
      (p = .occupiedIn → becomes .occupiedOut) ∧ (p = .obstructed → becomes .obstructed) ∧
      (p = .inactive → t.blocks[e].state = .recovering ∧
        (s.cfg.ends[e].altId ≠ 0 → t.blocks[e].long = true) ∧ (s.cfg.ends[e].altId = 0 → t = s))) ∧
    (b.state = .switching ∨ b.state = .inactive ∨ b.state = .obstructed → t = s) ∧
    (b.state ≠ .accepting → b.state ≠ .recovering → p = .obstructed ∨ p = .switching ∨ p = .inactive ∨ b.outstanding ≠ none →
      ¬(b.release = .suspended ∧ p = .clearIn) → t = s) ∧
    (b.state = .clearOut → b.release = .suspended → p = .clearIn →
      t.blocks[e].state = .clearOut ∧ t.blocks[e].release = .unused ∧ t.statusPromised e)

/-! ### Switching out (Chapter 9) -/

/-- SWITCH_KEY_MOVEMENT (R163 to R165, R170, R173): the contacts take their values; a proved position that differs from the last is a movement; in IN a
movement to OUT is judged by R165's checks and in OUT one to IN by R173's, and the first that fails refuses the proposal; with all held the two
PROPOSE frames are queued in turn, and the proposal stands for 10 s, or is refused for want of a slot (`State.proposes`); in a proposing state the
movement back abandons it. The answers to a standing proposal (R168): the first AGREE of a neighbour
sets its answer and a second changes nothing; with both AGREED, and again as a slot empties, the part drains until no frame waits for
either neighbour, and then judges its conditions afresh and queues the two COMMITs or abandons; a REFUSE abandons; an AGREE with no such
proposal standing is answered with an ABANDON. Checks 1, 4, 5 and 6 of R165, which are judged throughout PROPOSING_OUT, are written out too, and what
an abandonment is stands in `State.abandons` (R170). The model's own: both contacts of the key are taken together (log entry 16), an AGREE that
matches an end not designated changes nothing while a proposal of its direction stands (log entry 30), a REFUSE's reason outside 1 to 15 is
recorded as it came (log entry 60), whom a refusal's record concerns (log entries 36 and 44), that a COMMIT of an earlier proposal still
in its slot holds the drain back like any other frame to a neighbour (log entry 65), and which of two ABANDON frames is queued first
(log entry 67). -/
def Obligations.KeyMovesTheController : Prop :=
  (∀ u : State,
    let a := u.first
    let b := u.second
    let fails (bad : EndNo → Prop) (reason : SwitchReason) (x : Failing) : Prop :=
      x.reason = reason ∧ (bad a → ¬bad b → x.concern = .one a u.cfg.ends[a].directId) ∧
        (¬bad a → bad b → x.concern = .one b u.cfg.ends[b].directId) ∧ ((bad a ↔ bad b) → x.concern = .both)
    let notNormal (e : EndNo) : Prop := u.blocks[e].state ≠ .normal
    let lost (e : EndNo) : Prop := u.line.link[e] = false
    let offered (e : EndNo) : Prop := u.bells[e].offer ≠ none
    let notClear (e : EndNo) : Prop := u.endSectState e ≠ .clear
    let obstructed (e : EndNo) : Prop := u.cfg.ends[e].configured = true ∧ u.blocks[e].state = .obstructed
    let check1 := ¬notNormal a ∧ ¬notNormal b
    let check2 := check1 ∧ ¬lost a ∧ ¬lost b
    let check3 := check2 ∧ ¬offered a ∧ ¬offered b
    let check4 := check3 ∧ ¬notClear a ∧ ¬notClear b
    let check5 := check4 ∧ ∀ e, ¬obstructed e
    let check6 := check5 ∧ (u.cfg.altNamed = true → u.evaluator.altDecision = true)
    let shows (o : Option Overheard) : Prop := ∃ x, o = some x ∧ u.now < units x.time + secs 6 ∧ x.state = 0 ∧ x.long = true
    let one := shows u.switching.overheard1
    let two := shows u.switching.overheard2
    let standing4 := check1 ∧ ¬notClear a ∧ ¬notClear b
    let standing5 := standing4 ∧ ∀ e, ¬obstructed e
    let standing6 := standing5 ∧ (u.cfg.altNamed = true → u.evaluator.altDecision = true)
    (u.standingConditions = none ↔ standing6) ∧
    (∀ x, u.standingConditions = some x →
      (¬check1 → fails notNormal .notNormal x) ∧ (check1 → ¬standing4 → fails notClear .count x) ∧
      (∀ e, standing4 → obstructed e → (∀ e' : EndNo, e' < e → ¬obstructed e') → x = ⟨.obstructed, .one e u.cfg.ends[e].directId⟩) ∧
      (standing5 → ¬standing6 → x = ⟨.alternative, .both⟩)) ∧
    (u.proposalConditions = none ↔ check6) ∧
    (∀ x, u.proposalConditions = some x →
      (¬check1 → fails notNormal .notNormal x) ∧ (check1 → ¬check2 → fails lost .link x) ∧
      (check2 → ¬check3 → fails offered .offer x) ∧ (check3 → ¬check4 → fails notClear .count x) ∧
      (∀ e, check4 → obstructed e → (∀ e' : EndNo, e' < e → ¬obstructed e') → x = ⟨.obstructed, .one e u.cfg.ends[e].directId⟩) ∧
      (check5 → ¬check6 → x = ⟨.alternative, .both⟩)) ∧
    (u.checkLinks = none ↔ ¬lost a ∧ ¬lost b) ∧ (∀ x, u.checkLinks = some x → fails lost .link x) ∧
    (u.checkLongSection = none ↔ one ∧ two ∧ ∀ x y, u.switching.overheard1 = some x → u.switching.overheard2 = some y →
      (x.net + y.net) % 4096 = 0) ∧
    ∀ x, u.checkLongSection = some x →
      x.reason = .longSection ∧ (¬one → two → x.concern = .one a u.cfg.ends[a].directId) ∧
        (one → ¬two → x.concern = .one b u.cfg.ends[b].directId) ∧ ((one ↔ two) → x.concern = .both)) ∧
  (∀ s : State, s.quiet →
    let w := s.switching
    let waits (u : State) : Prop := ∃ (i : Fin 8) (g : Frame), u.line.slots[i] = some g ∧
      (u.frameDest g = u.cfg.ends[u.first].directId ∨ u.frameDest g = u.cfg.ends[u.second].directId)
    let conditions (u : State) (d : Direction) : Option Failing := match d with
      | .out => u.proposalConditions
      | .into => u.checkLinks
    let drained (u t : State) (a : Agreement) : Prop :=
      let payload : List Byte :=
        [byte a.direction.code, byte u.cfg.ends[u.first].directId, byte u.cfg.ends[u.first].directEnd,
          byte u.cfg.ends[u.second].directId, byte u.cfg.ends[u.second].directEnd]
      (waits u → t = u) ∧ (∀ x, ¬waits u → conditions u a.direction = some x → u.abandons t a x.reason.code 3) ∧
      (¬waits u → conditions u a.direction = none →
        (u.answerTo .switchCommit u.first = .refused → u.abandons t a 0 6) ∧
        ∀ n, u.answerTo .switchCommit u.first = .queued n →
          let u1 := u.requestSwitch .switchCommit u.first payload
          (u1.answerTo .switchCommit u.second = .refused → u1.abandons t a 0 6) ∧
          ∀ m, u1.answerTo .switchCommit u.second = .queued m →
            t.switching.agreement = some { a with commit1 := .queued n, commit2 := .queued m } ∧
            t.switching.state = u.switching.state ∧ t.loader = u.loader ∧
            t.slotHolds .switchCommit u.first u.cfg.ends[u.first].directId payload n ∧
            t.slotHolds .switchCommit u.second u.cfg.ends[u.second].directId payload m)
    (∀ (e : EndNo) (f : RxFrame) (d : Direction) (delivered : Bool), f.dest = s.cfg.identity →
      s.matchedEnd f.sender f.senderEnd = some e → (f.payload.getD 0 0#8).toNat = d.code →
      let t := s.overhear f delivered
      (f.kind = .switchAgree →
        (∀ a, w.agreement = some a → a.direction = d → s.cfg.switchable = true → s.first ≠ s.second →
          let agreed (y : Agreement) : State := s.modSwitching fun w => { w with agreement := some y }
          let a1 : Agreement := { a with agreed1 := true }
          let a2 : Agreement := { a with agreed2 := true }
          (e = s.first → a.agreed1 = false → a.agreed2 = false → t = agreed a1) ∧
          (e = s.second → a.agreed2 = false → a.agreed1 = false → t = agreed a2) ∧
          (e = s.first → a.agreed1 = false → a.agreed2 = true → a.commit1 = .notQueued → a.commit2 = .notQueued →
            drained (agreed a1) t a1) ∧
          (e = s.second → a.agreed2 = false → a.agreed1 = true → a.commit1 = .notQueued → a.commit2 = .notQueued →
            drained (agreed a2) t a2) ∧
          ((e = s.first ∧ a.agreed1 = true) ∨ (e = s.second ∧ a.agreed2 = true) ∨ (e ≠ s.first ∧ e ≠ s.second) → t = s)) ∧
        ((∀ a, w.agreement = some a → a.direction ≠ d) →
          t = (s.requestSwitch .switchAbandon e [byte d.code]).switchRecord (.one e f.sender) d.code .agreeUnsolicited none none)) ∧
      (f.kind = .switchRefuse →
        (∀ a, w.agreement = some a → a.direction = d → s.cfg.switchable = true → e = s.first ∨ e = s.second →
          s.abandons t a (f.payload.getD 1 0#8).toNat 1 ∧
            ∃ l r, Recorded s t l ∧ l.getLast? = some r ∧ r.subject = e.val ∧ r.d3 = f.sender) ∧
        ((∀ a, w.agreement = some a → a.direction ≠ d) → t = s))) ∧
    ((∀ e : EndNo, s.line.owed[e] = false) → ∀ a, w.agreement = some a →
      (a.agreed1 = true → a.agreed2 = true → a.commit1 = .notQueued → a.commit2 = .notQueued → drained s s.slotEmptied a) ∧
      (a.agreed1 = false ∨ a.agreed2 = false ∨ a.commit1 ≠ .notQueued ∨ a.commit2 ≠ .notQueued → s.slotEmptied = s))) ∧
  ∀ s : State, s.quiet → s.switchKeyDue = true →
    let w := s.switching
    let keyIn := w.keyIn.settle (ms 50) s.now
    let keyOut := w.keyOut.settle (ms 50) s.now
    let k : Option KeyPosition :=
      if keyIn.value = true ∧ keyOut.value = false then some .keyIn
      else if keyIn.value = false ∧ keyOut.value = true then some .keyOut
      else none
    let still : State := s.modSwitching fun w => { w with keyIn := keyIn, keyOut := keyOut }
    let moved : State := still.modSwitching fun w => { w with proved := k, startWatch := false }
    let proposes (d : Direction) : Prop := Runs .switchKeyMovement s fun t => moved.proposes t d
    let refuses (d : Direction) (f : Failing) : Prop :=
      exec .switchKeyMovement s = .next (moved.switchRecord f.concern d.code .refusedLocally (some f.reason) none)
    let abandons : Prop := Runs .switchKeyMovement s fun t =>
      (∀ a, w.agreement = some a → moved.abandons t a 0 5) ∧ (w.agreement = none → t = moved)
    (s.active = false ∨ s.cfg.switchable = false ∨ k = none ∨ w.proved = k → exec .switchKeyMovement s = .next still) ∧
    (s.active = true → s.cfg.switchable = true → w.proved ≠ k →
      (k = some .keyOut → w.state = .inUse →
        (s.proposalConditions = none → proposes .out) ∧ ∀ f, s.proposalConditions = some f → refuses .out f) ∧
      (k = some .keyIn → w.state = .proposingOut → abandons) ∧
      (k = some .keyIn → w.state = .out →
        (s.checkLinks = none → s.checkLongSection = none → proposes .into) ∧
        (∀ f, s.checkLinks = some f → refuses .into f) ∧
        ∀ f, s.checkLinks = none → s.checkLongSection = some f → refuses .into f) ∧
      (k = some .keyOut → w.state = .proposingIn → abandons) ∧
      (k = some .keyIn → w.state = .inUse ∨ w.state = .proposingIn → exec .switchKeyMovement s = .next moved) ∧
      (k = some .keyOut → w.state = .out ∨ w.state = .proposingOut → exec .switchKeyMovement s = .next moved))

/-- AGREEMENT_LIMIT_EXPIRY, HOLD_TIMER_EXPIRY, the judging of a proposal at a neighbour, and the conclusions of an agreement (R68, R78, R165 to R167,
R169, R170, R173 to R176): the limit abandons the proposal, with an ABANDON to each neighbour that has agreed, to the first
before the second (the model's choice, log entry 67); in PROPOSING_OUT a change of a
designated end's state, an end's change to OBSTRUCTED and a change of the alternative's decision each bring a judgement of the conditions, whose
failure abandons the proposal with cause CONDITIONS at the event's close (the model's choice, log entry 34); such a change of state clears the start
watch where both designated ends have left RECOVERING, and leaves it otherwise; the hold's end leaves the pairing and returns a SWITCHING end to
NORMAL; a PROPOSE taken is judged by R166's checks in their order, refused with the first that fails, and otherwise answered with an AGREE and held
for 10 s; the second COMMIT acknowledged completes the commit; a completed commit OUT makes the part SWITCHED_OUT with its locks de-energised and its
designated ends INACTIVE, and one IN makes it RUNNING with its locks as position and decision give them and the ends NORMAL; a COMMIT within its hold
sets the matched end's pairing, and any other is recorded as COMMIT_DISREGARDED and changes nothing; an ABANDON within its hold ends it with the
pairing kept, an ABANDON(OUT) at a LONG end that has no hold reverts the end to DIRECT, and any other is disregarded (R167, R171). The AGREED record,
and the COMMITTED one, stand before the block's records of the same event (R176). A re-paired section is left as R68 and R78 say (`State.rePaired`,
one choice: log entry 59). The model's readings: the subject of the abandonment's record (log entry 36), and that a hold at another end of the part
does not keep an ABANDON(OUT) from reverting a LONG end (log entry 38). -/
def Obligations.AgreementsConclude : Prop :=
  ∀ s : State, s.quiet →
    (∀ a, s.active = true → s.switching.agreement = some a → a.until_ ≤ s.now → Runs .agreementLimitExpiry s fun t =>
      s.abandons t a 0 2 ∧ ∃ l r, Recorded s t l ∧ l.getLast? = some r ∧ r.subject = 255) ∧
    (∀ a, s.switching.agreement = some a → s.switching.state = .proposingOut →
      let judged (u : State) : Prop :=
        (u.standingConditions = none → u.settle = u) ∧ ∀ x, u.standingConditions = some x → u.abandons u.settle a x.reason.code 3
      (∀ (e : EndNo) (st : BlockState) (rel : Release) (cause : Cause), s.blocks[e].state ≠ st →
        (s.cfg.switchable = true ∧ (e = s.first ∨ e = s.second)) ∨ st = .obstructed → judged (s.changeEnd e st rel cause)) ∧
      ∀ f : Evaluator → Evaluator, (s.evaluate f).evaluator.altDecision ≠ s.evaluator.altDecision → judged (s.evaluate f)) ∧
    (∀ (e : EndNo) (st : BlockState) (rel : Release) (cause : Cause), s.blocks[e].state ≠ st →
      let u := s.changeEnd e st rel cause
      let left := u.blocks[s.first].state ≠ .recovering ∧ u.blocks[s.second].state ≠ .recovering
      (left → u.switching.startWatch = false) ∧ (¬left → u.switching.startWatch = s.switching.startWatch)) ∧
    (∀ h, s.active = true → s.switching.hold = some h → h.until_ ≤ s.now → Runs .holdTimerExpiry s fun t =>
      s.sameFrame t ∧ t.switching.hold = none ∧ t.blocks[h.e].long = s.blocks[h.e].long ∧
      t.blocks[h.e].state = (if s.blocks[h.e].state = .switching then .normal else s.blocks[h.e].state) ∧
      (∀ e, e ≠ h.e → t.blocks[e] = s.blocks[e]) ∧
      RecordedFirst s t
        { time := s.partTime, kind := .switching, subject := h.e.val, old := h.direction.code, new := 11, d2 := 8, d3 := h.proposer
          d4 := s.switching.state.code }) ∧
    (let t := s.completeCommit .out
     t.loader = { s.loader with partState := .switchedOut } ∧ t.switching.state = .out ∧ t.switching.agreement = none ∧
     t.switching.overheard1 = none ∧ t.switching.overheard2 = none ∧ (∀ i : LeverNo, t.levers[i].output = false) ∧
     ∀ e, e = s.first ∨ e = s.second → t.blocks[e].state = .inactive ∧ t.blocks[e].release = .none ∧ t.bells[e].playout = [] ∧
       (s.blocks[e].state ≠ .inactive → t.statusPromised e) ∧ s.rePaired t e) ∧
    (let t := s.completeCommit .into
     t.loader = { s.loader with partState := .running } ∧ t.switching.state = .inUse ∧ t.switching.agreement = none ∧
     (s.underReset = false → ∀ i : LeverNo, t.levers[i].output = lockOutput true (s.spare i) t.levers[i]) ∧
     (∀ i : LeverNo, t.levers[i].position = s.levers[i].position) ∧
     ∀ e, e = s.first ∨ e = s.second → t.blocks[e].state = .normal ∧ t.blocks[e].release = .none ∧
       (s.blocks[e].state ≠ .normal → t.statusPromised e) ∧ s.rePaired t e) ∧
    (∀ (a : Agreement) (n : Nat), s.switching.agreement = some a →
      let marked : State := s.modSwitching fun w =>
        { w with agreement := some { a with commit1 := .acknowledged, commit2 := .acknowledged } }
      (a.commit1 = .queued n → a.commit2 = .acknowledged → s.commitDelivered n = marked.completeCommit a.direction) ∧
      (a.commit1 = .acknowledged → a.commit2 = .queued n → s.commitDelivered n = marked.completeCommit a.direction) ∧
      (∀ m, a.commit1 = .queued n → a.commit2 = .queued m → m ≠ n → s.commitDelivered n =
        s.modSwitching fun w => { w with agreement := some { a with commit1 := .acknowledged } }) ∧
      (∀ m, a.commit1 = .queued m → a.commit2 = .queued n → m ≠ n → s.commitDelivered n =
        s.modSwitching fun w => { w with agreement := some { a with commit2 := .acknowledged } })) ∧
    (∀ (e : EndNo) (f : RxFrame) (d : Direction) (delivered : Bool), f.kind = .switchPropose → f.dest = s.cfg.identity →
      s.matchedEnd f.sender f.senderEnd = some e → (f.payload.getD 0 0#8).toNat = d.code →
      let t := s.overhear f delivered
      let r := s.cfg.ends[e]
      let p (i : Nat) : Nat := (f.payload.getD i 0#8).toNat
      let check1 := s.loader.partState = .running ∧ s.switching.state = .inUse ∧ s.switching.hold = none
      let check2 := check1 ∧ s.blocks[e].long = decide (d = .into)
      let check3 := check2 ∧ r.altId ≠ 0 ∧
        ((p 1 = s.cfg.identity ∧ p 2 = e.val ∧ p 3 = r.altId ∧ p 4 = r.altEnd) ∨
          (p 3 = s.cfg.identity ∧ p 4 = e.val ∧ p 1 = r.altId ∧ p 2 = r.altEnd))
      let check4 := check3 ∧ s.blocks[e].state = .normal
      let check5 := check4 ∧ s.line.link[e] = true
      let check6 := check5 ∧ s.endSectState e = .clear
      let check7 := check6 ∧ (d = .out → s.bells[e].offer = none)
      let refuses (x : SwitchReason) : Prop :=
        t = (s.requestSwitch .switchRefuse e [byte d.code, byte x.code]).switchRecord (.one e f.sender) d.code .refused (some x) none
      (¬check1 → refuses .busy) ∧ (check1 → ¬check2 → refuses (if d = .out then .long else .notLong)) ∧
      (check2 → ¬check3 → refuses .alternate) ∧ (check3 → ¬check4 → refuses .notNormal) ∧ (check4 → ¬check5 → refuses .link) ∧
      (check5 → ¬check6 → refuses .count) ∧ (check6 → ¬check7 → refuses .offer) ∧
      (check7 → s.answerTo .switchAgree e = .refused →
        t = s.switchRecord (.one e f.sender) d.code .refused (some .slots) none) ∧
      ∀ n, check7 → s.answerTo .switchAgree e = .queued n →
        t.switching.hold = some { direction := d, proposer := f.sender, e := e, until_ := s.now + secs 10 } ∧
        t.blocks[e].state = .switching ∧ t.blocks[e].release = .none ∧ t.blocks[e].long = s.blocks[e].long ∧
        (∀ e', e' ≠ e → t.blocks[e'] = s.blocks[e']) ∧ t.statusPromised e ∧
        t.slotHolds .switchAgree e r.directId [byte d.code] n ∧
        ∃ before after, (∀ x ∈ before, x.kind ≠ .blockStateChanged) ∧ Recorded s t (before ++
          { time := s.partTime, kind := .switching, subject := e.val, old := d.code, new := 8, d3 := f.sender
            d4 := s.switching.state.code } :: after)) ∧
    (∀ (e : EndNo) (f : RxFrame) (d : Direction) (delivered : Bool), f.dest = s.cfg.identity →
      s.matchedEnd f.sender f.senderEnd = some e → (f.payload.getD 0 0#8).toNat = d.code →
      let t := s.overhear f delivered
      let b := s.blocks[e]
      let record (outcome cause : Nat) : Event :=
        { time := s.partTime, kind := .switching, subject := e.val, old := d.code, new := outcome, d2 := cause, d3 := f.sender
          d4 := s.switching.state.code }
      let matched := ∃ h, s.switching.hold = some h ∧ h.e = e ∧ h.direction = d ∧ h.proposer = f.sender
      let reverts := (∀ h, s.switching.hold = some h → h.e ≠ e) ∧ d = .out ∧ b.long = true
      (f.kind = .switchCommit → matched → t.switching.hold = none ∧ t.blocks[e].long = decide (d = .out) ∧
        t.blocks[e].mismatch = false ∧ t.blocks[e].outstanding = none ∧ t.bells[e].playout = [] ∧ t.statusPromised e ∧
        t.blocks[e].state = (if b.state = .switching then .normal else b.state) ∧ s.rePaired t e ∧
        (∀ e', e' ≠ e → t.blocks[e'] = s.blocks[e']) ∧ RecordedFirst s t (record 10 0)) ∧
      (f.kind = .switchCommit → ¬matched → t = s.append (record 12 0)) ∧
      (f.kind = .switchAbandon → matched → t.switching.hold = none ∧ t.blocks[e].long = b.long ∧
        t.blocks[e].state = (if b.state = .switching then .normal else b.state) ∧
        (∀ e', e' ≠ e → t.blocks[e'] = s.blocks[e']) ∧ RecordedFirst s t (record 11 7)) ∧
      (f.kind = .switchAbandon → reverts → t.switching.hold = s.switching.hold ∧ t.blocks[e].long = false ∧ t.blocks[e].state = b.state ∧
        t.blocks[e].mismatch = false ∧ t.blocks[e].outstanding = none ∧ t.bells[e].playout = [] ∧ t.statusPromised e ∧
        s.rePaired t e ∧ (∀ e', e' ≠ e → t.blocks[e'] = s.blocks[e']) ∧ RecordedFirst s t (record 13 7)) ∧
      (f.kind = .switchAbandon → ¬matched → ¬reverts → t = s.append (record 11 10)))

/-- The switching controller and the part state (R164, R169), each kept by every step: the agreement record stands with its proposing state, the part is
SWITCHED_OUT in OUT and PROPOSING_IN alone; and while it is, with its controller so, the designated ends are INACTIVE. -/
def Obligations.SwitchedOutEndsStayInactive : Prop :=
  ∀ s t : State, ControllerLaw s → step s = .next t → ControllerLaw t ∧ (SwitchedOutLaw s → SwitchedOutLaw t)

/-! ### The whole part, and the maintenance port (Chapters 10 and 11) -/

/-- LOCK_FAULT is cleared only by reset (R13, R188): whatever command is taken but RESET_ASSERTED, a lever in LOCK_FAULT is in it afterwards, and the
FAULT pin stays asserted. -/
def Obligations.LockFaultStandsUntilReset : Prop :=
  ∀ (c : Instr) (s t : State) (i : LeverNo), c ≠ .resetAsserted → s.levers[i].lockFault = true → exec c s = .next t →
    t.levers[i].lockFault = true ∧ t.faultPin = true

/-- The bounded stores, each kept by every step: the event queue holds at most 64 records, an overflow record only as its last, and a TAKE that is to
remove a record finds one (R195, R196); no two transmit slots hold a STATUS, or a COUNT, of one end (R107); and the numbers that stand for the age of
the frames in the slots are distinct and below the next one (the model's own, log entry 22). -/
def Obligations.StoresStayBounded : Prop :=
  ∀ s t : State, step s = .next t → (QueueLaw s → QueueLaw t) ∧ (SlotLaw s → SlotLaw t) ∧ (NumberLaw s → NumberLaw t)

/-- The attention output is asserted exactly while the event queue holds a record, and an arrival never shortens the queue nor moves a record that is
not an overflow record (R195, R197). The moment of the last discard, which State keeps for the replies of TAKE (the model's own, log entry 57), is that
of an arrival that finds the overflow record there. -/
def Obligations.ArrivalsKeepTheQueue : Prop :=
  ∀ (s : State) (r : Event), QueueLaw s →
    (s.attention = true ↔ s.port.queue ≠ []) ∧ (s.append r).attention = true ∧
    (s.append r).port.discardAt =
      (if (s.port.queue.getLast?.map (·.kind)) = some .queueOverflow then some s.now else s.port.discardAt) ∧
    ((s.port.queue.length < 63 → (∀ x ∈ s.port.queue, x.kind ≠ .queueOverflow) →
      (s.append r).port.queue = s.port.queue ++ [{ r with time := s.partTime }]) ∧
    (s.port.queue.length = 63 → (∀ x ∈ s.port.queue, x.kind ≠ .queueOverflow) →
      (s.append r).port.queue = s.port.queue ++
        [{ time := s.partTime, kind := .queueOverflow, subject := r.subject, old := r.old, new := r.new, d1 := r.kind.code }]) ∧
    ∀ l x, s.port.queue = l ++ [x] → x.kind = .queueOverflow → ∃ y, (s.append r).port.queue = l ++ [y] ∧
      y.kind = .queueOverflow ∧ y.time = x.time ∧ y.subject = x.subject ∧ y.old = x.old ∧ y.new = x.new ∧ y.d1 = x.d1 ∧
      y.d2 = x.d2 ∧ (x.d3 * 256 + x.d4 ≤ 65535 → y.d3 * 256 + y.d4 = min 65535 (x.d3 * 256 + x.d4 + 1)))

/-- The maintenance port (R189 to R192, R195, R196): which bytes of the master's spell which command, and what every command, the twelfth byte of a
TAKE, the end of select and the completion of a capture do; the bytes returned: 0 while the command is clocked, then those of the reply, an area or a
record, and 0 past the last, with data out released while select is deasserted (`State.dataOut`); under reset it is driven
all the same, and a transaction that a reset has cut may take a command (the model's choices, log entry 66). A status reply is of the values held as its first
byte is formed (log entry 7 says when); a READ's area and a TAKE's record are fixed at the taking; a TAKE of an overflow record that stands alone
returns a count that includes an arrival of the moment of the removal (log entry 57). No command touches any other block. What a capture holds (R191,
R192): every area opens with the part time of the capture, high byte first, and has the length its list fixes, and the levers and the heads areas are
written out byte by byte; the widths and places that no rule gives, the time in TRANSIT in whole units passed, and the zeros where no passage is under
way are the model's (log entries 45, 58 and 55). -/
def Obligations.PortTransactions : Prop :=
  (portCommand [0x01#8] = some .statusCommand ∧ portCommand [0x02#8] = some .snapshotCommand ∧ portCommand [0x04#8] = some .takeCommand ∧
    portCommand [] = none ∧
    (∀ area high low : Byte, ∀ start : BitVec 16, start.toNat = high.toNat * 256 + low.toNat →
      portCommand [0x03#8] = none ∧ portCommand [0x03#8, area] = none ∧ portCommand [0x03#8, area, high] = none ∧
        portCommand [0x03#8, area, high, low] = some (.readCommand area start)) ∧
    ∀ code : Byte, code.toNat = 0 ∨ 4 < code.toNat → portCommand [code] = some (.unknownCommand code)) ∧
  ∀ s : State,
    let condition : SnapCondition → Nat := fun x => match x with
      | .empty => 0
      | .busy _ _ => 1
      | .ready => 2
    let status (error : Nat) : List Byte :=
      [byte s.loader.partState.code, byte s.loader.faultCode.code, byte (hi s.loader.faultSubject), byte (lo s.loader.faultSubject),
        byte s.port.queue.length, byte (condition s.port.condition), byte error]
    let goesOn (t : State) (x : Transaction) : State := t.modPort fun p => { p with transaction := x }
    let captured : State := s.modPort fun p => { p with condition := .busy (s.now + ms 10) s.capture }
    let two (n : Nat) : List Byte := [byte (n / 256), byte (n % 256)]
    let four (n : Nat) : List Byte := [byte (n / 16777216), byte (n / 65536), byte (n / 256), byte n]
    let lever (i : LeverNo) : List Byte :=
      let l := s.levers[i]
      let role : List Nat := match s.cfg.roles[i] with
        | .ordinary => [0, 0]
        | .starter e => [1, e]
        | .spare => [2, 0]
        | .other n => [n, 0]
      [byte (bit (s.active && l.n.value)), byte (bit (s.active && l.r.value)), byte l.position.code] ++ role.map byte ++
        four (l.lastNormal.getD 0) ++ two ((l.transitFrom.map fun u => min 3000 ((s.now - u) / 480)).getD 0)
    let head (h : HeadNo) : List Byte :=
      let x := s.heads[h]
      let passage : List Nat := match x.tracking with
        | .idle => [0, 0, 0]
        | .passage side last => [1, if side = .a then 1 else 2, last.code]
        | .resync => [2, 0, 0]
      let a := s.active && x.a.value
      let b := s.active && x.b.value
      [byte s.cfg.fitted[h], byte (bit a), byte (bit b), byte (if a then if b then 2 else 1 else if b then 3 else 0)] ++
        passage.map byte ++ [byte (bit x.error), byte x.errors] ++ two x.up ++ two x.down
    s.capture[0] = four s.partTime ++ (List.finRange 32).flatMap lever ∧ s.capture[3] = four s.partTime ++ (List.finRange 4).flatMap head ∧
    (∀ k : Fin 10, (s.capture[k]).take 4 = four s.partTime) ∧
    s.capture.toList.map (·.length) = [356, 292, 210, 56, 118, 149, 82, 142, 133, 38] ∧
    (s.underReset = false → s.port.transaction = .idle →
      exec .statusCommand s = .next (goesOn s (.status 0)) ∧
      (∀ code : Byte, code.toNat = 0 ∨ 4 < code.toNat → exec (.unknownCommand code) s = .next (goesOn s (.status 1))) ∧
      (∀ u v, s.port.condition = .busy u v → exec .snapshotCommand s = .next (goesOn s (.status 0))) ∧
      (s.port.condition = .empty ∨ s.port.condition = .ready →
        exec .snapshotCommand s = .next (goesOn captured (.status 0))) ∧
      (∀ (area : Byte) (start : BitVec 16),
        (∀ l, item s.port.store area.toNat = some l →
          exec (.readCommand area start) s = .next (goesOn s (.reply (l.drop start.toNat)))) ∧
        (area.toNat = 0 ∨ 10 < area.toNat → exec (.readCommand area start) s = .next (goesOn s (.reply [])))) ∧
      (∀ r rest, s.port.queue = r :: rest → exec .takeCommand s = .next (goesOn s (.take r.bytes true))) ∧
      (s.port.queue = [] → exec .takeCommand s = .next (goesOn s (.take (List.replicate 12 0#8) false)))) ∧
    (∀ k : Nat,
      (s.port.transaction = .idle → s.returned k = 0#8) ∧
      (∀ error, s.port.transaction = .status error → s.returned k = (status error).getD k 0#8) ∧
      (∀ l, s.port.transaction = .reply l → s.returned k = l.getD k 0#8) ∧
      (∀ l x, s.port.transaction = .take l x → s.returned k = l.getD k 0#8) ∧
      ∀ sent, s.dataOut .deasserted sent k = .released ∧ s.dataOut .asserted sent 0 = .driven 0#8 ∧
        (0 < sent → sent ≤ k → s.dataOut .asserted sent k = .driven (s.returned (k - sent)))) ∧
    (∀ bytes, s.port.transaction = .take bytes true →
      let removed (returned : List Byte) : State :=
        s.modPort fun p => { p with queue := p.queue.tail, transaction := .take returned false }
      (∀ r, s.port.queue = [r] → s.port.discardAt = some s.now → exec .takeRecordRemoved s = .next (removed r.bytes)) ∧
      (s.port.queue.length ≠ 1 ∨ s.port.discardAt ≠ some s.now → exec .takeRecordRemoved s = .next (removed bytes))) ∧
    exec .selectDeasserted s = .next (goesOn s .idle) ∧
    (∀ u v, s.port.condition = .busy u v → u ≤ s.now →
      exec .snapshotCompletion s = .next (s.modPort fun p => { p with store := v, condition := .ready }))

/-- The state after reset meets every law that the statements show a step to keep. -/
def Obligations.ResetMeetsEveryLaw : Prop :=
  LockLaw State.reset ∧ CopiesLaw State.reset ∧ DecisionLaw State.reset ∧ ChannelLaw State.reset ∧ SlotLaw State.reset ∧
    ReleaseLaw State.reset ∧ OfferLaw State.reset ∧ EndTimerLaw State.reset ∧ ControllerLaw State.reset ∧
    SwitchedOutLaw State.reset ∧ QueueLaw State.reset ∧ NumberLaw State.reset
end

