-- ==== Sys2Proof/Laws/State.lean ====
section
/-! SUPPORT. The named updates of State: one lemma per update and field, so that no later proof unfolds a record update; and what an
updated vector reads as. -/

namespace Sys2Proof.Machine

/-! ### Updated vectors -/

@[simp] theorem upd_getElem {α : Type} {n : Nat} (v : Vector α n) (i : Fin n) (f : α → α) (k : Nat) (h : k < n) :
    (upd v i f)[k] = if i.val = k then f v[k] else v[k] := by
  unfold upd
  rw [Vector.getElem_set]
  split
  · rename_i hk; subst hk; rfl
  · rfl

theorem upd_self {α : Type} {n : Nat} (v : Vector α n) (i : Fin n) (f : α → α) : (upd v i f)[i] = f v[i] := by simp

theorem upd_ne {α : Type} {n : Nat} (v : Vector α n) {i j : Fin n} (f : α → α) (h : i ≠ j) : (upd v i f)[j] = v[j] := by
  simp [Fin.val_ne_of_ne h]

theorem upd_same {α : Type} {n : Nat} (v : Vector α n) (i : Fin n) (f : α → α) (h : f v[i] = v[i]) : upd v i f = v := by
  apply Vector.ext
  intro k hk
  rw [upd_getElem]
  split
  · rename_i e; subst e; exact h
  · rfl

/-! ### modLoader -/

@[simp] theorem State.modLoader_now (s : State) (f : Loader → Loader) : (s.modLoader f).now = s.now := rfl
@[simp] theorem State.modLoader_underReset (s : State) (f : Loader → Loader) : (s.modLoader f).underReset = s.underReset := rfl
@[simp] theorem State.modLoader_loader (s : State) (f : Loader → Loader) : (s.modLoader f).loader = f s.loader := rfl
@[simp] theorem State.modLoader_cfg (s : State) (f : Loader → Loader) : (s.modLoader f).cfg = s.cfg := rfl
@[simp] theorem State.modLoader_levers (s : State) (f : Loader → Loader) : (s.modLoader f).levers = s.levers := rfl
@[simp] theorem State.modLoader_evaluator (s : State) (f : Loader → Loader) : (s.modLoader f).evaluator = s.evaluator := rfl
@[simp] theorem State.modLoader_track (s : State) (f : Loader → Loader) : (s.modLoader f).track = s.track := rfl
@[simp] theorem State.modLoader_heads (s : State) (f : Loader → Loader) : (s.modLoader f).heads = s.heads := rfl
@[simp] theorem State.modLoader_sects (s : State) (f : Loader → Loader) : (s.modLoader f).sects = s.sects := rfl
@[simp] theorem State.modLoader_combiner (s : State) (f : Loader → Loader) : (s.modLoader f).combiner = s.combiner := rfl
@[simp] theorem State.modLoader_line (s : State) (f : Loader → Loader) : (s.modLoader f).line = s.line := rfl
@[simp] theorem State.modLoader_bells (s : State) (f : Loader → Loader) : (s.modLoader f).bells = s.bells := rfl
@[simp] theorem State.modLoader_blocks (s : State) (f : Loader → Loader) : (s.modLoader f).blocks = s.blocks := rfl
@[simp] theorem State.modLoader_switching (s : State) (f : Loader → Loader) : (s.modLoader f).switching = s.switching := rfl
@[simp] theorem State.modLoader_port (s : State) (f : Loader → Loader) : (s.modLoader f).port = s.port := rfl
@[simp] theorem State.modLoader_freeCount (s : State) (f : Loader → Loader) : (s.modLoader f).freeCount = s.freeCount := rfl
@[simp] theorem State.modLoader_pending (s : State) (f : Loader → Loader) : (s.modLoader f).pending = s.pending := rfl

/-! ### modLever -/

@[simp] theorem State.modLever_now (s : State) (i : LeverNo) (f : Lever → Lever) : (s.modLever i f).now = s.now := rfl
@[simp] theorem State.modLever_underReset (s : State) (i : LeverNo) (f : Lever → Lever) : (s.modLever i f).underReset = s.underReset := rfl
@[simp] theorem State.modLever_loader (s : State) (i : LeverNo) (f : Lever → Lever) : (s.modLever i f).loader = s.loader := rfl
@[simp] theorem State.modLever_cfg (s : State) (i : LeverNo) (f : Lever → Lever) : (s.modLever i f).cfg = s.cfg := rfl
@[simp] theorem State.modLever_levers (s : State) (i : LeverNo) (f : Lever → Lever) : (s.modLever i f).levers = upd s.levers i f := rfl
@[simp] theorem State.modLever_evaluator (s : State) (i : LeverNo) (f : Lever → Lever) : (s.modLever i f).evaluator = s.evaluator := rfl
@[simp] theorem State.modLever_track (s : State) (i : LeverNo) (f : Lever → Lever) : (s.modLever i f).track = s.track := rfl
@[simp] theorem State.modLever_heads (s : State) (i : LeverNo) (f : Lever → Lever) : (s.modLever i f).heads = s.heads := rfl
@[simp] theorem State.modLever_sects (s : State) (i : LeverNo) (f : Lever → Lever) : (s.modLever i f).sects = s.sects := rfl
@[simp] theorem State.modLever_combiner (s : State) (i : LeverNo) (f : Lever → Lever) : (s.modLever i f).combiner = s.combiner := rfl
@[simp] theorem State.modLever_line (s : State) (i : LeverNo) (f : Lever → Lever) : (s.modLever i f).line = s.line := rfl
@[simp] theorem State.modLever_bells (s : State) (i : LeverNo) (f : Lever → Lever) : (s.modLever i f).bells = s.bells := rfl
@[simp] theorem State.modLever_blocks (s : State) (i : LeverNo) (f : Lever → Lever) : (s.modLever i f).blocks = s.blocks := rfl
@[simp] theorem State.modLever_switching (s : State) (i : LeverNo) (f : Lever → Lever) : (s.modLever i f).switching = s.switching := rfl
@[simp] theorem State.modLever_port (s : State) (i : LeverNo) (f : Lever → Lever) : (s.modLever i f).port = s.port := rfl
@[simp] theorem State.modLever_freeCount (s : State) (i : LeverNo) (f : Lever → Lever) : (s.modLever i f).freeCount = s.freeCount := rfl
@[simp] theorem State.modLever_pending (s : State) (i : LeverNo) (f : Lever → Lever) : (s.modLever i f).pending = s.pending := rfl

/-! ### modEvaluator -/

@[simp] theorem State.modEvaluator_now (s : State) (f : Evaluator → Evaluator) : (s.modEvaluator f).now = s.now := rfl
@[simp] theorem State.modEvaluator_underReset (s : State) (f : Evaluator → Evaluator) : (s.modEvaluator f).underReset = s.underReset := rfl
@[simp] theorem State.modEvaluator_loader (s : State) (f : Evaluator → Evaluator) : (s.modEvaluator f).loader = s.loader := rfl
@[simp] theorem State.modEvaluator_cfg (s : State) (f : Evaluator → Evaluator) : (s.modEvaluator f).cfg = s.cfg := rfl
@[simp] theorem State.modEvaluator_levers (s : State) (f : Evaluator → Evaluator) : (s.modEvaluator f).levers = s.levers := rfl
@[simp] theorem State.modEvaluator_evaluator (s : State) (f : Evaluator → Evaluator) : (s.modEvaluator f).evaluator = f s.evaluator := rfl
@[simp] theorem State.modEvaluator_track (s : State) (f : Evaluator → Evaluator) : (s.modEvaluator f).track = s.track := rfl
@[simp] theorem State.modEvaluator_heads (s : State) (f : Evaluator → Evaluator) : (s.modEvaluator f).heads = s.heads := rfl
@[simp] theorem State.modEvaluator_sects (s : State) (f : Evaluator → Evaluator) : (s.modEvaluator f).sects = s.sects := rfl
@[simp] theorem State.modEvaluator_combiner (s : State) (f : Evaluator → Evaluator) : (s.modEvaluator f).combiner = s.combiner := rfl
@[simp] theorem State.modEvaluator_line (s : State) (f : Evaluator → Evaluator) : (s.modEvaluator f).line = s.line := rfl
@[simp] theorem State.modEvaluator_bells (s : State) (f : Evaluator → Evaluator) : (s.modEvaluator f).bells = s.bells := rfl
@[simp] theorem State.modEvaluator_blocks (s : State) (f : Evaluator → Evaluator) : (s.modEvaluator f).blocks = s.blocks := rfl
@[simp] theorem State.modEvaluator_switching (s : State) (f : Evaluator → Evaluator) : (s.modEvaluator f).switching = s.switching := rfl
@[simp] theorem State.modEvaluator_port (s : State) (f : Evaluator → Evaluator) : (s.modEvaluator f).port = s.port := rfl
@[simp] theorem State.modEvaluator_freeCount (s : State) (f : Evaluator → Evaluator) : (s.modEvaluator f).freeCount = s.freeCount := rfl
@[simp] theorem State.modEvaluator_pending (s : State) (f : Evaluator → Evaluator) : (s.modEvaluator f).pending = s.pending := rfl

/-! ### modTrack -/

@[simp] theorem State.modTrack_now (s : State) (f : Track → Track) : (s.modTrack f).now = s.now := rfl
@[simp] theorem State.modTrack_underReset (s : State) (f : Track → Track) : (s.modTrack f).underReset = s.underReset := rfl
@[simp] theorem State.modTrack_loader (s : State) (f : Track → Track) : (s.modTrack f).loader = s.loader := rfl
@[simp] theorem State.modTrack_cfg (s : State) (f : Track → Track) : (s.modTrack f).cfg = s.cfg := rfl
@[simp] theorem State.modTrack_levers (s : State) (f : Track → Track) : (s.modTrack f).levers = s.levers := rfl
@[simp] theorem State.modTrack_evaluator (s : State) (f : Track → Track) : (s.modTrack f).evaluator = s.evaluator := rfl
@[simp] theorem State.modTrack_track (s : State) (f : Track → Track) : (s.modTrack f).track = f s.track := rfl
@[simp] theorem State.modTrack_heads (s : State) (f : Track → Track) : (s.modTrack f).heads = s.heads := rfl
@[simp] theorem State.modTrack_sects (s : State) (f : Track → Track) : (s.modTrack f).sects = s.sects := rfl
@[simp] theorem State.modTrack_combiner (s : State) (f : Track → Track) : (s.modTrack f).combiner = s.combiner := rfl
@[simp] theorem State.modTrack_line (s : State) (f : Track → Track) : (s.modTrack f).line = s.line := rfl
@[simp] theorem State.modTrack_bells (s : State) (f : Track → Track) : (s.modTrack f).bells = s.bells := rfl
@[simp] theorem State.modTrack_blocks (s : State) (f : Track → Track) : (s.modTrack f).blocks = s.blocks := rfl
@[simp] theorem State.modTrack_switching (s : State) (f : Track → Track) : (s.modTrack f).switching = s.switching := rfl
@[simp] theorem State.modTrack_port (s : State) (f : Track → Track) : (s.modTrack f).port = s.port := rfl
@[simp] theorem State.modTrack_freeCount (s : State) (f : Track → Track) : (s.modTrack f).freeCount = s.freeCount := rfl
@[simp] theorem State.modTrack_pending (s : State) (f : Track → Track) : (s.modTrack f).pending = s.pending := rfl

/-! ### modHead -/

@[simp] theorem State.modHead_now (s : State) (i : HeadNo) (f : Head → Head) : (s.modHead i f).now = s.now := rfl
@[simp] theorem State.modHead_underReset (s : State) (i : HeadNo) (f : Head → Head) : (s.modHead i f).underReset = s.underReset := rfl
@[simp] theorem State.modHead_loader (s : State) (i : HeadNo) (f : Head → Head) : (s.modHead i f).loader = s.loader := rfl
@[simp] theorem State.modHead_cfg (s : State) (i : HeadNo) (f : Head → Head) : (s.modHead i f).cfg = s.cfg := rfl
@[simp] theorem State.modHead_levers (s : State) (i : HeadNo) (f : Head → Head) : (s.modHead i f).levers = s.levers := rfl
@[simp] theorem State.modHead_evaluator (s : State) (i : HeadNo) (f : Head → Head) : (s.modHead i f).evaluator = s.evaluator := rfl
@[simp] theorem State.modHead_track (s : State) (i : HeadNo) (f : Head → Head) : (s.modHead i f).track = s.track := rfl
@[simp] theorem State.modHead_heads (s : State) (i : HeadNo) (f : Head → Head) : (s.modHead i f).heads = upd s.heads i f := rfl
@[simp] theorem State.modHead_sects (s : State) (i : HeadNo) (f : Head → Head) : (s.modHead i f).sects = s.sects := rfl
@[simp] theorem State.modHead_combiner (s : State) (i : HeadNo) (f : Head → Head) : (s.modHead i f).combiner = s.combiner := rfl
@[simp] theorem State.modHead_line (s : State) (i : HeadNo) (f : Head → Head) : (s.modHead i f).line = s.line := rfl
@[simp] theorem State.modHead_bells (s : State) (i : HeadNo) (f : Head → Head) : (s.modHead i f).bells = s.bells := rfl
@[simp] theorem State.modHead_blocks (s : State) (i : HeadNo) (f : Head → Head) : (s.modHead i f).blocks = s.blocks := rfl
@[simp] theorem State.modHead_switching (s : State) (i : HeadNo) (f : Head → Head) : (s.modHead i f).switching = s.switching := rfl
@[simp] theorem State.modHead_port (s : State) (i : HeadNo) (f : Head → Head) : (s.modHead i f).port = s.port := rfl
@[simp] theorem State.modHead_freeCount (s : State) (i : HeadNo) (f : Head → Head) : (s.modHead i f).freeCount = s.freeCount := rfl
@[simp] theorem State.modHead_pending (s : State) (i : HeadNo) (f : Head → Head) : (s.modHead i f).pending = s.pending := rfl

/-! ### modSect -/

@[simp] theorem State.modSect_now (s : State) (i : SectNo) (f : Sect → Sect) : (s.modSect i f).now = s.now := rfl
@[simp] theorem State.modSect_underReset (s : State) (i : SectNo) (f : Sect → Sect) : (s.modSect i f).underReset = s.underReset := rfl
@[simp] theorem State.modSect_loader (s : State) (i : SectNo) (f : Sect → Sect) : (s.modSect i f).loader = s.loader := rfl
@[simp] theorem State.modSect_cfg (s : State) (i : SectNo) (f : Sect → Sect) : (s.modSect i f).cfg = s.cfg := rfl
@[simp] theorem State.modSect_levers (s : State) (i : SectNo) (f : Sect → Sect) : (s.modSect i f).levers = s.levers := rfl
@[simp] theorem State.modSect_evaluator (s : State) (i : SectNo) (f : Sect → Sect) : (s.modSect i f).evaluator = s.evaluator := rfl
@[simp] theorem State.modSect_track (s : State) (i : SectNo) (f : Sect → Sect) : (s.modSect i f).track = s.track := rfl
@[simp] theorem State.modSect_heads (s : State) (i : SectNo) (f : Sect → Sect) : (s.modSect i f).heads = s.heads := rfl
@[simp] theorem State.modSect_sects (s : State) (i : SectNo) (f : Sect → Sect) : (s.modSect i f).sects = upd s.sects i f := rfl
@[simp] theorem State.modSect_combiner (s : State) (i : SectNo) (f : Sect → Sect) : (s.modSect i f).combiner = s.combiner := rfl
@[simp] theorem State.modSect_line (s : State) (i : SectNo) (f : Sect → Sect) : (s.modSect i f).line = s.line := rfl
@[simp] theorem State.modSect_bells (s : State) (i : SectNo) (f : Sect → Sect) : (s.modSect i f).bells = s.bells := rfl
@[simp] theorem State.modSect_blocks (s : State) (i : SectNo) (f : Sect → Sect) : (s.modSect i f).blocks = s.blocks := rfl
@[simp] theorem State.modSect_switching (s : State) (i : SectNo) (f : Sect → Sect) : (s.modSect i f).switching = s.switching := rfl
@[simp] theorem State.modSect_port (s : State) (i : SectNo) (f : Sect → Sect) : (s.modSect i f).port = s.port := rfl
@[simp] theorem State.modSect_freeCount (s : State) (i : SectNo) (f : Sect → Sect) : (s.modSect i f).freeCount = s.freeCount := rfl
@[simp] theorem State.modSect_pending (s : State) (i : SectNo) (f : Sect → Sect) : (s.modSect i f).pending = s.pending := rfl

/-! ### modCombiner -/

@[simp] theorem State.modCombiner_now (s : State) (f : Combiner → Combiner) : (s.modCombiner f).now = s.now := rfl
@[simp] theorem State.modCombiner_underReset (s : State) (f : Combiner → Combiner) : (s.modCombiner f).underReset = s.underReset := rfl
@[simp] theorem State.modCombiner_loader (s : State) (f : Combiner → Combiner) : (s.modCombiner f).loader = s.loader := rfl
@[simp] theorem State.modCombiner_cfg (s : State) (f : Combiner → Combiner) : (s.modCombiner f).cfg = s.cfg := rfl
@[simp] theorem State.modCombiner_levers (s : State) (f : Combiner → Combiner) : (s.modCombiner f).levers = s.levers := rfl
@[simp] theorem State.modCombiner_evaluator (s : State) (f : Combiner → Combiner) : (s.modCombiner f).evaluator = s.evaluator := rfl
@[simp] theorem State.modCombiner_track (s : State) (f : Combiner → Combiner) : (s.modCombiner f).track = s.track := rfl
@[simp] theorem State.modCombiner_heads (s : State) (f : Combiner → Combiner) : (s.modCombiner f).heads = s.heads := rfl
@[simp] theorem State.modCombiner_sects (s : State) (f : Combiner → Combiner) : (s.modCombiner f).sects = s.sects := rfl
@[simp] theorem State.modCombiner_combiner (s : State) (f : Combiner → Combiner) : (s.modCombiner f).combiner = f s.combiner := rfl
@[simp] theorem State.modCombiner_line (s : State) (f : Combiner → Combiner) : (s.modCombiner f).line = s.line := rfl
@[simp] theorem State.modCombiner_bells (s : State) (f : Combiner → Combiner) : (s.modCombiner f).bells = s.bells := rfl
@[simp] theorem State.modCombiner_blocks (s : State) (f : Combiner → Combiner) : (s.modCombiner f).blocks = s.blocks := rfl
@[simp] theorem State.modCombiner_switching (s : State) (f : Combiner → Combiner) : (s.modCombiner f).switching = s.switching := rfl
@[simp] theorem State.modCombiner_port (s : State) (f : Combiner → Combiner) : (s.modCombiner f).port = s.port := rfl
@[simp] theorem State.modCombiner_freeCount (s : State) (f : Combiner → Combiner) : (s.modCombiner f).freeCount = s.freeCount := rfl
@[simp] theorem State.modCombiner_pending (s : State) (f : Combiner → Combiner) : (s.modCombiner f).pending = s.pending := rfl

/-! ### modLine -/

@[simp] theorem State.modLine_now (s : State) (f : Line → Line) : (s.modLine f).now = s.now := rfl
@[simp] theorem State.modLine_underReset (s : State) (f : Line → Line) : (s.modLine f).underReset = s.underReset := rfl
@[simp] theorem State.modLine_loader (s : State) (f : Line → Line) : (s.modLine f).loader = s.loader := rfl
@[simp] theorem State.modLine_cfg (s : State) (f : Line → Line) : (s.modLine f).cfg = s.cfg := rfl
@[simp] theorem State.modLine_levers (s : State) (f : Line → Line) : (s.modLine f).levers = s.levers := rfl
@[simp] theorem State.modLine_evaluator (s : State) (f : Line → Line) : (s.modLine f).evaluator = s.evaluator := rfl
@[simp] theorem State.modLine_track (s : State) (f : Line → Line) : (s.modLine f).track = s.track := rfl
@[simp] theorem State.modLine_heads (s : State) (f : Line → Line) : (s.modLine f).heads = s.heads := rfl
@[simp] theorem State.modLine_sects (s : State) (f : Line → Line) : (s.modLine f).sects = s.sects := rfl
@[simp] theorem State.modLine_combiner (s : State) (f : Line → Line) : (s.modLine f).combiner = s.combiner := rfl
@[simp] theorem State.modLine_line (s : State) (f : Line → Line) : (s.modLine f).line = f s.line := rfl
@[simp] theorem State.modLine_bells (s : State) (f : Line → Line) : (s.modLine f).bells = s.bells := rfl
@[simp] theorem State.modLine_blocks (s : State) (f : Line → Line) : (s.modLine f).blocks = s.blocks := rfl
@[simp] theorem State.modLine_switching (s : State) (f : Line → Line) : (s.modLine f).switching = s.switching := rfl
@[simp] theorem State.modLine_port (s : State) (f : Line → Line) : (s.modLine f).port = s.port := rfl
@[simp] theorem State.modLine_freeCount (s : State) (f : Line → Line) : (s.modLine f).freeCount = s.freeCount := rfl
@[simp] theorem State.modLine_pending (s : State) (f : Line → Line) : (s.modLine f).pending = s.pending := rfl

/-! ### modBell -/

@[simp] theorem State.modBell_now (s : State) (i : EndNo) (f : Bell → Bell) : (s.modBell i f).now = s.now := rfl
@[simp] theorem State.modBell_underReset (s : State) (i : EndNo) (f : Bell → Bell) : (s.modBell i f).underReset = s.underReset := rfl
@[simp] theorem State.modBell_loader (s : State) (i : EndNo) (f : Bell → Bell) : (s.modBell i f).loader = s.loader := rfl
@[simp] theorem State.modBell_cfg (s : State) (i : EndNo) (f : Bell → Bell) : (s.modBell i f).cfg = s.cfg := rfl
@[simp] theorem State.modBell_levers (s : State) (i : EndNo) (f : Bell → Bell) : (s.modBell i f).levers = s.levers := rfl
@[simp] theorem State.modBell_evaluator (s : State) (i : EndNo) (f : Bell → Bell) : (s.modBell i f).evaluator = s.evaluator := rfl
@[simp] theorem State.modBell_track (s : State) (i : EndNo) (f : Bell → Bell) : (s.modBell i f).track = s.track := rfl
@[simp] theorem State.modBell_heads (s : State) (i : EndNo) (f : Bell → Bell) : (s.modBell i f).heads = s.heads := rfl
@[simp] theorem State.modBell_sects (s : State) (i : EndNo) (f : Bell → Bell) : (s.modBell i f).sects = s.sects := rfl
@[simp] theorem State.modBell_combiner (s : State) (i : EndNo) (f : Bell → Bell) : (s.modBell i f).combiner = s.combiner := rfl
@[simp] theorem State.modBell_line (s : State) (i : EndNo) (f : Bell → Bell) : (s.modBell i f).line = s.line := rfl
@[simp] theorem State.modBell_bells (s : State) (i : EndNo) (f : Bell → Bell) : (s.modBell i f).bells = upd s.bells i f := rfl
@[simp] theorem State.modBell_blocks (s : State) (i : EndNo) (f : Bell → Bell) : (s.modBell i f).blocks = s.blocks := rfl
@[simp] theorem State.modBell_switching (s : State) (i : EndNo) (f : Bell → Bell) : (s.modBell i f).switching = s.switching := rfl
@[simp] theorem State.modBell_port (s : State) (i : EndNo) (f : Bell → Bell) : (s.modBell i f).port = s.port := rfl
@[simp] theorem State.modBell_freeCount (s : State) (i : EndNo) (f : Bell → Bell) : (s.modBell i f).freeCount = s.freeCount := rfl
@[simp] theorem State.modBell_pending (s : State) (i : EndNo) (f : Bell → Bell) : (s.modBell i f).pending = s.pending := rfl

/-! ### modBlock -/

@[simp] theorem State.modBlock_now (s : State) (i : EndNo) (f : BlockEnd → BlockEnd) : (s.modBlock i f).now = s.now := rfl
@[simp] theorem State.modBlock_underReset (s : State) (i : EndNo) (f : BlockEnd → BlockEnd) : (s.modBlock i f).underReset = s.underReset := rfl
@[simp] theorem State.modBlock_loader (s : State) (i : EndNo) (f : BlockEnd → BlockEnd) : (s.modBlock i f).loader = s.loader := rfl
@[simp] theorem State.modBlock_cfg (s : State) (i : EndNo) (f : BlockEnd → BlockEnd) : (s.modBlock i f).cfg = s.cfg := rfl
@[simp] theorem State.modBlock_levers (s : State) (i : EndNo) (f : BlockEnd → BlockEnd) : (s.modBlock i f).levers = s.levers := rfl
@[simp] theorem State.modBlock_evaluator (s : State) (i : EndNo) (f : BlockEnd → BlockEnd) : (s.modBlock i f).evaluator = s.evaluator := rfl
@[simp] theorem State.modBlock_track (s : State) (i : EndNo) (f : BlockEnd → BlockEnd) : (s.modBlock i f).track = s.track := rfl
@[simp] theorem State.modBlock_heads (s : State) (i : EndNo) (f : BlockEnd → BlockEnd) : (s.modBlock i f).heads = s.heads := rfl
@[simp] theorem State.modBlock_sects (s : State) (i : EndNo) (f : BlockEnd → BlockEnd) : (s.modBlock i f).sects = s.sects := rfl
@[simp] theorem State.modBlock_combiner (s : State) (i : EndNo) (f : BlockEnd → BlockEnd) : (s.modBlock i f).combiner = s.combiner := rfl
@[simp] theorem State.modBlock_line (s : State) (i : EndNo) (f : BlockEnd → BlockEnd) : (s.modBlock i f).line = s.line := rfl
@[simp] theorem State.modBlock_bells (s : State) (i : EndNo) (f : BlockEnd → BlockEnd) : (s.modBlock i f).bells = s.bells := rfl
@[simp] theorem State.modBlock_blocks (s : State) (i : EndNo) (f : BlockEnd → BlockEnd) : (s.modBlock i f).blocks = upd s.blocks i f := rfl
@[simp] theorem State.modBlock_switching (s : State) (i : EndNo) (f : BlockEnd → BlockEnd) : (s.modBlock i f).switching = s.switching := rfl
@[simp] theorem State.modBlock_port (s : State) (i : EndNo) (f : BlockEnd → BlockEnd) : (s.modBlock i f).port = s.port := rfl
@[simp] theorem State.modBlock_freeCount (s : State) (i : EndNo) (f : BlockEnd → BlockEnd) : (s.modBlock i f).freeCount = s.freeCount := rfl
@[simp] theorem State.modBlock_pending (s : State) (i : EndNo) (f : BlockEnd → BlockEnd) : (s.modBlock i f).pending = s.pending := rfl

/-! ### modSwitching -/

@[simp] theorem State.modSwitching_now (s : State) (f : Switching → Switching) : (s.modSwitching f).now = s.now := rfl
@[simp] theorem State.modSwitching_underReset (s : State) (f : Switching → Switching) : (s.modSwitching f).underReset = s.underReset := rfl
@[simp] theorem State.modSwitching_loader (s : State) (f : Switching → Switching) : (s.modSwitching f).loader = s.loader := rfl
@[simp] theorem State.modSwitching_cfg (s : State) (f : Switching → Switching) : (s.modSwitching f).cfg = s.cfg := rfl
@[simp] theorem State.modSwitching_levers (s : State) (f : Switching → Switching) : (s.modSwitching f).levers = s.levers := rfl
@[simp] theorem State.modSwitching_evaluator (s : State) (f : Switching → Switching) : (s.modSwitching f).evaluator = s.evaluator := rfl
@[simp] theorem State.modSwitching_track (s : State) (f : Switching → Switching) : (s.modSwitching f).track = s.track := rfl
@[simp] theorem State.modSwitching_heads (s : State) (f : Switching → Switching) : (s.modSwitching f).heads = s.heads := rfl
@[simp] theorem State.modSwitching_sects (s : State) (f : Switching → Switching) : (s.modSwitching f).sects = s.sects := rfl
@[simp] theorem State.modSwitching_combiner (s : State) (f : Switching → Switching) : (s.modSwitching f).combiner = s.combiner := rfl
@[simp] theorem State.modSwitching_line (s : State) (f : Switching → Switching) : (s.modSwitching f).line = s.line := rfl
@[simp] theorem State.modSwitching_bells (s : State) (f : Switching → Switching) : (s.modSwitching f).bells = s.bells := rfl
@[simp] theorem State.modSwitching_blocks (s : State) (f : Switching → Switching) : (s.modSwitching f).blocks = s.blocks := rfl
@[simp] theorem State.modSwitching_switching (s : State) (f : Switching → Switching) : (s.modSwitching f).switching = f s.switching := rfl
@[simp] theorem State.modSwitching_port (s : State) (f : Switching → Switching) : (s.modSwitching f).port = s.port := rfl
@[simp] theorem State.modSwitching_freeCount (s : State) (f : Switching → Switching) : (s.modSwitching f).freeCount = s.freeCount := rfl
@[simp] theorem State.modSwitching_pending (s : State) (f : Switching → Switching) : (s.modSwitching f).pending = s.pending := rfl

/-! ### modPort -/

@[simp] theorem State.modPort_now (s : State) (f : Port → Port) : (s.modPort f).now = s.now := rfl
@[simp] theorem State.modPort_underReset (s : State) (f : Port → Port) : (s.modPort f).underReset = s.underReset := rfl
@[simp] theorem State.modPort_loader (s : State) (f : Port → Port) : (s.modPort f).loader = s.loader := rfl
@[simp] theorem State.modPort_cfg (s : State) (f : Port → Port) : (s.modPort f).cfg = s.cfg := rfl
@[simp] theorem State.modPort_levers (s : State) (f : Port → Port) : (s.modPort f).levers = s.levers := rfl
@[simp] theorem State.modPort_evaluator (s : State) (f : Port → Port) : (s.modPort f).evaluator = s.evaluator := rfl
@[simp] theorem State.modPort_track (s : State) (f : Port → Port) : (s.modPort f).track = s.track := rfl
@[simp] theorem State.modPort_heads (s : State) (f : Port → Port) : (s.modPort f).heads = s.heads := rfl
@[simp] theorem State.modPort_sects (s : State) (f : Port → Port) : (s.modPort f).sects = s.sects := rfl
@[simp] theorem State.modPort_combiner (s : State) (f : Port → Port) : (s.modPort f).combiner = s.combiner := rfl
@[simp] theorem State.modPort_line (s : State) (f : Port → Port) : (s.modPort f).line = s.line := rfl
@[simp] theorem State.modPort_bells (s : State) (f : Port → Port) : (s.modPort f).bells = s.bells := rfl
@[simp] theorem State.modPort_blocks (s : State) (f : Port → Port) : (s.modPort f).blocks = s.blocks := rfl
@[simp] theorem State.modPort_switching (s : State) (f : Port → Port) : (s.modPort f).switching = s.switching := rfl
@[simp] theorem State.modPort_port (s : State) (f : Port → Port) : (s.modPort f).port = f s.port := rfl
@[simp] theorem State.modPort_freeCount (s : State) (f : Port → Port) : (s.modPort f).freeCount = s.freeCount := rfl
@[simp] theorem State.modPort_pending (s : State) (f : Port → Port) : (s.modPort f).pending = s.pending := rfl

end Sys2Proof.Machine
end

