-- ==== Sys2Proof/Laws/Frame.lean ====
section
/-! SUPPORT. The frame of the operations the blocks share: none of them touches time, reset, the part state, the image, the levers, the
channels, the heads or the commands that wait. One lemma per operation, on `State.base`. -/

namespace Sys2Proof.Machine

/-- What the shared operations leave alone. -/
structure Base where
  now : Time
  underReset : Bool
  loader : Loader
  cfg : Image
  levers : Vector Lever 32
  track : Track
  heads : Vector Head 4
  pending : List Instr

/-- The base of a state. -/
def State.base (s : State) : Base := ⟨s.now, s.underReset, s.loader, s.cfg, s.levers, s.track, s.heads, s.pending⟩

theorem State.base_eq {s t : State} (h : t.base = s.base) :
    t.now = s.now ∧ t.underReset = s.underReset ∧ t.loader = s.loader ∧ t.cfg = s.cfg ∧ t.levers = s.levers ∧ t.track = s.track ∧
      t.heads = s.heads ∧ t.pending = s.pending := by
  injections
  simp_all

theorem State.sameFrame_of_base {s t : State} (h : t.base = s.base) :
    t.now = s.now ∧ t.underReset = s.underReset ∧ t.loader = s.loader ∧ t.cfg = s.cfg ∧ t.pending = s.pending := by
  have := State.base_eq h
  simp_all

/-! ### The named updates -/

@[simp] theorem modEvaluator_base (s : State) (f) : (s.modEvaluator f).base = s.base := rfl
@[simp] theorem modSect_base (s : State) (c f) : (s.modSect c f).base = s.base := rfl
@[simp] theorem modCombiner_base (s : State) (f) : (s.modCombiner f).base = s.base := rfl
@[simp] theorem modLine_base (s : State) (f) : (s.modLine f).base = s.base := rfl
@[simp] theorem modBell_base (s : State) (e f) : (s.modBell e f).base = s.base := rfl
@[simp] theorem modBlock_base (s : State) (e f) : (s.modBlock e f).base = s.base := rfl
@[simp] theorem modSwitching_base (s : State) (f) : (s.modSwitching f).base = s.base := rfl
@[simp] theorem modPort_base (s : State) (f) : (s.modPort f).base = s.base := rfl
@[simp] theorem freeCount_base (s : State) (n) : ({ s with freeCount := n } : State).base = s.base := rfl

/-! ### The shared operations -/

@[simp] theorem append_base (s : State) (r) : (s.append r).base = s.base := by
  simp only [State.append]
  simp

@[simp] theorem judgeProposal_base (s : State) : (s.judgeProposal).base = s.base := by
  simp only [State.judgeProposal]
  (repeat' split) <;> simp

@[simp] theorem evaluate_base (s : State) (f) : (s.evaluate f).base = s.base := by
  simp only [State.evaluate]
  (repeat' split) <;> simp

@[simp] theorem reportPosition_base (s : State) (i) : (s.reportPosition i).base = s.base := by
  simp only [State.reportPosition]
  simp

@[simp] theorem reportDetection_base (s : State) (d) : (s.reportDetection d).base = s.base := by
  simp only [State.reportDetection]
  simp

@[simp] theorem reportBlock_base (s : State) (e) : (s.reportBlock e).base = s.base := by
  simp only [State.reportBlock]
  simp

@[simp] theorem reportCount_base (s : State) (c) : (s.reportCount c).base = s.base := by
  simp only [State.reportCount]
  simp

@[simp] theorem judgeDetection_base (s : State) (d) : (s.judgeDetection d).base = s.base := by
  simp only [State.judgeDetection]
  (repeat' split) <;> simp

theorem foldl_base {α : Type} (l : List α) (f : State → α → State) (h : ∀ s a, (f s a).base = s.base) (s : State) :
    (l.foldl f s).base = s.base := by
  induction l generalizing s with
  | nil => rfl
  | cons a l ih => rw [List.foldl_cons, ih, h]

@[simp] theorem judgeDetections_base (s : State) (names) : (s.judgeDetections names).base = s.base :=
  foldl_base _ _ (fun s d => by split <;> simp) s

@[simp] theorem reportChannel_base (s : State) (c) : (s.reportChannel c).base = s.base := by
  simp only [State.reportChannel]
  simp

@[simp] theorem reportCountToCombiner_base (s : State) (c) : (s.reportCountToCombiner c).base = s.base := by
  simp only [State.reportCountToCombiner]
  simp

@[simp] theorem raiseStatus_base (s : State) (e) : (s.raiseStatus e).base = s.base := by
  simp only [State.raiseStatus]
  (repeat' split) <;> simp

@[simp] theorem serveOwed_base (s : State) (e) : (s.serveOwed e).base = s.base := by
  simp only [State.serveOwed]
  simp

@[simp] theorem serveFirstOwed_base (s : State) : (s.serveFirstOwed).base = s.base := by
  simp only [State.serveFirstOwed]
  (repeat' split) <;> simp

@[simp] theorem clearOffer_base (s : State) (e) : (s.clearOffer e).base = s.base := by
  simp only [State.clearOffer]
  simp

@[simp] theorem blockRecord_base (s : State) (e old cause op) : (s.blockRecord e old cause op).base = s.base := by
  simp only [State.blockRecord]
  simp

@[simp] theorem refuseOperation_base (s : State) (e cause op) : (s.refuseOperation e cause op).base = s.base := by
  simp only [State.refuseOperation]
  simp

@[simp] theorem reportStateToSwitching_base (s : State) (e) : (s.reportStateToSwitching e).base = s.base := by
  simp only [State.reportStateToSwitching]
  (repeat' split) <;> simp

@[simp] theorem reportEndChange_base (s : State) (e old cause) : (s.reportEndChange e old cause).base = s.base := by
  simp only [State.reportEndChange]
  (repeat' split) <;> simp

@[simp] theorem changeEnd_base (s : State) (e st rel cause) : (s.changeEnd e st rel cause).base = s.base := by
  simp only [State.changeEnd]
  (repeat' split) <;> simp

@[simp] theorem setRefusal_base (s : State) (e r) : (s.setRefusal e r).base = s.base := by
  simp only [State.setRefusal]
  simp

@[simp] theorem starterLeft_base (s : State) (e) : (s.starterLeft e).base = s.base := by
  simp only [State.starterLeft]
  (repeat' split) <;> simp

@[simp] theorem starterReturned_base (s : State) (e) : (s.starterReturned e).base = s.base := by
  simp only [State.starterReturned]
  (repeat' split) <;> simp

@[simp] theorem trainEntry_base (s : State) (e) : (s.trainEntry e).base = s.base := by
  simp only [State.trainEntry]
  (repeat' split) <;> simp

@[simp] theorem suspendRelease_base (s : State) (e) : (s.suspendRelease e).base = s.base := by
  simp only [State.suspendRelease]
  (repeat' split) <;> simp

@[simp] theorem obstruct_base (s : State) (e) : (s.obstruct e).base = s.base := by
  simp only [State.obstruct]
  (repeat' split) <;> simp

@[simp] theorem unobstruct_base (s : State) (e) : (s.unobstruct e).base = s.base := by
  simp only [State.unobstruct]
  (repeat' split) <;> simp

@[simp] theorem reportSect_base (s : State) (s0 c) : (s.reportSect s0 c).base = s.base := by
  simp only [State.reportSect]
  (repeat' split) <;> simp

@[simp] theorem changeSect_base (s : State) (c f) : (s.changeSect c f).base = s.base := by
  simp only [State.changeSect]
  simp

@[simp] theorem resetRecord_base (s : State) (s0 c o) : (s.resetRecord s0 c o).base = s.base := by
  simp only [State.resetRecord]
  simp

@[simp] theorem takeNet_base (s : State) (e net b) : (s.takeNet e net b).base = s.base := by
  simp only [State.takeNet]
  (repeat' split) <;> simp

@[simp] theorem endPending_base (s : State) (s0 c o) : (s.endPending s0 c o).base = s.base := by
  simp only [State.endPending]
  (repeat' split) <;> simp

@[simp] theorem rePairSect_base (s : State) (e) : (s.rePairSect e).base = s.base := by
  simp only [State.rePairSect]
  (repeat' split) <;> simp

@[simp] theorem sectLinkLost_base (s : State) (e) : (s.sectLinkLost e).base = s.base := by
  simp only [State.sectLinkLost]
  (repeat' split) <;> simp

@[simp] theorem requestUndelivered_base (s : State) (e n) : (s.requestUndelivered e n).base = s.base := by
  simp only [State.requestUndelivered]
  (repeat' split) <;> simp

@[simp] theorem confirmUndelivered_base (s : State) (e n) : (s.confirmUndelivered e n).base = s.base := by
  simp only [State.confirmUndelivered]
  (repeat' split) <;> simp

@[simp] theorem confirmDelivered_base (s : State) (e n) : (s.confirmDelivered e n).base = s.base := by
  simp only [State.confirmDelivered]
  (repeat' split) <;> simp

@[simp] theorem reportEvicted_base (s : State) (f) : (s.reportEvicted f).base = s.base := by
  simp only [State.reportEvicted]
  (repeat' split) <;> simp

@[simp] theorem request_base (s : State) (k e dest payload) : (s.request k e dest payload).base = s.base := by
  simp only [State.request]
  (repeat' split) <;> simp

@[simp] theorem requestOutstanding_base (s : State) (e o payload) : (s.requestOutstanding e o payload).base = s.base := by
  simp only [State.requestOutstanding]
  (repeat' split) <;> simp

@[simp] theorem switchRecord_base (s : State) (k d o r c) : (s.switchRecord k d o r c).base = s.base := by
  simp only [State.switchRecord]
  (repeat' split) <;> simp

@[simp] theorem requestSwitch_base (s : State) (k e payload) : (s.requestSwitch k e payload).base = s.base := by
  simp only [State.requestSwitch]
  simp

@[simp] theorem sendAbandon_base (s : State) (d e b) : (s.sendAbandon d e b).base = s.base := by
  simp only [State.sendAbandon]
  (repeat' split) <;> simp

@[simp] theorem abandon_base (s : State) (cause r k) : (s.abandon cause r k).base = s.base := by
  simp only [State.abandon]
  (repeat' split) <;> simp

@[simp] theorem settle_base (s : State) : (s.settle).base = s.base := by
  simp only [State.settle]
  (repeat' split) <;> simp

@[simp] theorem sendCode_base (s : State) (e r) : (s.sendCode e r).base = s.base := by
  simp only [State.sendCode]
  (repeat' split) <;> simp

@[simp] theorem formOutbound_base (s : State) (e r) : (s.formOutbound e r).base = s.base := by
  simp only [State.formOutbound]
  (repeat' split) <;> simp

@[simp] theorem endCode_base (s : State) (e t p) : (s.endCode e t p).base = s.base := by
  simp only [State.endCode]
  simp

@[simp] theorem parseStrike_base (s : State) (e) : (s.parseStrike e).base = s.base := by
  simp only [State.parseStrike]
  (repeat' split) <;> simp

@[simp] theorem strike_base (s : State) (e) : (s.strike e).base = s.base := by
  simp only [State.strike]
  simp

@[simp] theorem sendBeat_base (s : State) (e iv held) : (s.sendBeat e iv held).base = s.base := by
  simp only [State.sendBeat]
  (repeat' split) <;> simp

@[simp] theorem completeStrike_base (s : State) (e held) : (s.completeStrike e held).base = s.base := by
  simp only [State.completeStrike]
  (repeat' split) <;> simp

@[simp] theorem settleTapper_base (s : State) (e) : (s.settleTapper e).base = s.base := by
  simp only [State.settleTapper]
  simp

@[simp] theorem tapperStrike_base (s : State) (e) : (s.tapperStrike e).base = s.base := by
  simp only [State.tapperStrike]
  (repeat' split) <;> simp

@[simp] theorem tapperRelease_base (s : State) (e) : (s.tapperRelease e).base = s.base := by
  simp only [State.tapperRelease]
  (repeat' split) <;> simp

@[simp] theorem quietTimerExpiry_base (s : State) (e) : (s.quietTimerExpiry e).base = s.base := by
  simp only [State.quietTimerExpiry]
  (repeat' split) <;> simp

@[simp] theorem heldTimerExpiry_base (s : State) (e) : (s.heldTimerExpiry e).base = s.base := by
  simp only [State.heldTimerExpiry]
  (repeat' split) <;> simp

@[simp] theorem codeTimerExpiry_base (s : State) (e) : (s.codeTimerExpiry e).base = s.base := by
  simp only [State.codeTimerExpiry]
  (repeat' split) <;> simp

@[simp] theorem bellInactive_base (s : State) (e) : (s.bellInactive e).base = s.base := by
  simp only [State.bellInactive]
  (repeat' split) <;> simp

@[simp] theorem flushPlayout_base (s : State) (e) : (s.flushPlayout e).base = s.base := by
  simp only [State.flushPlayout]
  simp

@[simp] theorem actOnCode_base (s : State) (e k n) : (s.actOnCode e k n).base = s.base := by
  simp only [State.actOnCode]
  (repeat' split) <;> simp

@[simp] theorem codeTaken_base (s : State) (e p) : (s.codeTaken e p).base = s.base := by
  simp only [State.codeTaken]
  (repeat' split) <;> simp

@[simp] theorem beatTaken_base (s : State) (e p) : (s.beatTaken e p).base = s.base := by
  simp only [State.beatTaken]
  (repeat' split) <;> simp

@[simp] theorem beatDue_base (s : State) (e) : (s.beatDue e).base = s.base := by
  simp only [State.beatDue]
  (repeat' split) <;> simp

@[simp] theorem strikeEnd_base (s : State) (e) : (s.strikeEnd e).base = s.base := by
  simp only [State.strikeEnd]
  (repeat' split) <;> simp

@[simp] theorem offerHoldExpiry_base (s : State) (e) : (s.offerHoldExpiry e).base = s.base := by
  simp only [State.offerHoldExpiry]
  (repeat' split) <;> simp

@[simp] theorem queueCount_base (s : State) (c) : (s.queueCount c).base = s.base := by
  simp only [State.queueCount]
  (repeat' split) <;> simp

@[simp] theorem refusePress_base (s : State) (c o) : (s.refusePress c o).base = s.base := by
  simp only [State.refusePress]
  simp

@[simp] theorem startRequest_base (s : State) (c e) : (s.startRequest c e).base = s.base := by
  simp only [State.startRequest]
  (repeat' split) <;> simp

@[simp] theorem confirmReset_base (s : State) (c e n o) : (s.confirmReset c e n o).base = s.base := by
  simp only [State.confirmReset]
  simp

@[simp] theorem confirmHeld_base (s : State) (c e) : (s.confirmHeld c e).base = s.base := by
  simp only [State.confirmHeld]
  (repeat' split) <;> simp

@[simp] theorem pressKey_base (s : State) (c) : (s.pressKey c).base = s.base := by
  simp only [State.pressKey]
  (repeat' split) <;> simp

@[simp] theorem settleKey_base (s : State) (c) : (s.settleKey c).base = s.base := by
  simp only [State.settleKey]
  simp

@[simp] theorem countResetKeyPress_base (s : State) (c) : (s.countResetKeyPress c).base = s.base := by
  simp only [State.countResetKeyPress]
  (repeat' split) <;> simp

@[simp] theorem requestTaken_base (s : State) (e) : (s.requestTaken e).base = s.base := by
  simp only [State.requestTaken]
  (repeat' split) <;> simp

@[simp] theorem confirmTaken_base (s : State) (e) : (s.confirmTaken e).base = s.base := by
  simp only [State.confirmTaken]
  (repeat' split) <;> simp

@[simp] theorem resetRequestWindowExpiry_base (s : State) (c) : (s.resetRequestWindowExpiry c).base = s.base := by
  simp only [State.resetRequestWindowExpiry]
  (repeat' split) <;> simp

@[simp] theorem heldRequestWindowExpiry_base (s : State) (c) : (s.heldRequestWindowExpiry c).base = s.base := by
  simp only [State.heldRequestWindowExpiry]
  (repeat' split) <;> simp

@[simp] theorem moveSects_base (s : State) (h f) : (s.moveSects h f).base = s.base :=
  rfl

@[simp] theorem reportSects_base (s : State) (s0 h) : (s.reportSects s0 h).base = s.base :=
  foldl_base _ _ (fun s c => by simp) s

@[simp] theorem disturbSects_base (s : State) (h) : (s.disturbSects h).base = s.base := by
  simp only [State.disturbSects]
  simp

@[simp] theorem applyWheel_base (s : State) (h up) : (s.applyWheel h up).base = s.base := by
  simp only [State.applyWheel]
  rw [foldl_base _ _ (fun s c => by simp)]
  simp

@[simp] theorem linkRecord_base (s : State) (e b n) : (s.linkRecord e b n).base = s.base := by
  simp only [State.linkRecord]
  (repeat' split) <;> simp

@[simp] theorem reportLinkLost_base (s : State) (e) : (s.reportLinkLost e).base = s.base := by
  simp only [State.reportLinkLost]
  simp

@[simp] theorem setLink_base (s : State) (e b n) : (s.setLink e b n).base = s.base := by
  simp only [State.setLink]
  (repeat' split) <;> simp

@[simp] theorem judgeLink_base (s : State) (e m n) : (s.judgeLink e m n).base = s.base := by
  simp only [State.judgeLink]
  (repeat' split) <;> simp

@[simp] theorem orderState_base (s : State) (e st) : (s.orderState e st).base = s.base := by
  simp only [State.orderState]
  (repeat' split) <;> simp

@[simp] theorem orderPairing_base (s : State) (e b) : (s.orderPairing e b).base = s.base := by
  simp only [State.orderPairing]
  simp

@[simp] theorem releaseEnd_base (s : State) (e) : (s.releaseEnd e).base = s.base := by
  simp only [State.releaseEnd]
  (repeat' split) <;> simp

@[simp] theorem orderBoth_base (s : State) (st) : (s.orderBoth st).base = s.base := by
  simp only [State.orderBoth]
  simp

@[simp] theorem rePairBoth_base (s : State) : (s.rePairBoth).base = s.base := by
  simp only [State.rePairBoth]
  simp

@[simp] theorem longAtStart_base (s : State) (e) : (s.longAtStart e).base = s.base := by
  simp only [State.longAtStart]
  (repeat' split) <;> simp

@[simp] theorem settleSwitch_base (s : State) (e) : (s.settleSwitch e).base = s.base := by
  simp only [State.settleSwitch]
  simp

@[simp] theorem settleTos_base (s : State) (e) : (s.settleTos e).base = s.base := by
  simp only [State.settleTos]
  simp

@[simp] theorem settleCancel_base (s : State) (e) : (s.settleCancel e).base = s.base := by
  simp only [State.settleCancel]
  simp

@[simp] theorem acceptRefused_base (s : State) (e n r m) : (s.acceptRefused e n r m).base = s.base := by
  simp only [State.acceptRefused]
  simp

@[simp] theorem sendAccept_base (s : State) (e n) : (s.sendAccept e n).base = s.base := by
  simp only [State.sendAccept]
  simp

@[simp] theorem judgeAccept_base (s : State) (e) : (s.judgeAccept e).base = s.base := by
  simp only [State.judgeAccept]
  (repeat' split) <;> simp

@[simp] theorem blockSwitchToAccept_base (s : State) (e) : (s.blockSwitchToAccept e).base = s.base := by
  simp only [State.blockSwitchToAccept]
  (repeat' split) <;> simp

@[simp] theorem giveUpAcceptance_base (s : State) (e c) : (s.giveUpAcceptance e c).base = s.base := by
  simp only [State.giveUpAcceptance]
  simp

@[simp] theorem judgeNormal_base (s : State) (e) : (s.judgeNormal e).base = s.base := by
  simp only [State.judgeNormal]
  (repeat' split) <;> simp

@[simp] theorem blockSwitchToNormal_base (s : State) (e) : (s.blockSwitchToNormal e).base = s.base := by
  simp only [State.blockSwitchToNormal]
  (repeat' split) <;> simp

@[simp] theorem acceptanceTimerExpiry_base (s : State) (e) : (s.acceptanceTimerExpiry e).base = s.base := by
  simp only [State.acceptanceTimerExpiry]
  (repeat' split) <;> simp

@[simp] theorem pressTos_base (s : State) (e) : (s.pressTos e).base = s.base := by
  simp only [State.pressTos]
  (repeat' split) <;> simp

@[simp] theorem tosPlungerPress_base (s : State) (e) : (s.tosPlungerPress e).base = s.base := by
  simp only [State.tosPlungerPress]
  (repeat' split) <;> simp

@[simp] theorem cancelEnd_base (s : State) (e c) : (s.cancelEnd e c).base = s.base := by
  simp only [State.cancelEnd]
  simp

@[simp] theorem pressCancel_base (s : State) (e) : (s.pressCancel e).base = s.base := by
  simp only [State.pressCancel]
  (repeat' split) <;> simp

@[simp] theorem cancelPlungerPress_base (s : State) (e) : (s.cancelPlungerPress e).base = s.base := by
  simp only [State.cancelPlungerPress]
  (repeat' split) <;> simp

@[simp] theorem cancellationTimerExpiry_base (s : State) (e) : (s.cancellationTimerExpiry e).base = s.base := by
  simp only [State.cancellationTimerExpiry]
  (repeat' split) <;> simp

@[simp] theorem plungerOrKeyRelease_base (s : State) (x) : (s.plungerOrKeyRelease x).base = s.base := by
  simp only [State.plungerOrKeyRelease]
  (repeat' split) <;> simp

@[simp] theorem refusalMarkExpiry_base (s : State) (e) : (s.refusalMarkExpiry e).base = s.base := by
  simp only [State.refusalMarkExpiry]
  (repeat' split) <;> simp

@[simp] theorem grant_base (s : State) (e n c) : (s.grant e n c).base = s.base := by
  simp only [State.grant]
  simp

@[simp] theorem refuseAccept_base (s : State) (e r n) : (s.refuseAccept e r n).base = s.base := by
  simp only [State.refuseAccept]
  simp

@[simp] theorem crossedAccept_base (s : State) (e m n) : (s.crossedAccept e m n).base = s.base := by
  simp only [State.crossedAccept]
  (repeat' split) <;> simp

@[simp] theorem acceptTaken_base (s : State) (e m n) : (s.acceptTaken e m n).base = s.base := by
  simp only [State.acceptTaken]
  (repeat' split) <;> simp

@[simp] theorem withdrawTaken_base (s : State) (e) : (s.withdrawTaken e).base = s.base := by
  simp only [State.withdrawTaken]
  (repeat' split) <;> simp

@[simp] theorem tosTaken_base (s : State) (e) : (s.tosTaken e).base = s.base := by
  simp only [State.tosTaken]
  (repeat' split) <;> simp

@[simp] theorem cancelTaken_base (s : State) (e) : (s.cancelTaken e).base = s.base := by
  simp only [State.cancelTaken]
  (repeat' split) <;> simp

@[simp] theorem markMismatch_base (s : State) (e f) : (s.markMismatch e f).base = s.base := by
  simp only [State.markMismatch]
  (repeat' split) <;> simp

@[simp] theorem clearMismatch_base (s : State) (e) : (s.clearMismatch e).base = s.base := by
  simp only [State.clearMismatch]
  simp

@[simp] theorem actOnStatus_base (s : State) (e f) : (s.actOnStatus e f).base = s.base := by
  simp only [State.actOnStatus]
  (repeat' split) <;> simp

@[simp] theorem compareStatus_base (s : State) (e f) : (s.compareStatus e f).base = s.base := by
  simp only [State.compareStatus]
  (repeat' split) <;> simp

@[simp] theorem answerAccepting_base (s : State) (e f) : (s.answerAccepting e f).base = s.base := by
  simp only [State.answerAccepting]
  (repeat' split) <;> simp

@[simp] theorem adoptStatus_base (s : State) (e f) : (s.adoptStatus e f).base = s.base := by
  simp only [State.adoptStatus]
  (repeat' split) <;> simp

@[simp] theorem statusTaken_base (s : State) (e f) : (s.statusTaken e f).base = s.base := by
  simp only [State.statusTaken]
  (repeat' split) <;> simp

@[simp] theorem clearOutstanding_base (s : State) (e n) : (s.clearOutstanding e n).base = s.base := by
  simp only [State.clearOutstanding]
  (repeat' split) <;> simp

@[simp] theorem blockDelivered_base (s : State) (e n) : (s.blockDelivered e n).base = s.base := by
  simp only [State.blockDelivered]
  (repeat' split) <;> simp

@[simp] theorem blockUndelivered_base (s : State) (e n) : (s.blockUndelivered e n).base = s.base := by
  simp only [State.blockUndelivered]
  (repeat' split) <;> simp

@[simp] theorem refuseLocally_base (s : State) (d r k) : (s.refuseLocally d r k).base = s.base := by
  simp only [State.refuseLocally]
  simp

@[simp] theorem formProposal_base (s : State) (d) : (s.formProposal d).base = s.base := by
  simp only [State.formProposal]
  simp

@[simp] theorem sendProposals_base (s : State) (d) : (s.sendProposals d).base = s.base := by
  simp only [State.sendProposals]
  (repeat' split) <;> simp

@[simp] theorem proposeOut_base (s : State) : (s.proposeOut).base = s.base := by
  simp only [State.proposeOut]
  (repeat' split) <;> simp

@[simp] theorem proposeIn_base (s : State) : (s.proposeIn).base = s.base := by
  simp only [State.proposeIn]
  (repeat' split) <;> simp

@[simp] theorem markCommit_base (s : State) (b m) : (s.markCommit b m).base = s.base := by
  simp only [State.markCommit]
  (repeat' split) <;> simp

@[simp] theorem sendCommits_base (s : State) (d) : (s.sendCommits d).base = s.base := by
  simp only [State.sendCommits]
  (repeat' split) <;> simp

@[simp] theorem judgeDrain_base (s : State) : (s.judgeDrain).base = s.base := by
  simp only [State.judgeDrain]
  (repeat' split) <;> simp

@[simp] theorem markAgreed_base (s : State) (e) : (s.markAgreed e).base = s.base := by
  simp only [State.markAgreed]
  simp

@[simp] theorem agreeTaken_base (s : State) (e d n) : (s.agreeTaken e d n).base = s.base := by
  simp only [State.agreeTaken]
  (repeat' split) <;> simp

@[simp] theorem refuseTaken_base (s : State) (e d m n) : (s.refuseTaken e d m n).base = s.base := by
  simp only [State.refuseTaken]
  (repeat' split) <;> simp

@[simp] theorem formHold_base (s : State) (e d n) : (s.formHold e d n).base = s.base := by
  simp only [State.formHold]
  simp

@[simp] theorem proposeTaken_base (s : State) (e d n p) : (s.proposeTaken e d n p).base = s.base := by
  simp only [State.proposeTaken]
  (repeat' split) <;> simp

@[simp] theorem dropHold_base (s : State) : (s.dropHold).base = s.base := by
  simp only [State.dropHold]
  simp

@[simp] theorem commitTaken_base (s : State) (e d n) : (s.commitTaken e d n).base = s.base := by
  simp only [State.commitTaken]
  (repeat' split) <;> simp

@[simp] theorem abandonTaken_base (s : State) (e d n) : (s.abandonTaken e d n).base = s.base := by
  simp only [State.abandonTaken]
  (repeat' split) <;> simp

@[simp] theorem actOnSwitching_base (s : State) (e d f) : (s.actOnSwitching e d f).base = s.base := by
  simp only [State.actOnSwitching]
  (repeat' split) <;> simp

@[simp] theorem strayDirection_base (s : State) (e n f) : (s.strayDirection e n f).base = s.base := by
  simp only [State.strayDirection]
  (repeat' split) <;> simp

@[simp] theorem switchingTaken_base (s : State) (f) : (s.switchingTaken f).base = s.base := by
  simp only [State.switchingTaken]
  (repeat' split) <;> simp

@[simp] theorem revertFarDirect_base (s : State) (f) : (s.revertFarDirect f).base = s.base := by
  simp only [State.revertFarDirect]
  (repeat' split) <;> simp

@[simp] theorem recordOverheard_base (s : State) (f) : (s.recordOverheard f).base = s.base := by
  simp only [State.recordOverheard]
  (repeat' split) <;> simp

@[simp] theorem commitUndelivered_base (s : State) (e n) : (s.commitUndelivered e n).base = s.base := by
  simp only [State.commitUndelivered]
  (repeat' split) <;> simp

@[simp] theorem moveKey_base (s : State) (k) : (s.moveKey k).base = s.base := by
  simp only [State.moveKey]
  (repeat' split) <;> simp

@[simp] theorem settleSwitchKey_base (s : State) : (s.settleSwitchKey).base = s.base := by
  simp only [State.settleSwitchKey]
  simp

@[simp] theorem proveKey_base (s : State) : (s.proveKey).base = s.base := by
  simp only [State.proveKey]
  (repeat' split) <;> simp

@[simp] theorem switchKeyMovement_base (s : State) : (s.switchKeyMovement).base = s.base := by
  simp only [State.switchKeyMovement]
  (repeat' split) <;> simp

@[simp] theorem judgeKeyAtStart_base (s : State) : (s.judgeKeyAtStart).base = s.base := by
  simp only [State.judgeKeyAtStart]
  (repeat' split) <;> simp

@[simp] theorem agreementLimitExpiry_base (s : State) : (s.agreementLimitExpiry).base = s.base := by
  simp only [State.agreementLimitExpiry]
  (repeat' split) <;> simp

@[simp] theorem holdTimerExpiry_base (s : State) : (s.holdTimerExpiry).base = s.base := by
  simp only [State.holdTimerExpiry]
  (repeat' split) <;> simp

@[simp] theorem beginFrame_base (s : State) (i f) : (s.beginFrame i f).base = s.base := by
  simp only [State.beginFrame]
  simp

@[simp] theorem frameStart_base (s : State) : (s.frameStart).base = s.base := by
  simp only [State.frameStart]
  (repeat' split) <;> simp

@[simp] theorem contentionLost_base (s : State) : (s.contentionLost).base = s.base := by
  simp only [State.contentionLost]
  (repeat' split) <;> simp

@[simp] theorem reportDropped_base (s : State) (f) : (s.reportDropped f).base = s.base := by
  simp only [State.reportDropped]
  (repeat' split) <;> simp

@[simp] theorem slotEmptied_base (s : State) : (s.slotEmptied).base = s.base := by
  simp only [State.slotEmptied]
  simp

@[simp] theorem dropFrame_base (s : State) (i f) : (s.dropFrame i f).base = s.base := by
  simp only [State.dropFrame]
  (repeat' split) <;> simp

@[simp] theorem failAttempt_base (s : State) (i f c) : (s.failAttempt i f c).base = s.base := by
  simp only [State.failAttempt]
  (repeat' split) <;> simp

@[simp] theorem lineError_base (s : State) : (s.lineError).base = s.base := by
  simp only [State.lineError]
  (repeat' split) <;> simp

@[simp] theorem startBitSeen_base (s : State) : (s.startBitSeen).base = s.base := by
  simp only [State.startBitSeen]
  (repeat' split) <;> simp

@[simp] theorem frameBrokenOff_base (s : State) : (s.frameBrokenOff).base = s.base := by
  simp only [State.frameBrokenOff]
  (repeat' split) <;> simp

@[simp] theorem acknowledgeDecision_base (s : State) (l) : (s.acknowledgeDecision l).base = s.base := by
  simp only [State.acknowledgeDecision]
  (repeat' split) <;> simp

@[simp] theorem duplicateIdentity_base (s : State) (f) : (s.duplicateIdentity f).base = s.base := by
  simp only [State.duplicateIdentity]
  simp

@[simp] theorem hear_base (s : State) (f) : (s.hear f).base = s.base := by
  simp only [State.hear]
  rw [foldl_base _ _ (fun s e => by split <;> simp)]
  simp

@[simp] theorem deliverStatus_base (s : State) (e f) : (s.deliverStatus e f).base = s.base := by
  simp only [State.deliverStatus]
  simp

@[simp] theorem deliver_base (s : State) (e f) : (s.deliver e f).base = s.base := by
  simp only [State.deliver]
  (repeat' split) <;> simp

@[simp] theorem statusRefreshExpiry_base (s : State) (e) : (s.statusRefreshExpiry e).base = s.base := by
  simp only [State.statusRefreshExpiry]
  (repeat' split) <;> simp

@[simp] theorem lastHeardExpiry_base (s : State) (n) : (s.lastHeardExpiry n).base = s.base := by
  simp only [State.lastHeardExpiry]
  split
  · rw [foldl_base _ _ (fun s e => by split <;> simp)]
    simp
  · rfl

@[simp] theorem listeningPeriodEnd_base (s : State) : (s.listeningPeriodEnd).base = s.base := by
  simp only [State.listeningPeriodEnd]
  split
  · rw [judgeKeyAtStart_base, foldl_base _ _ (fun s e => by split <;> simp)]
    simp
  · rfl

@[simp] theorem normalForExpiry_base (s : State) (k) : (s.normalForExpiry k).base = s.base := by
  simp only [State.normalForExpiry]
  (repeat' split) <;> simp

@[simp] theorem flasherHalfExpiry_base (s : State) : (s.flasherHalfExpiry).base = s.base := by
  simp only [State.flasherHalfExpiry]
  (repeat' split) <;> simp

end Sys2Proof.Machine
end

