-- ==== Sys2Proof/Laws/KeepBells.lean ====
section
/-! SUPPORT. The operations that leave the bell unit's records alone: one lemma per operation, on the field `bells` of the state. -/

namespace Sys2Proof.Machine

theorem foldl_bells {α : Type} (l : List α) (f : State → α → State) (h : ∀ s a, (f s a).bells = s.bells) (s : State) :
    (l.foldl f s).bells = s.bells := by
  induction l generalizing s with
  | nil => rfl
  | cons a l ih => rw [List.foldl_cons, ih, h]

@[simp] theorem freeCount_bells (s : State) (n) : ({ s with freeCount := n } : State).bells = s.bells := rfl

@[simp] theorem append_bells (s : State) (r) : (s.append r).bells = s.bells := by
  simp only [State.append]
  simp

@[simp] theorem judgeProposal_bells (s : State) : (s.judgeProposal).bells = s.bells := by
  simp only [State.judgeProposal]
  (repeat' split) <;> simp

@[simp] theorem evaluate_bells (s : State) (f) : (s.evaluate f).bells = s.bells := by
  simp only [State.evaluate]
  (repeat' split) <;> simp

@[simp] theorem reportPosition_bells (s : State) (i) : (s.reportPosition i).bells = s.bells := by
  simp only [State.reportPosition]
  simp

@[simp] theorem reportDetection_bells (s : State) (d) : (s.reportDetection d).bells = s.bells := by
  simp only [State.reportDetection]
  simp

@[simp] theorem reportBlock_bells (s : State) (e) : (s.reportBlock e).bells = s.bells := by
  simp only [State.reportBlock]
  simp

@[simp] theorem reportCount_bells (s : State) (c) : (s.reportCount c).bells = s.bells := by
  simp only [State.reportCount]
  simp

@[simp] theorem judgeDetection_bells (s : State) (d) : (s.judgeDetection d).bells = s.bells := by
  simp only [State.judgeDetection]
  (repeat' split) <;> simp

@[simp] theorem judgeDetections_bells (s : State) (names) : (s.judgeDetections names).bells = s.bells :=
  foldl_bells _ _ (fun s d => by split <;> simp) s

@[simp] theorem reportChannel_bells (s : State) (c) : (s.reportChannel c).bells = s.bells := by
  simp only [State.reportChannel]
  simp

@[simp] theorem reportCountToCombiner_bells (s : State) (c) : (s.reportCountToCombiner c).bells = s.bells := by
  simp only [State.reportCountToCombiner]
  simp

@[simp] theorem raiseStatus_bells (s : State) (e) : (s.raiseStatus e).bells = s.bells := by
  simp only [State.raiseStatus]
  (repeat' split) <;> simp

@[simp] theorem serveOwed_bells (s : State) (e) : (s.serveOwed e).bells = s.bells := by
  simp only [State.serveOwed]
  simp

@[simp] theorem serveFirstOwed_bells (s : State) : (s.serveFirstOwed).bells = s.bells := by
  simp only [State.serveFirstOwed]
  (repeat' split) <;> simp

@[simp] theorem blockRecord_bells (s : State) (e old cause op) : (s.blockRecord e old cause op).bells = s.bells := by
  simp only [State.blockRecord]
  simp

@[simp] theorem refuseOperation_bells (s : State) (e cause op) : (s.refuseOperation e cause op).bells = s.bells := by
  simp only [State.refuseOperation]
  simp

@[simp] theorem reportStateToSwitching_bells (s : State) (e) : (s.reportStateToSwitching e).bells = s.bells := by
  simp only [State.reportStateToSwitching]
  (repeat' split) <;> simp

@[simp] theorem setRefusal_bells (s : State) (e r) : (s.setRefusal e r).bells = s.bells := by
  simp only [State.setRefusal]
  simp

@[simp] theorem resetRecord_bells (s : State) (s0 c o) : (s.resetRecord s0 c o).bells = s.bells := by
  simp only [State.resetRecord]
  simp

@[simp] theorem endPending_bells (s : State) (s0 c o) : (s.endPending s0 c o).bells = s.bells := by
  simp only [State.endPending]
  (repeat' split) <;> simp

@[simp] theorem requestUndelivered_bells (s : State) (e n) : (s.requestUndelivered e n).bells = s.bells := by
  simp only [State.requestUndelivered]
  (repeat' split) <;> simp

theorem changeSect_noEntry_bells (s : State) (c f) (hi : ¬(s.indication c = .zero ∧ (s.modSect c f).indication c = .nonzero)) : (s.changeSect c f).bells = s.bells := by
  simp only [State.changeSect, State.reportSect]
  split <;> (try split) <;> (try split) <;> simp_all
theorem disturb_indication_bells (s : State) (c) : (s.modSect c fun x => { x.disturb with confirming := Option.none }).indication c = s.indication c := by
  simp only [State.indication, State.modSect, indication, content, Sect.disturb]
  simp
@[simp] theorem confirmUndelivered_bells (s : State) (e n) : (s.confirmUndelivered e n).bells = s.bells := by
  simp only [State.confirmUndelivered]
  (repeat' split) <;> (try simp)
  all_goals (
    rw [changeSect_noEntry_bells]
    rw [disturb_indication_bells]
    rintro ⟨h, h'⟩
    rw [h] at h'
    cases h')

@[simp] theorem confirmDelivered_bells (s : State) (e n) : (s.confirmDelivered e n).bells = s.bells := by
  simp only [State.confirmDelivered]
  (repeat' split) <;> simp

@[simp] theorem switchRecord_bells (s : State) (k d o r c) : (s.switchRecord k d o r c).bells = s.bells := by
  simp only [State.switchRecord]
  (repeat' split) <;> simp

@[simp] theorem refusePress_bells (s : State) (c o) : (s.refusePress c o).bells = s.bells := by
  simp only [State.refusePress]
  simp

@[simp] theorem settleKey_bells (s : State) (c) : (s.settleKey c).bells = s.bells := by
  simp only [State.settleKey]
  simp

@[simp] theorem resetRequestWindowExpiry_bells (s : State) (c) : (s.resetRequestWindowExpiry c).bells = s.bells := by
  simp only [State.resetRequestWindowExpiry]
  (repeat' split) <;> simp

@[simp] theorem heldRequestWindowExpiry_bells (s : State) (c) : (s.heldRequestWindowExpiry c).bells = s.bells := by
  simp only [State.heldRequestWindowExpiry]
  (repeat' split) <;> simp

@[simp] theorem moveSects_bells (s : State) (h f) : (s.moveSects h f).bells = s.bells := rfl

@[simp] theorem linkRecord_bells (s : State) (e b n) : (s.linkRecord e b n).bells = s.bells := by
  simp only [State.linkRecord]
  (repeat' split) <;> simp

@[simp] theorem settleSwitch_bells (s : State) (e) : (s.settleSwitch e).bells = s.bells := by
  simp only [State.settleSwitch]
  simp

@[simp] theorem settleTos_bells (s : State) (e) : (s.settleTos e).bells = s.bells := by
  simp only [State.settleTos]
  simp

@[simp] theorem settleCancel_bells (s : State) (e) : (s.settleCancel e).bells = s.bells := by
  simp only [State.settleCancel]
  simp

@[simp] theorem acceptRefused_bells (s : State) (e n r m) : (s.acceptRefused e n r m).bells = s.bells := by
  simp only [State.acceptRefused]
  simp

@[simp] theorem plungerOrKeyRelease_bells (s : State) (x) : (s.plungerOrKeyRelease x).bells = s.bells := by
  simp only [State.plungerOrKeyRelease]
  (repeat' split) <;> simp

@[simp] theorem refusalMarkExpiry_bells (s : State) (e) : (s.refusalMarkExpiry e).bells = s.bells := by
  simp only [State.refusalMarkExpiry]
  (repeat' split) <;> simp

@[simp] theorem refuseAccept_bells (s : State) (e r n) : (s.refuseAccept e r n).bells = s.bells := by
  simp only [State.refuseAccept]
  simp

@[simp] theorem markMismatch_bells (s : State) (e f) : (s.markMismatch e f).bells = s.bells := by
  simp only [State.markMismatch]
  (repeat' split) <;> simp

@[simp] theorem clearMismatch_bells (s : State) (e) : (s.clearMismatch e).bells = s.bells := by
  simp only [State.clearMismatch]
  simp

@[simp] theorem clearOutstanding_bells (s : State) (e n) : (s.clearOutstanding e n).bells = s.bells := by
  simp only [State.clearOutstanding]
  (repeat' split) <;> simp

@[simp] theorem blockDelivered_bells (s : State) (e n) : (s.blockDelivered e n).bells = s.bells := by
  simp only [State.blockDelivered]
  (repeat' split) <;> simp

@[simp] theorem refuseLocally_bells (s : State) (d r k) : (s.refuseLocally d r k).bells = s.bells := by
  simp only [State.refuseLocally]
  simp

@[simp] theorem formProposal_bells (s : State) (d) : (s.formProposal d).bells = s.bells := by
  simp only [State.formProposal]
  simp

@[simp] theorem markCommit_bells (s : State) (b m) : (s.markCommit b m).bells = s.bells := by
  simp only [State.markCommit]
  (repeat' split) <;> simp

@[simp] theorem markAgreed_bells (s : State) (e) : (s.markAgreed e).bells = s.bells := by
  simp only [State.markAgreed]
  simp

@[simp] theorem dropHold_bells (s : State) : (s.dropHold).bells = s.bells := by
  simp only [State.dropHold]
  simp

@[simp] theorem recordOverheard_bells (s : State) (f) : (s.recordOverheard f).bells = s.bells := by
  simp only [State.recordOverheard]
  (repeat' split) <;> simp

@[simp] theorem settleSwitchKey_bells (s : State) : (s.settleSwitchKey).bells = s.bells := by
  simp only [State.settleSwitchKey]
  simp

@[simp] theorem beginFrame_bells (s : State) (i f) : (s.beginFrame i f).bells = s.bells := by
  simp only [State.beginFrame]
  simp

@[simp] theorem frameStart_bells (s : State) : (s.frameStart).bells = s.bells := by
  simp only [State.frameStart]
  (repeat' split) <;> simp

@[simp] theorem contentionLost_bells (s : State) : (s.contentionLost).bells = s.bells := by
  simp only [State.contentionLost]
  (repeat' split) <;> simp

@[simp] theorem startBitSeen_bells (s : State) : (s.startBitSeen).bells = s.bells := by
  simp only [State.startBitSeen]
  (repeat' split) <;> simp

@[simp] theorem frameBrokenOff_bells (s : State) : (s.frameBrokenOff).bells = s.bells := by
  simp only [State.frameBrokenOff]
  (repeat' split) <;> simp

@[simp] theorem acknowledgeDecision_bells (s : State) (l) : (s.acknowledgeDecision l).bells = s.bells := by
  simp only [State.acknowledgeDecision]
  (repeat' split) <;> simp

@[simp] theorem duplicateIdentity_bells (s : State) (f) : (s.duplicateIdentity f).bells = s.bells := by
  simp only [State.duplicateIdentity]
  simp

@[simp] theorem statusRefreshExpiry_bells (s : State) (e) : (s.statusRefreshExpiry e).bells = s.bells := by
  simp only [State.statusRefreshExpiry]
  (repeat' split) <;> simp

@[simp] theorem normalForExpiry_bells (s : State) (k) : (s.normalForExpiry k).bells = s.bells := by
  simp only [State.normalForExpiry]
  (repeat' split) <;> simp

@[simp] theorem flasherHalfExpiry_bells (s : State) : (s.flasherHalfExpiry).bells = s.bells := by
  simp only [State.flasherHalfExpiry]
  (repeat' split) <;> simp

end Sys2Proof.Machine
end

