-- ==== Sys2Proof/Laws/KeepBlocks.lean ====
section
/-! SUPPORT. The operations that leave the block end records alone: one lemma per operation, on the field `blocks` of the state. -/

namespace Sys2Proof.Machine

theorem foldl_blocks {α : Type} (l : List α) (f : State → α → State) (h : ∀ s a, (f s a).blocks = s.blocks) (s : State) :
    (l.foldl f s).blocks = s.blocks := by
  induction l generalizing s with
  | nil => rfl
  | cons a l ih => rw [List.foldl_cons, ih, h]

@[simp] theorem freeCount_blocks (s : State) (n) : ({ s with freeCount := n } : State).blocks = s.blocks := rfl

@[simp] theorem append_blocks (s : State) (r) : (s.append r).blocks = s.blocks := by
  simp only [State.append]
  simp

@[simp] theorem judgeProposal_blocks (s : State) : (s.judgeProposal).blocks = s.blocks := by
  simp only [State.judgeProposal]
  (repeat' split) <;> simp

@[simp] theorem evaluate_blocks (s : State) (f) : (s.evaluate f).blocks = s.blocks := by
  simp only [State.evaluate]
  (repeat' split) <;> simp

@[simp] theorem reportPosition_blocks (s : State) (i) : (s.reportPosition i).blocks = s.blocks := by
  simp only [State.reportPosition]
  simp

@[simp] theorem reportDetection_blocks (s : State) (d) : (s.reportDetection d).blocks = s.blocks := by
  simp only [State.reportDetection]
  simp

@[simp] theorem reportBlock_blocks (s : State) (e) : (s.reportBlock e).blocks = s.blocks := by
  simp only [State.reportBlock]
  simp

@[simp] theorem reportCount_blocks (s : State) (c) : (s.reportCount c).blocks = s.blocks := by
  simp only [State.reportCount]
  simp

@[simp] theorem judgeDetection_blocks (s : State) (d) : (s.judgeDetection d).blocks = s.blocks := by
  simp only [State.judgeDetection]
  (repeat' split) <;> simp

@[simp] theorem judgeDetections_blocks (s : State) (names) : (s.judgeDetections names).blocks = s.blocks :=
  foldl_blocks _ _ (fun s d => by split <;> simp) s

@[simp] theorem reportChannel_blocks (s : State) (c) : (s.reportChannel c).blocks = s.blocks := by
  simp only [State.reportChannel]
  simp

@[simp] theorem reportCountToCombiner_blocks (s : State) (c) : (s.reportCountToCombiner c).blocks = s.blocks := by
  simp only [State.reportCountToCombiner]
  simp

@[simp] theorem raiseStatus_blocks (s : State) (e) : (s.raiseStatus e).blocks = s.blocks := by
  simp only [State.raiseStatus]
  (repeat' split) <;> simp

@[simp] theorem serveOwed_blocks (s : State) (e) : (s.serveOwed e).blocks = s.blocks := by
  simp only [State.serveOwed]
  simp

@[simp] theorem serveFirstOwed_blocks (s : State) : (s.serveFirstOwed).blocks = s.blocks := by
  simp only [State.serveFirstOwed]
  (repeat' split) <;> simp

@[simp] theorem clearOffer_blocks (s : State) (e) : (s.clearOffer e).blocks = s.blocks := by
  simp only [State.clearOffer]
  simp

@[simp] theorem blockRecord_blocks (s : State) (e old cause op) : (s.blockRecord e old cause op).blocks = s.blocks := by
  simp only [State.blockRecord]
  simp

@[simp] theorem refuseOperation_blocks (s : State) (e cause op) : (s.refuseOperation e cause op).blocks = s.blocks := by
  simp only [State.refuseOperation]
  simp

@[simp] theorem reportStateToSwitching_blocks (s : State) (e) : (s.reportStateToSwitching e).blocks = s.blocks := by
  simp only [State.reportStateToSwitching]
  (repeat' split) <;> simp

@[simp] theorem reportEndChange_blocks (s : State) (e old cause) : (s.reportEndChange e old cause).blocks = s.blocks := by
  simp only [State.reportEndChange]
  (repeat' split) <;> simp

@[simp] theorem resetRecord_blocks (s : State) (s0 c o) : (s.resetRecord s0 c o).blocks = s.blocks := by
  simp only [State.resetRecord]
  simp

@[simp] theorem endPending_blocks (s : State) (s0 c o) : (s.endPending s0 c o).blocks = s.blocks := by
  simp only [State.endPending]
  (repeat' split) <;> simp

@[simp] theorem requestUndelivered_blocks (s : State) (e n) : (s.requestUndelivered e n).blocks = s.blocks := by
  simp only [State.requestUndelivered]
  (repeat' split) <;> simp

theorem changeSect_noEntry_blocks (s : State) (c f) (hi : ¬(s.indication c = .zero ∧ (s.modSect c f).indication c = .nonzero)) : (s.changeSect c f).blocks = s.blocks := by
  simp only [State.changeSect, State.reportSect]
  split <;> (try split) <;> (try split) <;> simp_all
theorem disturb_indication_blocks (s : State) (c) : (s.modSect c fun x => { x.disturb with confirming := Option.none }).indication c = s.indication c := by
  simp only [State.indication, State.modSect, indication, content, Sect.disturb]
  simp
@[simp] theorem confirmUndelivered_blocks (s : State) (e n) : (s.confirmUndelivered e n).blocks = s.blocks := by
  simp only [State.confirmUndelivered]
  (repeat' split) <;> (try simp)
  all_goals (
    rw [changeSect_noEntry_blocks]
    rw [disturb_indication_blocks]
    rintro ⟨h, h'⟩
    rw [h] at h'
    cases h')

@[simp] theorem confirmDelivered_blocks (s : State) (e n) : (s.confirmDelivered e n).blocks = s.blocks := by
  simp only [State.confirmDelivered]
  (repeat' split) <;> simp

@[simp] theorem reportEvicted_blocks (s : State) (f) : (s.reportEvicted f).blocks = s.blocks := by
  simp only [State.reportEvicted]
  (repeat' split) <;> simp

@[simp] theorem request_blocks (s : State) (k e dest payload) : (s.request k e dest payload).blocks = s.blocks := by
  simp only [State.request]
  (repeat' split) <;> simp

@[simp] theorem switchRecord_blocks (s : State) (k d o r c) : (s.switchRecord k d o r c).blocks = s.blocks := by
  simp only [State.switchRecord]
  (repeat' split) <;> simp

@[simp] theorem requestSwitch_blocks (s : State) (k e payload) : (s.requestSwitch k e payload).blocks = s.blocks := by
  simp only [State.requestSwitch]
  simp

@[simp] theorem sendAbandon_blocks (s : State) (d e b) : (s.sendAbandon d e b).blocks = s.blocks := by
  simp only [State.sendAbandon]
  (repeat' split) <;> simp

@[simp] theorem abandon_blocks (s : State) (cause r k) : (s.abandon cause r k).blocks = s.blocks := by
  simp only [State.abandon]
  (repeat' split) <;> simp

@[simp] theorem settle_blocks (s : State) : (s.settle).blocks = s.blocks := by
  simp only [State.settle]
  (repeat' split) <;> simp

@[simp] theorem sendCode_blocks (s : State) (e r) : (s.sendCode e r).blocks = s.blocks := by
  simp only [State.sendCode]
  (repeat' split) <;> simp

@[simp] theorem sendBeat_blocks (s : State) (e iv held) : (s.sendBeat e iv held).blocks = s.blocks := by
  simp only [State.sendBeat]
  (repeat' split) <;> simp

@[simp] theorem completeStrike_blocks (s : State) (e held) : (s.completeStrike e held).blocks = s.blocks := by
  simp only [State.completeStrike]
  (repeat' split) <;> simp

@[simp] theorem settleTapper_blocks (s : State) (e) : (s.settleTapper e).blocks = s.blocks := by
  simp only [State.settleTapper]
  simp

@[simp] theorem tapperRelease_blocks (s : State) (e) : (s.tapperRelease e).blocks = s.blocks := by
  simp only [State.tapperRelease]
  (repeat' split) <;> simp

@[simp] theorem flushPlayout_blocks (s : State) (e) : (s.flushPlayout e).blocks = s.blocks := by
  simp only [State.flushPlayout]
  simp

@[simp] theorem beatTaken_blocks (s : State) (e p) : (s.beatTaken e p).blocks = s.blocks := by
  simp only [State.beatTaken]
  (repeat' split) <;> simp

@[simp] theorem beatDue_blocks (s : State) (e) : (s.beatDue e).blocks = s.blocks := by
  simp only [State.beatDue]
  (repeat' split) <;> simp

@[simp] theorem strikeEnd_blocks (s : State) (e) : (s.strikeEnd e).blocks = s.blocks := by
  simp only [State.strikeEnd]
  (repeat' split) <;> simp

@[simp] theorem offerHoldExpiry_blocks (s : State) (e) : (s.offerHoldExpiry e).blocks = s.blocks := by
  simp only [State.offerHoldExpiry]
  (repeat' split) <;> simp

@[simp] theorem queueCount_blocks (s : State) (c) : (s.queueCount c).blocks = s.blocks := by
  simp only [State.queueCount]
  (repeat' split) <;> simp

@[simp] theorem refusePress_blocks (s : State) (c o) : (s.refusePress c o).blocks = s.blocks := by
  simp only [State.refusePress]
  simp

@[simp] theorem startRequest_blocks (s : State) (c e) : (s.startRequest c e).blocks = s.blocks := by
  simp only [State.startRequest]
  (repeat' split) <;> simp

@[simp] theorem settleKey_blocks (s : State) (c) : (s.settleKey c).blocks = s.blocks := by
  simp only [State.settleKey]
  simp

@[simp] theorem resetRequestWindowExpiry_blocks (s : State) (c) : (s.resetRequestWindowExpiry c).blocks = s.blocks := by
  simp only [State.resetRequestWindowExpiry]
  (repeat' split) <;> simp

@[simp] theorem heldRequestWindowExpiry_blocks (s : State) (c) : (s.heldRequestWindowExpiry c).blocks = s.blocks := by
  simp only [State.heldRequestWindowExpiry]
  (repeat' split) <;> simp

@[simp] theorem moveSects_blocks (s : State) (h f) : (s.moveSects h f).blocks = s.blocks := rfl

@[simp] theorem linkRecord_blocks (s : State) (e b n) : (s.linkRecord e b n).blocks = s.blocks := by
  simp only [State.linkRecord]
  (repeat' split) <;> simp

@[simp] theorem acceptRefused_blocks (s : State) (e n r m) : (s.acceptRefused e n r m).blocks = s.blocks := by
  simp only [State.acceptRefused]
  simp

@[simp] theorem refuseLocally_blocks (s : State) (d r k) : (s.refuseLocally d r k).blocks = s.blocks := by
  simp only [State.refuseLocally]
  simp

@[simp] theorem formProposal_blocks (s : State) (d) : (s.formProposal d).blocks = s.blocks := by
  simp only [State.formProposal]
  simp

@[simp] theorem sendProposals_blocks (s : State) (d) : (s.sendProposals d).blocks = s.blocks := by
  simp only [State.sendProposals]
  (repeat' split) <;> simp

@[simp] theorem proposeOut_blocks (s : State) : (s.proposeOut).blocks = s.blocks := by
  simp only [State.proposeOut]
  (repeat' split) <;> simp

@[simp] theorem proposeIn_blocks (s : State) : (s.proposeIn).blocks = s.blocks := by
  simp only [State.proposeIn]
  (repeat' split) <;> simp

@[simp] theorem markCommit_blocks (s : State) (b m) : (s.markCommit b m).blocks = s.blocks := by
  simp only [State.markCommit]
  (repeat' split) <;> simp

@[simp] theorem sendCommits_blocks (s : State) (d) : (s.sendCommits d).blocks = s.blocks := by
  simp only [State.sendCommits]
  (repeat' split) <;> simp

@[simp] theorem judgeDrain_blocks (s : State) : (s.judgeDrain).blocks = s.blocks := by
  simp only [State.judgeDrain]
  (repeat' split) <;> simp

@[simp] theorem markAgreed_blocks (s : State) (e) : (s.markAgreed e).blocks = s.blocks := by
  simp only [State.markAgreed]
  simp

@[simp] theorem agreeTaken_blocks (s : State) (e d n) : (s.agreeTaken e d n).blocks = s.blocks := by
  simp only [State.agreeTaken]
  (repeat' split) <;> simp

@[simp] theorem refuseTaken_blocks (s : State) (e d m n) : (s.refuseTaken e d m n).blocks = s.blocks := by
  simp only [State.refuseTaken]
  (repeat' split) <;> simp

@[simp] theorem dropHold_blocks (s : State) : (s.dropHold).blocks = s.blocks := by
  simp only [State.dropHold]
  simp

@[simp] theorem recordOverheard_blocks (s : State) (f) : (s.recordOverheard f).blocks = s.blocks := by
  simp only [State.recordOverheard]
  (repeat' split) <;> simp

@[simp] theorem commitUndelivered_blocks (s : State) (e n) : (s.commitUndelivered e n).blocks = s.blocks := by
  simp only [State.commitUndelivered]
  (repeat' split) <;> simp

@[simp] theorem moveKey_blocks (s : State) (k) : (s.moveKey k).blocks = s.blocks := by
  simp only [State.moveKey]
  (repeat' split) <;> simp

@[simp] theorem settleSwitchKey_blocks (s : State) : (s.settleSwitchKey).blocks = s.blocks := by
  simp only [State.settleSwitchKey]
  simp

@[simp] theorem proveKey_blocks (s : State) : (s.proveKey).blocks = s.blocks := by
  simp only [State.proveKey]
  (repeat' split) <;> simp

@[simp] theorem switchKeyMovement_blocks (s : State) : (s.switchKeyMovement).blocks = s.blocks := by
  simp only [State.switchKeyMovement]
  (repeat' split) <;> simp

@[simp] theorem judgeKeyAtStart_blocks (s : State) : (s.judgeKeyAtStart).blocks = s.blocks := by
  simp only [State.judgeKeyAtStart]
  (repeat' split) <;> simp

@[simp] theorem agreementLimitExpiry_blocks (s : State) : (s.agreementLimitExpiry).blocks = s.blocks := by
  simp only [State.agreementLimitExpiry]
  (repeat' split) <;> simp

@[simp] theorem beginFrame_blocks (s : State) (i f) : (s.beginFrame i f).blocks = s.blocks := by
  simp only [State.beginFrame]
  simp

@[simp] theorem frameStart_blocks (s : State) : (s.frameStart).blocks = s.blocks := by
  simp only [State.frameStart]
  (repeat' split) <;> simp

@[simp] theorem contentionLost_blocks (s : State) : (s.contentionLost).blocks = s.blocks := by
  simp only [State.contentionLost]
  (repeat' split) <;> simp

@[simp] theorem slotEmptied_blocks (s : State) : (s.slotEmptied).blocks = s.blocks := by
  simp only [State.slotEmptied]
  simp

@[simp] theorem startBitSeen_blocks (s : State) : (s.startBitSeen).blocks = s.blocks := by
  simp only [State.startBitSeen]
  (repeat' split) <;> simp

@[simp] theorem frameBrokenOff_blocks (s : State) : (s.frameBrokenOff).blocks = s.blocks := by
  simp only [State.frameBrokenOff]
  (repeat' split) <;> simp

@[simp] theorem acknowledgeDecision_blocks (s : State) (l) : (s.acknowledgeDecision l).blocks = s.blocks := by
  simp only [State.acknowledgeDecision]
  (repeat' split) <;> simp

@[simp] theorem duplicateIdentity_blocks (s : State) (f) : (s.duplicateIdentity f).blocks = s.blocks := by
  simp only [State.duplicateIdentity]
  simp

@[simp] theorem statusRefreshExpiry_blocks (s : State) (e) : (s.statusRefreshExpiry e).blocks = s.blocks := by
  simp only [State.statusRefreshExpiry]
  (repeat' split) <;> simp

@[simp] theorem normalForExpiry_blocks (s : State) (k) : (s.normalForExpiry k).blocks = s.blocks := by
  simp only [State.normalForExpiry]
  (repeat' split) <;> simp

@[simp] theorem flasherHalfExpiry_blocks (s : State) : (s.flasherHalfExpiry).blocks = s.blocks := by
  simp only [State.flasherHalfExpiry]
  (repeat' split) <;> simp

end Sys2Proof.Machine
end

