-- ==== Sys2Proof/Laws/KeepCombiner.lean ====
section
/-! SUPPORT. The operations that leave the detection combiner alone: one lemma per operation, on the field `combiner` of the state. -/

namespace Sys2Proof.Machine

theorem foldl_combiner {α : Type} (l : List α) (f : State → α → State) (h : ∀ s a, (f s a).combiner = s.combiner) (s : State) :
    (l.foldl f s).combiner = s.combiner := by
  induction l generalizing s with
  | nil => rfl
  | cons a l ih => rw [List.foldl_cons, ih, h]

@[simp] theorem freeCount_combiner (s : State) (n) : ({ s with freeCount := n } : State).combiner = s.combiner := rfl

@[simp] theorem append_combiner (s : State) (r) : (s.append r).combiner = s.combiner := by
  simp only [State.append]
  simp

@[simp] theorem judgeProposal_combiner (s : State) : (s.judgeProposal).combiner = s.combiner := by
  simp only [State.judgeProposal]
  (repeat' split) <;> simp

@[simp] theorem evaluate_combiner (s : State) (f) : (s.evaluate f).combiner = s.combiner := by
  simp only [State.evaluate]
  (repeat' split) <;> simp

@[simp] theorem reportPosition_combiner (s : State) (i) : (s.reportPosition i).combiner = s.combiner := by
  simp only [State.reportPosition]
  simp

@[simp] theorem reportDetection_combiner (s : State) (d) : (s.reportDetection d).combiner = s.combiner := by
  simp only [State.reportDetection]
  simp

@[simp] theorem reportBlock_combiner (s : State) (e) : (s.reportBlock e).combiner = s.combiner := by
  simp only [State.reportBlock]
  simp

@[simp] theorem reportCount_combiner (s : State) (c) : (s.reportCount c).combiner = s.combiner := by
  simp only [State.reportCount]
  simp

@[simp] theorem raiseStatus_combiner (s : State) (e) : (s.raiseStatus e).combiner = s.combiner := by
  simp only [State.raiseStatus]
  (repeat' split) <;> simp

@[simp] theorem serveOwed_combiner (s : State) (e) : (s.serveOwed e).combiner = s.combiner := by
  simp only [State.serveOwed]
  simp

@[simp] theorem serveFirstOwed_combiner (s : State) : (s.serveFirstOwed).combiner = s.combiner := by
  simp only [State.serveFirstOwed]
  (repeat' split) <;> simp

@[simp] theorem clearOffer_combiner (s : State) (e) : (s.clearOffer e).combiner = s.combiner := by
  simp only [State.clearOffer]
  simp

@[simp] theorem blockRecord_combiner (s : State) (e old cause op) : (s.blockRecord e old cause op).combiner = s.combiner := by
  simp only [State.blockRecord]
  simp

@[simp] theorem refuseOperation_combiner (s : State) (e cause op) : (s.refuseOperation e cause op).combiner = s.combiner := by
  simp only [State.refuseOperation]
  simp

@[simp] theorem reportStateToSwitching_combiner (s : State) (e) : (s.reportStateToSwitching e).combiner = s.combiner := by
  simp only [State.reportStateToSwitching]
  (repeat' split) <;> simp

@[simp] theorem reportEndChange_combiner (s : State) (e old cause) : (s.reportEndChange e old cause).combiner = s.combiner := by
  simp only [State.reportEndChange]
  (repeat' split) <;> simp

@[simp] theorem changeEnd_combiner (s : State) (e st rel cause) : (s.changeEnd e st rel cause).combiner = s.combiner := by
  simp only [State.changeEnd]
  (repeat' split) <;> simp

@[simp] theorem setRefusal_combiner (s : State) (e r) : (s.setRefusal e r).combiner = s.combiner := by
  simp only [State.setRefusal]
  simp

@[simp] theorem starterLeft_combiner (s : State) (e) : (s.starterLeft e).combiner = s.combiner := by
  simp only [State.starterLeft]
  (repeat' split) <;> simp

@[simp] theorem starterReturned_combiner (s : State) (e) : (s.starterReturned e).combiner = s.combiner := by
  simp only [State.starterReturned]
  (repeat' split) <;> simp

@[simp] theorem trainEntry_combiner (s : State) (e) : (s.trainEntry e).combiner = s.combiner := by
  simp only [State.trainEntry]
  (repeat' split) <;> simp

@[simp] theorem suspendRelease_combiner (s : State) (e) : (s.suspendRelease e).combiner = s.combiner := by
  simp only [State.suspendRelease]
  (repeat' split) <;> simp

@[simp] theorem obstruct_combiner (s : State) (e) : (s.obstruct e).combiner = s.combiner := by
  simp only [State.obstruct]
  (repeat' split) <;> simp

@[simp] theorem unobstruct_combiner (s : State) (e) : (s.unobstruct e).combiner = s.combiner := by
  simp only [State.unobstruct]
  (repeat' split) <;> simp

@[simp] theorem resetRecord_combiner (s : State) (s0 c o) : (s.resetRecord s0 c o).combiner = s.combiner := by
  simp only [State.resetRecord]
  simp

@[simp] theorem endPending_combiner (s : State) (s0 c o) : (s.endPending s0 c o).combiner = s.combiner := by
  simp only [State.endPending]
  (repeat' split) <;> simp

@[simp] theorem requestUndelivered_combiner (s : State) (e n) : (s.requestUndelivered e n).combiner = s.combiner := by
  simp only [State.requestUndelivered]
  (repeat' split) <;> simp

@[simp] theorem confirmDelivered_combiner (s : State) (e n) : (s.confirmDelivered e n).combiner = s.combiner := by
  simp only [State.confirmDelivered]
  (repeat' split) <;> simp

@[simp] theorem switchRecord_combiner (s : State) (k d o r c) : (s.switchRecord k d o r c).combiner = s.combiner := by
  simp only [State.switchRecord]
  (repeat' split) <;> simp

@[simp] theorem settleTapper_combiner (s : State) (e) : (s.settleTapper e).combiner = s.combiner := by
  simp only [State.settleTapper]
  simp

@[simp] theorem flushPlayout_combiner (s : State) (e) : (s.flushPlayout e).combiner = s.combiner := by
  simp only [State.flushPlayout]
  simp

@[simp] theorem actOnCode_combiner (s : State) (e k n) : (s.actOnCode e k n).combiner = s.combiner := by
  simp only [State.actOnCode]
  (repeat' split) <;> simp

@[simp] theorem codeTaken_combiner (s : State) (e p) : (s.codeTaken e p).combiner = s.combiner := by
  simp only [State.codeTaken]
  (repeat' split) <;> simp

@[simp] theorem beatTaken_combiner (s : State) (e p) : (s.beatTaken e p).combiner = s.combiner := by
  simp only [State.beatTaken]
  (repeat' split) <;> simp

@[simp] theorem beatDue_combiner (s : State) (e) : (s.beatDue e).combiner = s.combiner := by
  simp only [State.beatDue]
  (repeat' split) <;> simp

@[simp] theorem strikeEnd_combiner (s : State) (e) : (s.strikeEnd e).combiner = s.combiner := by
  simp only [State.strikeEnd]
  (repeat' split) <;> simp

@[simp] theorem offerHoldExpiry_combiner (s : State) (e) : (s.offerHoldExpiry e).combiner = s.combiner := by
  simp only [State.offerHoldExpiry]
  (repeat' split) <;> simp

@[simp] theorem refusePress_combiner (s : State) (c o) : (s.refusePress c o).combiner = s.combiner := by
  simp only [State.refusePress]
  simp

@[simp] theorem settleKey_combiner (s : State) (c) : (s.settleKey c).combiner = s.combiner := by
  simp only [State.settleKey]
  simp

@[simp] theorem resetRequestWindowExpiry_combiner (s : State) (c) : (s.resetRequestWindowExpiry c).combiner = s.combiner := by
  simp only [State.resetRequestWindowExpiry]
  (repeat' split) <;> simp

@[simp] theorem heldRequestWindowExpiry_combiner (s : State) (c) : (s.heldRequestWindowExpiry c).combiner = s.combiner := by
  simp only [State.heldRequestWindowExpiry]
  (repeat' split) <;> simp

@[simp] theorem moveSects_combiner (s : State) (h f) : (s.moveSects h f).combiner = s.combiner := rfl

@[simp] theorem linkRecord_combiner (s : State) (e b n) : (s.linkRecord e b n).combiner = s.combiner := by
  simp only [State.linkRecord]
  (repeat' split) <;> simp

@[simp] theorem settleSwitch_combiner (s : State) (e) : (s.settleSwitch e).combiner = s.combiner := by
  simp only [State.settleSwitch]
  simp

@[simp] theorem settleTos_combiner (s : State) (e) : (s.settleTos e).combiner = s.combiner := by
  simp only [State.settleTos]
  simp

@[simp] theorem settleCancel_combiner (s : State) (e) : (s.settleCancel e).combiner = s.combiner := by
  simp only [State.settleCancel]
  simp

@[simp] theorem acceptRefused_combiner (s : State) (e n r m) : (s.acceptRefused e n r m).combiner = s.combiner := by
  simp only [State.acceptRefused]
  simp

@[simp] theorem plungerOrKeyRelease_combiner (s : State) (x) : (s.plungerOrKeyRelease x).combiner = s.combiner := by
  simp only [State.plungerOrKeyRelease]
  (repeat' split) <;> simp

@[simp] theorem refusalMarkExpiry_combiner (s : State) (e) : (s.refusalMarkExpiry e).combiner = s.combiner := by
  simp only [State.refusalMarkExpiry]
  (repeat' split) <;> simp

@[simp] theorem grant_combiner (s : State) (e n c) : (s.grant e n c).combiner = s.combiner := by
  simp only [State.grant]
  simp

@[simp] theorem refuseAccept_combiner (s : State) (e r n) : (s.refuseAccept e r n).combiner = s.combiner := by
  simp only [State.refuseAccept]
  simp

@[simp] theorem crossedAccept_combiner (s : State) (e m n) : (s.crossedAccept e m n).combiner = s.combiner := by
  simp only [State.crossedAccept]
  (repeat' split) <;> simp

@[simp] theorem acceptTaken_combiner (s : State) (e m n) : (s.acceptTaken e m n).combiner = s.combiner := by
  simp only [State.acceptTaken]
  (repeat' split) <;> simp

@[simp] theorem withdrawTaken_combiner (s : State) (e) : (s.withdrawTaken e).combiner = s.combiner := by
  simp only [State.withdrawTaken]
  (repeat' split) <;> simp

@[simp] theorem tosTaken_combiner (s : State) (e) : (s.tosTaken e).combiner = s.combiner := by
  simp only [State.tosTaken]
  (repeat' split) <;> simp

@[simp] theorem cancelTaken_combiner (s : State) (e) : (s.cancelTaken e).combiner = s.combiner := by
  simp only [State.cancelTaken]
  (repeat' split) <;> simp

@[simp] theorem markMismatch_combiner (s : State) (e f) : (s.markMismatch e f).combiner = s.combiner := by
  simp only [State.markMismatch]
  (repeat' split) <;> simp

@[simp] theorem clearMismatch_combiner (s : State) (e) : (s.clearMismatch e).combiner = s.combiner := by
  simp only [State.clearMismatch]
  simp

@[simp] theorem answerAccepting_combiner (s : State) (e f) : (s.answerAccepting e f).combiner = s.combiner := by
  simp only [State.answerAccepting]
  (repeat' split) <;> simp

@[simp] theorem clearOutstanding_combiner (s : State) (e n) : (s.clearOutstanding e n).combiner = s.combiner := by
  simp only [State.clearOutstanding]
  (repeat' split) <;> simp

@[simp] theorem blockDelivered_combiner (s : State) (e n) : (s.blockDelivered e n).combiner = s.combiner := by
  simp only [State.blockDelivered]
  (repeat' split) <;> simp

@[simp] theorem blockUndelivered_combiner (s : State) (e n) : (s.blockUndelivered e n).combiner = s.combiner := by
  simp only [State.blockUndelivered]
  (repeat' split) <;> simp

@[simp] theorem refuseLocally_combiner (s : State) (d r k) : (s.refuseLocally d r k).combiner = s.combiner := by
  simp only [State.refuseLocally]
  simp

@[simp] theorem formProposal_combiner (s : State) (d) : (s.formProposal d).combiner = s.combiner := by
  simp only [State.formProposal]
  simp

@[simp] theorem markCommit_combiner (s : State) (b m) : (s.markCommit b m).combiner = s.combiner := by
  simp only [State.markCommit]
  (repeat' split) <;> simp

@[simp] theorem markAgreed_combiner (s : State) (e) : (s.markAgreed e).combiner = s.combiner := by
  simp only [State.markAgreed]
  simp

@[simp] theorem dropHold_combiner (s : State) : (s.dropHold).combiner = s.combiner := by
  simp only [State.dropHold]
  simp

@[simp] theorem recordOverheard_combiner (s : State) (f) : (s.recordOverheard f).combiner = s.combiner := by
  simp only [State.recordOverheard]
  (repeat' split) <;> simp

@[simp] theorem settleSwitchKey_combiner (s : State) : (s.settleSwitchKey).combiner = s.combiner := by
  simp only [State.settleSwitchKey]
  simp

@[simp] theorem beginFrame_combiner (s : State) (i f) : (s.beginFrame i f).combiner = s.combiner := by
  simp only [State.beginFrame]
  simp

@[simp] theorem frameStart_combiner (s : State) : (s.frameStart).combiner = s.combiner := by
  simp only [State.frameStart]
  (repeat' split) <;> simp

@[simp] theorem contentionLost_combiner (s : State) : (s.contentionLost).combiner = s.combiner := by
  simp only [State.contentionLost]
  (repeat' split) <;> simp

@[simp] theorem startBitSeen_combiner (s : State) : (s.startBitSeen).combiner = s.combiner := by
  simp only [State.startBitSeen]
  (repeat' split) <;> simp

@[simp] theorem frameBrokenOff_combiner (s : State) : (s.frameBrokenOff).combiner = s.combiner := by
  simp only [State.frameBrokenOff]
  (repeat' split) <;> simp

@[simp] theorem acknowledgeDecision_combiner (s : State) (l) : (s.acknowledgeDecision l).combiner = s.combiner := by
  simp only [State.acknowledgeDecision]
  (repeat' split) <;> simp

@[simp] theorem duplicateIdentity_combiner (s : State) (f) : (s.duplicateIdentity f).combiner = s.combiner := by
  simp only [State.duplicateIdentity]
  simp

@[simp] theorem statusRefreshExpiry_combiner (s : State) (e) : (s.statusRefreshExpiry e).combiner = s.combiner := by
  simp only [State.statusRefreshExpiry]
  (repeat' split) <;> simp

@[simp] theorem normalForExpiry_combiner (s : State) (k) : (s.normalForExpiry k).combiner = s.combiner := by
  simp only [State.normalForExpiry]
  (repeat' split) <;> simp

end Sys2Proof.Machine
end

