-- ==== Sys2Proof/Laws/KeepEvaluator.lean ====
section
/-! SUPPORT. The operations that leave the locking evaluator alone: one lemma per operation, on the field `evaluator` of the state. -/

namespace Sys2Proof.Machine

theorem foldl_evaluator {α : Type} (l : List α) (f : State → α → State) (h : ∀ s a, (f s a).evaluator = s.evaluator) (s : State) :
    (l.foldl f s).evaluator = s.evaluator := by
  induction l generalizing s with
  | nil => rfl
  | cons a l ih => rw [List.foldl_cons, ih, h]

@[simp] theorem freeCount_evaluator (s : State) (n) : ({ s with freeCount := n } : State).evaluator = s.evaluator := rfl

@[simp] theorem append_evaluator (s : State) (r) : (s.append r).evaluator = s.evaluator := by
  simp only [State.append]
  simp

@[simp] theorem judgeProposal_evaluator (s : State) : (s.judgeProposal).evaluator = s.evaluator := by
  simp only [State.judgeProposal]
  (repeat' split) <;> simp

@[simp] theorem raiseStatus_evaluator (s : State) (e) : (s.raiseStatus e).evaluator = s.evaluator := by
  simp only [State.raiseStatus]
  (repeat' split) <;> simp

@[simp] theorem serveOwed_evaluator (s : State) (e) : (s.serveOwed e).evaluator = s.evaluator := by
  simp only [State.serveOwed]
  simp

@[simp] theorem serveFirstOwed_evaluator (s : State) : (s.serveFirstOwed).evaluator = s.evaluator := by
  simp only [State.serveFirstOwed]
  (repeat' split) <;> simp

@[simp] theorem clearOffer_evaluator (s : State) (e) : (s.clearOffer e).evaluator = s.evaluator := by
  simp only [State.clearOffer]
  simp

@[simp] theorem blockRecord_evaluator (s : State) (e old cause op) : (s.blockRecord e old cause op).evaluator = s.evaluator := by
  simp only [State.blockRecord]
  simp

@[simp] theorem refuseOperation_evaluator (s : State) (e cause op) : (s.refuseOperation e cause op).evaluator = s.evaluator := by
  simp only [State.refuseOperation]
  simp

@[simp] theorem reportStateToSwitching_evaluator (s : State) (e) : (s.reportStateToSwitching e).evaluator = s.evaluator := by
  simp only [State.reportStateToSwitching]
  (repeat' split) <;> simp

@[simp] theorem setRefusal_evaluator (s : State) (e r) : (s.setRefusal e r).evaluator = s.evaluator := by
  simp only [State.setRefusal]
  simp

@[simp] theorem resetRecord_evaluator (s : State) (s0 c o) : (s.resetRecord s0 c o).evaluator = s.evaluator := by
  simp only [State.resetRecord]
  simp

@[simp] theorem endPending_evaluator (s : State) (s0 c o) : (s.endPending s0 c o).evaluator = s.evaluator := by
  simp only [State.endPending]
  (repeat' split) <;> simp

@[simp] theorem requestUndelivered_evaluator (s : State) (e n) : (s.requestUndelivered e n).evaluator = s.evaluator := by
  simp only [State.requestUndelivered]
  (repeat' split) <;> simp

@[simp] theorem confirmDelivered_evaluator (s : State) (e n) : (s.confirmDelivered e n).evaluator = s.evaluator := by
  simp only [State.confirmDelivered]
  (repeat' split) <;> simp

@[simp] theorem switchRecord_evaluator (s : State) (k d o r c) : (s.switchRecord k d o r c).evaluator = s.evaluator := by
  simp only [State.switchRecord]
  (repeat' split) <;> simp

@[simp] theorem settleTapper_evaluator (s : State) (e) : (s.settleTapper e).evaluator = s.evaluator := by
  simp only [State.settleTapper]
  simp

@[simp] theorem flushPlayout_evaluator (s : State) (e) : (s.flushPlayout e).evaluator = s.evaluator := by
  simp only [State.flushPlayout]
  simp

@[simp] theorem beatTaken_evaluator (s : State) (e p) : (s.beatTaken e p).evaluator = s.evaluator := by
  simp only [State.beatTaken]
  (repeat' split) <;> simp

@[simp] theorem beatDue_evaluator (s : State) (e) : (s.beatDue e).evaluator = s.evaluator := by
  simp only [State.beatDue]
  (repeat' split) <;> simp

@[simp] theorem strikeEnd_evaluator (s : State) (e) : (s.strikeEnd e).evaluator = s.evaluator := by
  simp only [State.strikeEnd]
  (repeat' split) <;> simp

@[simp] theorem offerHoldExpiry_evaluator (s : State) (e) : (s.offerHoldExpiry e).evaluator = s.evaluator := by
  simp only [State.offerHoldExpiry]
  (repeat' split) <;> simp

@[simp] theorem refusePress_evaluator (s : State) (c o) : (s.refusePress c o).evaluator = s.evaluator := by
  simp only [State.refusePress]
  simp

@[simp] theorem settleKey_evaluator (s : State) (c) : (s.settleKey c).evaluator = s.evaluator := by
  simp only [State.settleKey]
  simp

@[simp] theorem resetRequestWindowExpiry_evaluator (s : State) (c) : (s.resetRequestWindowExpiry c).evaluator = s.evaluator := by
  simp only [State.resetRequestWindowExpiry]
  (repeat' split) <;> simp

@[simp] theorem heldRequestWindowExpiry_evaluator (s : State) (c) : (s.heldRequestWindowExpiry c).evaluator = s.evaluator := by
  simp only [State.heldRequestWindowExpiry]
  (repeat' split) <;> simp

@[simp] theorem moveSects_evaluator (s : State) (h f) : (s.moveSects h f).evaluator = s.evaluator := rfl

@[simp] theorem linkRecord_evaluator (s : State) (e b n) : (s.linkRecord e b n).evaluator = s.evaluator := by
  simp only [State.linkRecord]
  (repeat' split) <;> simp

@[simp] theorem settleSwitch_evaluator (s : State) (e) : (s.settleSwitch e).evaluator = s.evaluator := by
  simp only [State.settleSwitch]
  simp

@[simp] theorem settleTos_evaluator (s : State) (e) : (s.settleTos e).evaluator = s.evaluator := by
  simp only [State.settleTos]
  simp

@[simp] theorem settleCancel_evaluator (s : State) (e) : (s.settleCancel e).evaluator = s.evaluator := by
  simp only [State.settleCancel]
  simp

@[simp] theorem acceptRefused_evaluator (s : State) (e n r m) : (s.acceptRefused e n r m).evaluator = s.evaluator := by
  simp only [State.acceptRefused]
  simp

@[simp] theorem plungerOrKeyRelease_evaluator (s : State) (x) : (s.plungerOrKeyRelease x).evaluator = s.evaluator := by
  simp only [State.plungerOrKeyRelease]
  (repeat' split) <;> simp

@[simp] theorem refusalMarkExpiry_evaluator (s : State) (e) : (s.refusalMarkExpiry e).evaluator = s.evaluator := by
  simp only [State.refusalMarkExpiry]
  (repeat' split) <;> simp

@[simp] theorem refuseAccept_evaluator (s : State) (e r n) : (s.refuseAccept e r n).evaluator = s.evaluator := by
  simp only [State.refuseAccept]
  simp

@[simp] theorem markMismatch_evaluator (s : State) (e f) : (s.markMismatch e f).evaluator = s.evaluator := by
  simp only [State.markMismatch]
  (repeat' split) <;> simp

@[simp] theorem clearMismatch_evaluator (s : State) (e) : (s.clearMismatch e).evaluator = s.evaluator := by
  simp only [State.clearMismatch]
  simp

@[simp] theorem clearOutstanding_evaluator (s : State) (e n) : (s.clearOutstanding e n).evaluator = s.evaluator := by
  simp only [State.clearOutstanding]
  (repeat' split) <;> simp

@[simp] theorem blockDelivered_evaluator (s : State) (e n) : (s.blockDelivered e n).evaluator = s.evaluator := by
  simp only [State.blockDelivered]
  (repeat' split) <;> simp

@[simp] theorem refuseLocally_evaluator (s : State) (d r k) : (s.refuseLocally d r k).evaluator = s.evaluator := by
  simp only [State.refuseLocally]
  simp

@[simp] theorem formProposal_evaluator (s : State) (d) : (s.formProposal d).evaluator = s.evaluator := by
  simp only [State.formProposal]
  simp

@[simp] theorem markCommit_evaluator (s : State) (b m) : (s.markCommit b m).evaluator = s.evaluator := by
  simp only [State.markCommit]
  (repeat' split) <;> simp

@[simp] theorem markAgreed_evaluator (s : State) (e) : (s.markAgreed e).evaluator = s.evaluator := by
  simp only [State.markAgreed]
  simp

@[simp] theorem dropHold_evaluator (s : State) : (s.dropHold).evaluator = s.evaluator := by
  simp only [State.dropHold]
  simp

@[simp] theorem recordOverheard_evaluator (s : State) (f) : (s.recordOverheard f).evaluator = s.evaluator := by
  simp only [State.recordOverheard]
  (repeat' split) <;> simp

@[simp] theorem settleSwitchKey_evaluator (s : State) : (s.settleSwitchKey).evaluator = s.evaluator := by
  simp only [State.settleSwitchKey]
  simp

@[simp] theorem beginFrame_evaluator (s : State) (i f) : (s.beginFrame i f).evaluator = s.evaluator := by
  simp only [State.beginFrame]
  simp

@[simp] theorem frameStart_evaluator (s : State) : (s.frameStart).evaluator = s.evaluator := by
  simp only [State.frameStart]
  (repeat' split) <;> simp

@[simp] theorem contentionLost_evaluator (s : State) : (s.contentionLost).evaluator = s.evaluator := by
  simp only [State.contentionLost]
  (repeat' split) <;> simp

@[simp] theorem startBitSeen_evaluator (s : State) : (s.startBitSeen).evaluator = s.evaluator := by
  simp only [State.startBitSeen]
  (repeat' split) <;> simp

@[simp] theorem frameBrokenOff_evaluator (s : State) : (s.frameBrokenOff).evaluator = s.evaluator := by
  simp only [State.frameBrokenOff]
  (repeat' split) <;> simp

@[simp] theorem acknowledgeDecision_evaluator (s : State) (l) : (s.acknowledgeDecision l).evaluator = s.evaluator := by
  simp only [State.acknowledgeDecision]
  (repeat' split) <;> simp

@[simp] theorem duplicateIdentity_evaluator (s : State) (f) : (s.duplicateIdentity f).evaluator = s.evaluator := by
  simp only [State.duplicateIdentity]
  simp

@[simp] theorem statusRefreshExpiry_evaluator (s : State) (e) : (s.statusRefreshExpiry e).evaluator = s.evaluator := by
  simp only [State.statusRefreshExpiry]
  (repeat' split) <;> simp

@[simp] theorem flasherHalfExpiry_evaluator (s : State) : (s.flasherHalfExpiry).evaluator = s.evaluator := by
  simp only [State.flasherHalfExpiry]
  (repeat' split) <;> simp

end Sys2Proof.Machine
end

