-- ==== Sys2Proof/Laws/KeepLine.lean ====
section
/-! SUPPORT. The operations that leave the line controller alone: one lemma per operation, on the field `line` of the state. -/

namespace Sys2Proof.Machine

theorem foldl_line {α : Type} (l : List α) (f : State → α → State) (h : ∀ s a, (f s a).line = s.line) (s : State) :
    (l.foldl f s).line = s.line := by
  induction l generalizing s with
  | nil => rfl
  | cons a l ih => rw [List.foldl_cons, ih, h]

@[simp] theorem freeCount_line (s : State) (n) : ({ s with freeCount := n } : State).line = s.line := rfl

@[simp] theorem append_line (s : State) (r) : (s.append r).line = s.line := by
  simp only [State.append]
  simp

@[simp] theorem judgeProposal_line (s : State) : (s.judgeProposal).line = s.line := by
  simp only [State.judgeProposal]
  (repeat' split) <;> simp

@[simp] theorem evaluate_line (s : State) (f) : (s.evaluate f).line = s.line := by
  simp only [State.evaluate]
  (repeat' split) <;> simp

@[simp] theorem reportPosition_line (s : State) (i) : (s.reportPosition i).line = s.line := by
  simp only [State.reportPosition]
  simp

@[simp] theorem reportDetection_line (s : State) (d) : (s.reportDetection d).line = s.line := by
  simp only [State.reportDetection]
  simp

@[simp] theorem reportBlock_line (s : State) (e) : (s.reportBlock e).line = s.line := by
  simp only [State.reportBlock]
  simp

@[simp] theorem reportCount_line (s : State) (c) : (s.reportCount c).line = s.line := by
  simp only [State.reportCount]
  simp

@[simp] theorem judgeDetection_line (s : State) (d) : (s.judgeDetection d).line = s.line := by
  simp only [State.judgeDetection]
  (repeat' split) <;> simp

@[simp] theorem judgeDetections_line (s : State) (names) : (s.judgeDetections names).line = s.line :=
  foldl_line _ _ (fun s d => by split <;> simp) s

@[simp] theorem reportChannel_line (s : State) (c) : (s.reportChannel c).line = s.line := by
  simp only [State.reportChannel]
  simp

@[simp] theorem reportCountToCombiner_line (s : State) (c) : (s.reportCountToCombiner c).line = s.line := by
  simp only [State.reportCountToCombiner]
  simp

@[simp] theorem clearOffer_line (s : State) (e) : (s.clearOffer e).line = s.line := by
  simp only [State.clearOffer]
  simp

@[simp] theorem blockRecord_line (s : State) (e old cause op) : (s.blockRecord e old cause op).line = s.line := by
  simp only [State.blockRecord]
  simp

@[simp] theorem refuseOperation_line (s : State) (e cause op) : (s.refuseOperation e cause op).line = s.line := by
  simp only [State.refuseOperation]
  simp

@[simp] theorem reportStateToSwitching_line (s : State) (e) : (s.reportStateToSwitching e).line = s.line := by
  simp only [State.reportStateToSwitching]
  (repeat' split) <;> simp

@[simp] theorem resetRecord_line (s : State) (s0 c o) : (s.resetRecord s0 c o).line = s.line := by
  simp only [State.resetRecord]
  simp

@[simp] theorem endPending_line (s : State) (s0 c o) : (s.endPending s0 c o).line = s.line := by
  simp only [State.endPending]
  (repeat' split) <;> simp

@[simp] theorem requestUndelivered_line (s : State) (e n) : (s.requestUndelivered e n).line = s.line := by
  simp only [State.requestUndelivered]
  (repeat' split) <;> simp

theorem changeSect_noEntry_line (s : State) (c f) (hi : ¬(s.indication c = .zero ∧ (s.modSect c f).indication c = .nonzero)) : (s.changeSect c f).line = s.line := by
  simp only [State.changeSect, State.reportSect]
  split <;> (try split) <;> (try split) <;> simp_all
theorem disturb_indication_line (s : State) (c) : (s.modSect c fun x => { x.disturb with confirming := Option.none }).indication c = s.indication c := by
  simp only [State.indication, State.modSect, indication, content, Sect.disturb]
  simp
@[simp] theorem confirmUndelivered_line (s : State) (e n) : (s.confirmUndelivered e n).line = s.line := by
  simp only [State.confirmUndelivered]
  (repeat' split) <;> (try simp)
  all_goals (
    rw [changeSect_noEntry_line]
    rw [disturb_indication_line]
    rintro ⟨h, h'⟩
    rw [h] at h'
    cases h')

@[simp] theorem confirmDelivered_line (s : State) (e n) : (s.confirmDelivered e n).line = s.line := by
  simp only [State.confirmDelivered]
  (repeat' split) <;> simp

@[simp] theorem switchRecord_line (s : State) (k d o r c) : (s.switchRecord k d o r c).line = s.line := by
  simp only [State.switchRecord]
  (repeat' split) <;> simp

@[simp] theorem settleTapper_line (s : State) (e) : (s.settleTapper e).line = s.line := by
  simp only [State.settleTapper]
  simp

@[simp] theorem flushPlayout_line (s : State) (e) : (s.flushPlayout e).line = s.line := by
  simp only [State.flushPlayout]
  simp

@[simp] theorem beatTaken_line (s : State) (e p) : (s.beatTaken e p).line = s.line := by
  simp only [State.beatTaken]
  (repeat' split) <;> simp

@[simp] theorem beatDue_line (s : State) (e) : (s.beatDue e).line = s.line := by
  simp only [State.beatDue]
  (repeat' split) <;> simp

@[simp] theorem strikeEnd_line (s : State) (e) : (s.strikeEnd e).line = s.line := by
  simp only [State.strikeEnd]
  (repeat' split) <;> simp

@[simp] theorem offerHoldExpiry_line (s : State) (e) : (s.offerHoldExpiry e).line = s.line := by
  simp only [State.offerHoldExpiry]
  (repeat' split) <;> simp

@[simp] theorem refusePress_line (s : State) (c o) : (s.refusePress c o).line = s.line := by
  simp only [State.refusePress]
  simp

@[simp] theorem settleKey_line (s : State) (c) : (s.settleKey c).line = s.line := by
  simp only [State.settleKey]
  simp

@[simp] theorem resetRequestWindowExpiry_line (s : State) (c) : (s.resetRequestWindowExpiry c).line = s.line := by
  simp only [State.resetRequestWindowExpiry]
  (repeat' split) <;> simp

@[simp] theorem heldRequestWindowExpiry_line (s : State) (c) : (s.heldRequestWindowExpiry c).line = s.line := by
  simp only [State.heldRequestWindowExpiry]
  (repeat' split) <;> simp

@[simp] theorem moveSects_line (s : State) (h f) : (s.moveSects h f).line = s.line := rfl

@[simp] theorem linkRecord_line (s : State) (e b n) : (s.linkRecord e b n).line = s.line := by
  simp only [State.linkRecord]
  (repeat' split) <;> simp

@[simp] theorem settleSwitch_line (s : State) (e) : (s.settleSwitch e).line = s.line := by
  simp only [State.settleSwitch]
  simp

@[simp] theorem settleTos_line (s : State) (e) : (s.settleTos e).line = s.line := by
  simp only [State.settleTos]
  simp

@[simp] theorem settleCancel_line (s : State) (e) : (s.settleCancel e).line = s.line := by
  simp only [State.settleCancel]
  simp

@[simp] theorem acceptRefused_line (s : State) (e n r m) : (s.acceptRefused e n r m).line = s.line := by
  simp only [State.acceptRefused]
  simp

@[simp] theorem plungerOrKeyRelease_line (s : State) (x) : (s.plungerOrKeyRelease x).line = s.line := by
  simp only [State.plungerOrKeyRelease]
  (repeat' split) <;> simp

@[simp] theorem markMismatch_line (s : State) (e f) : (s.markMismatch e f).line = s.line := by
  simp only [State.markMismatch]
  (repeat' split) <;> simp

@[simp] theorem clearMismatch_line (s : State) (e) : (s.clearMismatch e).line = s.line := by
  simp only [State.clearMismatch]
  simp

@[simp] theorem clearOutstanding_line (s : State) (e n) : (s.clearOutstanding e n).line = s.line := by
  simp only [State.clearOutstanding]
  (repeat' split) <;> simp

@[simp] theorem blockDelivered_line (s : State) (e n) : (s.blockDelivered e n).line = s.line := by
  simp only [State.blockDelivered]
  (repeat' split) <;> simp

@[simp] theorem refuseLocally_line (s : State) (d r k) : (s.refuseLocally d r k).line = s.line := by
  simp only [State.refuseLocally]
  simp

@[simp] theorem formProposal_line (s : State) (d) : (s.formProposal d).line = s.line := by
  simp only [State.formProposal]
  simp

@[simp] theorem markCommit_line (s : State) (b m) : (s.markCommit b m).line = s.line := by
  simp only [State.markCommit]
  (repeat' split) <;> simp

@[simp] theorem markAgreed_line (s : State) (e) : (s.markAgreed e).line = s.line := by
  simp only [State.markAgreed]
  simp

@[simp] theorem dropHold_line (s : State) : (s.dropHold).line = s.line := by
  simp only [State.dropHold]
  simp

@[simp] theorem recordOverheard_line (s : State) (f) : (s.recordOverheard f).line = s.line := by
  simp only [State.recordOverheard]
  (repeat' split) <;> simp

@[simp] theorem settleSwitchKey_line (s : State) : (s.settleSwitchKey).line = s.line := by
  simp only [State.settleSwitchKey]
  simp

@[simp] theorem duplicateIdentity_line (s : State) (f) : (s.duplicateIdentity f).line = s.line := by
  simp only [State.duplicateIdentity]
  simp

@[simp] theorem normalForExpiry_line (s : State) (k) : (s.normalForExpiry k).line = s.line := by
  simp only [State.normalForExpiry]
  (repeat' split) <;> simp

@[simp] theorem flasherHalfExpiry_line (s : State) : (s.flasherHalfExpiry).line = s.line := by
  simp only [State.flasherHalfExpiry]
  (repeat' split) <;> simp

end Sys2Proof.Machine
end

