-- ==== Sys2Proof/Laws/KeepPort.lean ====
section
/-! SUPPORT. The operations that leave the maintenance port and its event queue alone: one lemma per operation, on the field `port` of the state. -/

namespace Sys2Proof.Machine

theorem foldl_port {α : Type} (l : List α) (f : State → α → State) (h : ∀ s a, (f s a).port = s.port) (s : State) :
    (l.foldl f s).port = s.port := by
  induction l generalizing s with
  | nil => rfl
  | cons a l ih => rw [List.foldl_cons, ih, h]

@[simp] theorem freeCount_port (s : State) (n) : ({ s with freeCount := n } : State).port = s.port := rfl

@[simp] theorem judgeProposal_port (s : State) : (s.judgeProposal).port = s.port := by
  simp only [State.judgeProposal]
  (repeat' split) <;> simp

@[simp] theorem evaluate_port (s : State) (f) : (s.evaluate f).port = s.port := by
  simp only [State.evaluate]
  (repeat' split) <;> simp

@[simp] theorem reportPosition_port (s : State) (i) : (s.reportPosition i).port = s.port := by
  simp only [State.reportPosition]
  simp

@[simp] theorem reportDetection_port (s : State) (d) : (s.reportDetection d).port = s.port := by
  simp only [State.reportDetection]
  simp

@[simp] theorem reportBlock_port (s : State) (e) : (s.reportBlock e).port = s.port := by
  simp only [State.reportBlock]
  simp

@[simp] theorem reportCount_port (s : State) (c) : (s.reportCount c).port = s.port := by
  simp only [State.reportCount]
  simp

@[simp] theorem raiseStatus_port (s : State) (e) : (s.raiseStatus e).port = s.port := by
  simp only [State.raiseStatus]
  (repeat' split) <;> simp

@[simp] theorem serveOwed_port (s : State) (e) : (s.serveOwed e).port = s.port := by
  simp only [State.serveOwed]
  simp

@[simp] theorem serveFirstOwed_port (s : State) : (s.serveFirstOwed).port = s.port := by
  simp only [State.serveFirstOwed]
  (repeat' split) <;> simp

@[simp] theorem clearOffer_port (s : State) (e) : (s.clearOffer e).port = s.port := by
  simp only [State.clearOffer]
  simp

@[simp] theorem reportStateToSwitching_port (s : State) (e) : (s.reportStateToSwitching e).port = s.port := by
  simp only [State.reportStateToSwitching]
  (repeat' split) <;> simp

@[simp] theorem setRefusal_port (s : State) (e r) : (s.setRefusal e r).port = s.port := by
  simp only [State.setRefusal]
  simp

@[simp] theorem confirmDelivered_port (s : State) (e n) : (s.confirmDelivered e n).port = s.port := by
  simp only [State.confirmDelivered]
  (repeat' split) <;> simp

@[simp] theorem settleTapper_port (s : State) (e) : (s.settleTapper e).port = s.port := by
  simp only [State.settleTapper]
  simp

@[simp] theorem flushPlayout_port (s : State) (e) : (s.flushPlayout e).port = s.port := by
  simp only [State.flushPlayout]
  simp

@[simp] theorem beatDue_port (s : State) (e) : (s.beatDue e).port = s.port := by
  simp only [State.beatDue]
  (repeat' split) <;> simp

@[simp] theorem strikeEnd_port (s : State) (e) : (s.strikeEnd e).port = s.port := by
  simp only [State.strikeEnd]
  (repeat' split) <;> simp

@[simp] theorem offerHoldExpiry_port (s : State) (e) : (s.offerHoldExpiry e).port = s.port := by
  simp only [State.offerHoldExpiry]
  (repeat' split) <;> simp

@[simp] theorem settleKey_port (s : State) (c) : (s.settleKey c).port = s.port := by
  simp only [State.settleKey]
  simp

@[simp] theorem heldRequestWindowExpiry_port (s : State) (c) : (s.heldRequestWindowExpiry c).port = s.port := by
  simp only [State.heldRequestWindowExpiry]
  (repeat' split) <;> simp

@[simp] theorem moveSects_port (s : State) (h f) : (s.moveSects h f).port = s.port := rfl

@[simp] theorem settleSwitch_port (s : State) (e) : (s.settleSwitch e).port = s.port := by
  simp only [State.settleSwitch]
  simp

@[simp] theorem settleTos_port (s : State) (e) : (s.settleTos e).port = s.port := by
  simp only [State.settleTos]
  simp

@[simp] theorem settleCancel_port (s : State) (e) : (s.settleCancel e).port = s.port := by
  simp only [State.settleCancel]
  simp

@[simp] theorem plungerOrKeyRelease_port (s : State) (x) : (s.plungerOrKeyRelease x).port = s.port := by
  simp only [State.plungerOrKeyRelease]
  (repeat' split) <;> simp

@[simp] theorem refusalMarkExpiry_port (s : State) (e) : (s.refusalMarkExpiry e).port = s.port := by
  simp only [State.refusalMarkExpiry]
  (repeat' split) <;> simp

@[simp] theorem clearMismatch_port (s : State) (e) : (s.clearMismatch e).port = s.port := by
  simp only [State.clearMismatch]
  simp

@[simp] theorem clearOutstanding_port (s : State) (e n) : (s.clearOutstanding e n).port = s.port := by
  simp only [State.clearOutstanding]
  (repeat' split) <;> simp

@[simp] theorem blockDelivered_port (s : State) (e n) : (s.blockDelivered e n).port = s.port := by
  simp only [State.blockDelivered]
  (repeat' split) <;> simp

@[simp] theorem markCommit_port (s : State) (b m) : (s.markCommit b m).port = s.port := by
  simp only [State.markCommit]
  (repeat' split) <;> simp

@[simp] theorem markAgreed_port (s : State) (e) : (s.markAgreed e).port = s.port := by
  simp only [State.markAgreed]
  simp

@[simp] theorem dropHold_port (s : State) : (s.dropHold).port = s.port := by
  simp only [State.dropHold]
  simp

@[simp] theorem recordOverheard_port (s : State) (f) : (s.recordOverheard f).port = s.port := by
  simp only [State.recordOverheard]
  (repeat' split) <;> simp

@[simp] theorem settleSwitchKey_port (s : State) : (s.settleSwitchKey).port = s.port := by
  simp only [State.settleSwitchKey]
  simp

@[simp] theorem beginFrame_port (s : State) (i f) : (s.beginFrame i f).port = s.port := by
  simp only [State.beginFrame]
  simp

@[simp] theorem frameStart_port (s : State) : (s.frameStart).port = s.port := by
  simp only [State.frameStart]
  (repeat' split) <;> simp

@[simp] theorem contentionLost_port (s : State) : (s.contentionLost).port = s.port := by
  simp only [State.contentionLost]
  (repeat' split) <;> simp

@[simp] theorem startBitSeen_port (s : State) : (s.startBitSeen).port = s.port := by
  simp only [State.startBitSeen]
  (repeat' split) <;> simp

@[simp] theorem frameBrokenOff_port (s : State) : (s.frameBrokenOff).port = s.port := by
  simp only [State.frameBrokenOff]
  (repeat' split) <;> simp

@[simp] theorem acknowledgeDecision_port (s : State) (l) : (s.acknowledgeDecision l).port = s.port := by
  simp only [State.acknowledgeDecision]
  (repeat' split) <;> simp

@[simp] theorem statusRefreshExpiry_port (s : State) (e) : (s.statusRefreshExpiry e).port = s.port := by
  simp only [State.statusRefreshExpiry]
  (repeat' split) <;> simp

@[simp] theorem normalForExpiry_port (s : State) (k) : (s.normalForExpiry k).port = s.port := by
  simp only [State.normalForExpiry]
  (repeat' split) <;> simp

@[simp] theorem flasherHalfExpiry_port (s : State) : (s.flasherHalfExpiry).port = s.port := by
  simp only [State.flasherHalfExpiry]
  (repeat' split) <;> simp

end Sys2Proof.Machine
end

