-- ==== Sys2Proof/Laws/KeepSects.lean ====
section
/-! SUPPORT. The operations that leave the count sections alone: one lemma per operation, on the field `sects` of the state. -/

namespace Sys2Proof.Machine

theorem foldl_sects {α : Type} (l : List α) (f : State → α → State) (h : ∀ s a, (f s a).sects = s.sects) (s : State) :
    (l.foldl f s).sects = s.sects := by
  induction l generalizing s with
  | nil => rfl
  | cons a l ih => rw [List.foldl_cons, ih, h]

@[simp] theorem freeCount_sects (s : State) (n) : ({ s with freeCount := n } : State).sects = s.sects := rfl

@[simp] theorem append_sects (s : State) (r) : (s.append r).sects = s.sects := by
  simp only [State.append]
  simp

@[simp] theorem judgeProposal_sects (s : State) : (s.judgeProposal).sects = s.sects := by
  simp only [State.judgeProposal]
  (repeat' split) <;> simp

@[simp] theorem evaluate_sects (s : State) (f) : (s.evaluate f).sects = s.sects := by
  simp only [State.evaluate]
  (repeat' split) <;> simp

@[simp] theorem reportPosition_sects (s : State) (i) : (s.reportPosition i).sects = s.sects := by
  simp only [State.reportPosition]
  simp

@[simp] theorem reportDetection_sects (s : State) (d) : (s.reportDetection d).sects = s.sects := by
  simp only [State.reportDetection]
  simp

@[simp] theorem reportBlock_sects (s : State) (e) : (s.reportBlock e).sects = s.sects := by
  simp only [State.reportBlock]
  simp

@[simp] theorem reportCount_sects (s : State) (c) : (s.reportCount c).sects = s.sects := by
  simp only [State.reportCount]
  simp

@[simp] theorem judgeDetection_sects (s : State) (d) : (s.judgeDetection d).sects = s.sects := by
  simp only [State.judgeDetection]
  (repeat' split) <;> simp

@[simp] theorem judgeDetections_sects (s : State) (names) : (s.judgeDetections names).sects = s.sects :=
  foldl_sects _ _ (fun s d => by split <;> simp) s

@[simp] theorem reportChannel_sects (s : State) (c) : (s.reportChannel c).sects = s.sects := by
  simp only [State.reportChannel]
  simp

@[simp] theorem reportCountToCombiner_sects (s : State) (c) : (s.reportCountToCombiner c).sects = s.sects := by
  simp only [State.reportCountToCombiner]
  simp

@[simp] theorem raiseStatus_sects (s : State) (e) : (s.raiseStatus e).sects = s.sects := by
  simp only [State.raiseStatus]
  (repeat' split) <;> simp

@[simp] theorem serveOwed_sects (s : State) (e) : (s.serveOwed e).sects = s.sects := by
  simp only [State.serveOwed]
  simp

@[simp] theorem serveFirstOwed_sects (s : State) : (s.serveFirstOwed).sects = s.sects := by
  simp only [State.serveFirstOwed]
  (repeat' split) <;> simp

@[simp] theorem clearOffer_sects (s : State) (e) : (s.clearOffer e).sects = s.sects := by
  simp only [State.clearOffer]
  simp

@[simp] theorem blockRecord_sects (s : State) (e old cause op) : (s.blockRecord e old cause op).sects = s.sects := by
  simp only [State.blockRecord]
  simp

@[simp] theorem refuseOperation_sects (s : State) (e cause op) : (s.refuseOperation e cause op).sects = s.sects := by
  simp only [State.refuseOperation]
  simp

@[simp] theorem reportStateToSwitching_sects (s : State) (e) : (s.reportStateToSwitching e).sects = s.sects := by
  simp only [State.reportStateToSwitching]
  (repeat' split) <;> simp

@[simp] theorem reportEndChange_sects (s : State) (e old cause) : (s.reportEndChange e old cause).sects = s.sects := by
  simp only [State.reportEndChange]
  (repeat' split) <;> simp

@[simp] theorem changeEnd_sects (s : State) (e st rel cause) : (s.changeEnd e st rel cause).sects = s.sects := by
  simp only [State.changeEnd]
  (repeat' split) <;> simp

@[simp] theorem setRefusal_sects (s : State) (e r) : (s.setRefusal e r).sects = s.sects := by
  simp only [State.setRefusal]
  simp

@[simp] theorem starterLeft_sects (s : State) (e) : (s.starterLeft e).sects = s.sects := by
  simp only [State.starterLeft]
  (repeat' split) <;> simp

@[simp] theorem starterReturned_sects (s : State) (e) : (s.starterReturned e).sects = s.sects := by
  simp only [State.starterReturned]
  (repeat' split) <;> simp

@[simp] theorem trainEntry_sects (s : State) (e) : (s.trainEntry e).sects = s.sects := by
  simp only [State.trainEntry]
  (repeat' split) <;> simp

@[simp] theorem suspendRelease_sects (s : State) (e) : (s.suspendRelease e).sects = s.sects := by
  simp only [State.suspendRelease]
  (repeat' split) <;> simp

@[simp] theorem obstruct_sects (s : State) (e) : (s.obstruct e).sects = s.sects := by
  simp only [State.obstruct]
  (repeat' split) <;> simp

@[simp] theorem unobstruct_sects (s : State) (e) : (s.unobstruct e).sects = s.sects := by
  simp only [State.unobstruct]
  (repeat' split) <;> simp

@[simp] theorem reportSect_sects (s : State) (s0 c) : (s.reportSect s0 c).sects = s.sects := by
  simp only [State.reportSect]
  (repeat' split) <;> simp

@[simp] theorem resetRecord_sects (s : State) (s0 c o) : (s.resetRecord s0 c o).sects = s.sects := by
  simp only [State.resetRecord]
  simp

@[simp] theorem endPending_sects (s : State) (s0 c o) : (s.endPending s0 c o).sects = s.sects := by
  simp only [State.endPending]
  (repeat' split) <;> simp

@[simp] theorem switchRecord_sects (s : State) (k d o r c) : (s.switchRecord k d o r c).sects = s.sects := by
  simp only [State.switchRecord]
  (repeat' split) <;> simp

@[simp] theorem settleTapper_sects (s : State) (e) : (s.settleTapper e).sects = s.sects := by
  simp only [State.settleTapper]
  simp

@[simp] theorem flushPlayout_sects (s : State) (e) : (s.flushPlayout e).sects = s.sects := by
  simp only [State.flushPlayout]
  simp

@[simp] theorem actOnCode_sects (s : State) (e k n) : (s.actOnCode e k n).sects = s.sects := by
  simp only [State.actOnCode]
  (repeat' split) <;> simp

@[simp] theorem codeTaken_sects (s : State) (e p) : (s.codeTaken e p).sects = s.sects := by
  simp only [State.codeTaken]
  (repeat' split) <;> simp

@[simp] theorem beatTaken_sects (s : State) (e p) : (s.beatTaken e p).sects = s.sects := by
  simp only [State.beatTaken]
  (repeat' split) <;> simp

@[simp] theorem beatDue_sects (s : State) (e) : (s.beatDue e).sects = s.sects := by
  simp only [State.beatDue]
  (repeat' split) <;> simp

@[simp] theorem strikeEnd_sects (s : State) (e) : (s.strikeEnd e).sects = s.sects := by
  simp only [State.strikeEnd]
  (repeat' split) <;> simp

@[simp] theorem offerHoldExpiry_sects (s : State) (e) : (s.offerHoldExpiry e).sects = s.sects := by
  simp only [State.offerHoldExpiry]
  (repeat' split) <;> simp

@[simp] theorem refusePress_sects (s : State) (c o) : (s.refusePress c o).sects = s.sects := by
  simp only [State.refusePress]
  simp

@[simp] theorem reportSects_sects (s : State) (s0 h) : (s.reportSects s0 h).sects = s.sects :=
  foldl_sects _ _ (fun s c => by simp) s

@[simp] theorem linkRecord_sects (s : State) (e b n) : (s.linkRecord e b n).sects = s.sects := by
  simp only [State.linkRecord]
  (repeat' split) <;> simp

@[simp] theorem settleSwitch_sects (s : State) (e) : (s.settleSwitch e).sects = s.sects := by
  simp only [State.settleSwitch]
  simp

@[simp] theorem settleTos_sects (s : State) (e) : (s.settleTos e).sects = s.sects := by
  simp only [State.settleTos]
  simp

@[simp] theorem settleCancel_sects (s : State) (e) : (s.settleCancel e).sects = s.sects := by
  simp only [State.settleCancel]
  simp

@[simp] theorem acceptRefused_sects (s : State) (e n r m) : (s.acceptRefused e n r m).sects = s.sects := by
  simp only [State.acceptRefused]
  simp

@[simp] theorem refusalMarkExpiry_sects (s : State) (e) : (s.refusalMarkExpiry e).sects = s.sects := by
  simp only [State.refusalMarkExpiry]
  (repeat' split) <;> simp

@[simp] theorem grant_sects (s : State) (e n c) : (s.grant e n c).sects = s.sects := by
  simp only [State.grant]
  simp

@[simp] theorem refuseAccept_sects (s : State) (e r n) : (s.refuseAccept e r n).sects = s.sects := by
  simp only [State.refuseAccept]
  simp

@[simp] theorem crossedAccept_sects (s : State) (e m n) : (s.crossedAccept e m n).sects = s.sects := by
  simp only [State.crossedAccept]
  (repeat' split) <;> simp

@[simp] theorem acceptTaken_sects (s : State) (e m n) : (s.acceptTaken e m n).sects = s.sects := by
  simp only [State.acceptTaken]
  (repeat' split) <;> simp

@[simp] theorem withdrawTaken_sects (s : State) (e) : (s.withdrawTaken e).sects = s.sects := by
  simp only [State.withdrawTaken]
  (repeat' split) <;> simp

@[simp] theorem tosTaken_sects (s : State) (e) : (s.tosTaken e).sects = s.sects := by
  simp only [State.tosTaken]
  (repeat' split) <;> simp

@[simp] theorem cancelTaken_sects (s : State) (e) : (s.cancelTaken e).sects = s.sects := by
  simp only [State.cancelTaken]
  (repeat' split) <;> simp

@[simp] theorem markMismatch_sects (s : State) (e f) : (s.markMismatch e f).sects = s.sects := by
  simp only [State.markMismatch]
  (repeat' split) <;> simp

@[simp] theorem clearMismatch_sects (s : State) (e) : (s.clearMismatch e).sects = s.sects := by
  simp only [State.clearMismatch]
  simp

@[simp] theorem answerAccepting_sects (s : State) (e f) : (s.answerAccepting e f).sects = s.sects := by
  simp only [State.answerAccepting]
  (repeat' split) <;> simp

@[simp] theorem clearOutstanding_sects (s : State) (e n) : (s.clearOutstanding e n).sects = s.sects := by
  simp only [State.clearOutstanding]
  (repeat' split) <;> simp

@[simp] theorem blockDelivered_sects (s : State) (e n) : (s.blockDelivered e n).sects = s.sects := by
  simp only [State.blockDelivered]
  (repeat' split) <;> simp

@[simp] theorem blockUndelivered_sects (s : State) (e n) : (s.blockUndelivered e n).sects = s.sects := by
  simp only [State.blockUndelivered]
  (repeat' split) <;> simp

@[simp] theorem refuseLocally_sects (s : State) (d r k) : (s.refuseLocally d r k).sects = s.sects := by
  simp only [State.refuseLocally]
  simp

@[simp] theorem formProposal_sects (s : State) (d) : (s.formProposal d).sects = s.sects := by
  simp only [State.formProposal]
  simp

@[simp] theorem markCommit_sects (s : State) (b m) : (s.markCommit b m).sects = s.sects := by
  simp only [State.markCommit]
  (repeat' split) <;> simp

@[simp] theorem markAgreed_sects (s : State) (e) : (s.markAgreed e).sects = s.sects := by
  simp only [State.markAgreed]
  simp

@[simp] theorem dropHold_sects (s : State) : (s.dropHold).sects = s.sects := by
  simp only [State.dropHold]
  simp

@[simp] theorem recordOverheard_sects (s : State) (f) : (s.recordOverheard f).sects = s.sects := by
  simp only [State.recordOverheard]
  (repeat' split) <;> simp

@[simp] theorem settleSwitchKey_sects (s : State) : (s.settleSwitchKey).sects = s.sects := by
  simp only [State.settleSwitchKey]
  simp

@[simp] theorem beginFrame_sects (s : State) (i f) : (s.beginFrame i f).sects = s.sects := by
  simp only [State.beginFrame]
  simp

@[simp] theorem frameStart_sects (s : State) : (s.frameStart).sects = s.sects := by
  simp only [State.frameStart]
  (repeat' split) <;> simp

@[simp] theorem contentionLost_sects (s : State) : (s.contentionLost).sects = s.sects := by
  simp only [State.contentionLost]
  (repeat' split) <;> simp

@[simp] theorem startBitSeen_sects (s : State) : (s.startBitSeen).sects = s.sects := by
  simp only [State.startBitSeen]
  (repeat' split) <;> simp

@[simp] theorem frameBrokenOff_sects (s : State) : (s.frameBrokenOff).sects = s.sects := by
  simp only [State.frameBrokenOff]
  (repeat' split) <;> simp

@[simp] theorem acknowledgeDecision_sects (s : State) (l) : (s.acknowledgeDecision l).sects = s.sects := by
  simp only [State.acknowledgeDecision]
  (repeat' split) <;> simp

@[simp] theorem duplicateIdentity_sects (s : State) (f) : (s.duplicateIdentity f).sects = s.sects := by
  simp only [State.duplicateIdentity]
  simp

@[simp] theorem statusRefreshExpiry_sects (s : State) (e) : (s.statusRefreshExpiry e).sects = s.sects := by
  simp only [State.statusRefreshExpiry]
  (repeat' split) <;> simp

@[simp] theorem normalForExpiry_sects (s : State) (k) : (s.normalForExpiry k).sects = s.sects := by
  simp only [State.normalForExpiry]
  (repeat' split) <;> simp

@[simp] theorem flasherHalfExpiry_sects (s : State) : (s.flasherHalfExpiry).sects = s.sects := by
  simp only [State.flasherHalfExpiry]
  (repeat' split) <;> simp

end Sys2Proof.Machine
end

