-- ==== Sys2Proof/Laws/KeepSwitching.lean ====
section
/-! SUPPORT. The operations that leave the switching controller alone: one lemma per operation, on the field `switching` of the state. -/

namespace Sys2Proof.Machine

theorem foldl_switching {α : Type} (l : List α) (f : State → α → State) (h : ∀ s a, (f s a).switching = s.switching) (s : State) :
    (l.foldl f s).switching = s.switching := by
  induction l generalizing s with
  | nil => rfl
  | cons a l ih => rw [List.foldl_cons, ih, h]

@[simp] theorem freeCount_switching (s : State) (n) : ({ s with freeCount := n } : State).switching = s.switching := rfl

@[simp] theorem append_switching (s : State) (r) : (s.append r).switching = s.switching := by
  simp only [State.append]
  simp

@[simp] theorem raiseStatus_switching (s : State) (e) : (s.raiseStatus e).switching = s.switching := by
  simp only [State.raiseStatus]
  (repeat' split) <;> simp

@[simp] theorem serveOwed_switching (s : State) (e) : (s.serveOwed e).switching = s.switching := by
  simp only [State.serveOwed]
  simp

@[simp] theorem serveFirstOwed_switching (s : State) : (s.serveFirstOwed).switching = s.switching := by
  simp only [State.serveFirstOwed]
  (repeat' split) <;> simp

@[simp] theorem clearOffer_switching (s : State) (e) : (s.clearOffer e).switching = s.switching := by
  simp only [State.clearOffer]
  simp

@[simp] theorem blockRecord_switching (s : State) (e old cause op) : (s.blockRecord e old cause op).switching = s.switching := by
  simp only [State.blockRecord]
  simp

@[simp] theorem refuseOperation_switching (s : State) (e cause op) : (s.refuseOperation e cause op).switching = s.switching := by
  simp only [State.refuseOperation]
  simp

@[simp] theorem setRefusal_switching (s : State) (e r) : (s.setRefusal e r).switching = s.switching := by
  simp only [State.setRefusal]
  simp

@[simp] theorem resetRecord_switching (s : State) (s0 c o) : (s.resetRecord s0 c o).switching = s.switching := by
  simp only [State.resetRecord]
  simp

@[simp] theorem endPending_switching (s : State) (s0 c o) : (s.endPending s0 c o).switching = s.switching := by
  simp only [State.endPending]
  (repeat' split) <;> simp

@[simp] theorem requestUndelivered_switching (s : State) (e n) : (s.requestUndelivered e n).switching = s.switching := by
  simp only [State.requestUndelivered]
  (repeat' split) <;> simp

@[simp] theorem confirmDelivered_switching (s : State) (e n) : (s.confirmDelivered e n).switching = s.switching := by
  simp only [State.confirmDelivered]
  (repeat' split) <;> simp

@[simp] theorem switchRecord_switching (s : State) (k d o r c) : (s.switchRecord k d o r c).switching = s.switching := by
  simp only [State.switchRecord]
  (repeat' split) <;> simp

@[simp] theorem settleTapper_switching (s : State) (e) : (s.settleTapper e).switching = s.switching := by
  simp only [State.settleTapper]
  simp

@[simp] theorem flushPlayout_switching (s : State) (e) : (s.flushPlayout e).switching = s.switching := by
  simp only [State.flushPlayout]
  simp

@[simp] theorem beatTaken_switching (s : State) (e p) : (s.beatTaken e p).switching = s.switching := by
  simp only [State.beatTaken]
  (repeat' split) <;> simp

@[simp] theorem beatDue_switching (s : State) (e) : (s.beatDue e).switching = s.switching := by
  simp only [State.beatDue]
  (repeat' split) <;> simp

@[simp] theorem strikeEnd_switching (s : State) (e) : (s.strikeEnd e).switching = s.switching := by
  simp only [State.strikeEnd]
  (repeat' split) <;> simp

@[simp] theorem offerHoldExpiry_switching (s : State) (e) : (s.offerHoldExpiry e).switching = s.switching := by
  simp only [State.offerHoldExpiry]
  (repeat' split) <;> simp

@[simp] theorem refusePress_switching (s : State) (c o) : (s.refusePress c o).switching = s.switching := by
  simp only [State.refusePress]
  simp

@[simp] theorem settleKey_switching (s : State) (c) : (s.settleKey c).switching = s.switching := by
  simp only [State.settleKey]
  simp

@[simp] theorem resetRequestWindowExpiry_switching (s : State) (c) : (s.resetRequestWindowExpiry c).switching = s.switching := by
  simp only [State.resetRequestWindowExpiry]
  (repeat' split) <;> simp

@[simp] theorem heldRequestWindowExpiry_switching (s : State) (c) : (s.heldRequestWindowExpiry c).switching = s.switching := by
  simp only [State.heldRequestWindowExpiry]
  (repeat' split) <;> simp

@[simp] theorem moveSects_switching (s : State) (h f) : (s.moveSects h f).switching = s.switching := rfl

@[simp] theorem linkRecord_switching (s : State) (e b n) : (s.linkRecord e b n).switching = s.switching := by
  simp only [State.linkRecord]
  (repeat' split) <;> simp

@[simp] theorem settleSwitch_switching (s : State) (e) : (s.settleSwitch e).switching = s.switching := by
  simp only [State.settleSwitch]
  simp

@[simp] theorem settleTos_switching (s : State) (e) : (s.settleTos e).switching = s.switching := by
  simp only [State.settleTos]
  simp

@[simp] theorem settleCancel_switching (s : State) (e) : (s.settleCancel e).switching = s.switching := by
  simp only [State.settleCancel]
  simp

@[simp] theorem acceptRefused_switching (s : State) (e n r m) : (s.acceptRefused e n r m).switching = s.switching := by
  simp only [State.acceptRefused]
  simp

@[simp] theorem plungerOrKeyRelease_switching (s : State) (x) : (s.plungerOrKeyRelease x).switching = s.switching := by
  simp only [State.plungerOrKeyRelease]
  (repeat' split) <;> simp

@[simp] theorem refusalMarkExpiry_switching (s : State) (e) : (s.refusalMarkExpiry e).switching = s.switching := by
  simp only [State.refusalMarkExpiry]
  (repeat' split) <;> simp

@[simp] theorem refuseAccept_switching (s : State) (e r n) : (s.refuseAccept e r n).switching = s.switching := by
  simp only [State.refuseAccept]
  simp

@[simp] theorem markMismatch_switching (s : State) (e f) : (s.markMismatch e f).switching = s.switching := by
  simp only [State.markMismatch]
  (repeat' split) <;> simp

@[simp] theorem clearMismatch_switching (s : State) (e) : (s.clearMismatch e).switching = s.switching := by
  simp only [State.clearMismatch]
  simp

@[simp] theorem clearOutstanding_switching (s : State) (e n) : (s.clearOutstanding e n).switching = s.switching := by
  simp only [State.clearOutstanding]
  (repeat' split) <;> simp

@[simp] theorem blockDelivered_switching (s : State) (e n) : (s.blockDelivered e n).switching = s.switching := by
  simp only [State.blockDelivered]
  (repeat' split) <;> simp

@[simp] theorem refuseLocally_switching (s : State) (d r k) : (s.refuseLocally d r k).switching = s.switching := by
  simp only [State.refuseLocally]
  simp

@[simp] theorem beginFrame_switching (s : State) (i f) : (s.beginFrame i f).switching = s.switching := by
  simp only [State.beginFrame]
  simp

@[simp] theorem frameStart_switching (s : State) : (s.frameStart).switching = s.switching := by
  simp only [State.frameStart]
  (repeat' split) <;> simp

@[simp] theorem contentionLost_switching (s : State) : (s.contentionLost).switching = s.switching := by
  simp only [State.contentionLost]
  (repeat' split) <;> simp

@[simp] theorem startBitSeen_switching (s : State) : (s.startBitSeen).switching = s.switching := by
  simp only [State.startBitSeen]
  (repeat' split) <;> simp

@[simp] theorem frameBrokenOff_switching (s : State) : (s.frameBrokenOff).switching = s.switching := by
  simp only [State.frameBrokenOff]
  (repeat' split) <;> simp

@[simp] theorem acknowledgeDecision_switching (s : State) (l) : (s.acknowledgeDecision l).switching = s.switching := by
  simp only [State.acknowledgeDecision]
  (repeat' split) <;> simp

@[simp] theorem duplicateIdentity_switching (s : State) (f) : (s.duplicateIdentity f).switching = s.switching := by
  simp only [State.duplicateIdentity]
  simp

@[simp] theorem statusRefreshExpiry_switching (s : State) (e) : (s.statusRefreshExpiry e).switching = s.switching := by
  simp only [State.statusRefreshExpiry]
  (repeat' split) <;> simp

@[simp] theorem flasherHalfExpiry_switching (s : State) : (s.flasherHalfExpiry).switching = s.switching := by
  simp only [State.flasherHalfExpiry]
  (repeat' split) <;> simp

end Sys2Proof.Machine
end

