-- ==== Sys2Proof/Laws/Ops.lean ====
section
/-! SUPPORT. What the shared operations do: the close of an event, the records, a change of an end, a request for a slot, a count
section's change. Later proofs cite these and do not unfold the operations. -/

namespace Sys2Proof.Machine

/-! ### The close of an event -/

theorem settle_quiet {s : State} (h : s.quiet) : s.settle = s := by
  unfold State.quiet at h
  simp only [State.settle, h]

/-! ### Records -/

theorem append_recorded (s : State) (r : Event) : Recorded s (s.append r) [{ r with time := s.partTime }] := by
  simp [Recorded, State.append]

@[simp] theorem append_discardAt (s : State) (r : Event) :
    (s.append r).port.discardAt = if overflowing s.port.queue then some s.now else s.port.discardAt := rfl

@[simp] theorem append_transaction (s : State) (r : Event) : (s.append r).port.transaction = s.port.transaction := rfl

theorem recorded_refl {s t : State} (h : t.port = s.port) : Recorded s t [] := by simp [Recorded, h]

theorem recorded_trans {s t u : State} {l m : List Event} (h : Recorded s t l) (h' : Recorded t u m) : Recorded s u (l ++ m) := by
  simp only [Recorded] at *
  rw [h', h]
  simp [List.foldl_append]

theorem recordedFirst_of {s t u : State} {r : Event} {l : List Event} (h : Recorded s t [r]) (h' : Recorded t u l) :
    RecordedFirst s u r := ⟨l, recorded_trans h h'⟩

/-! ### Replies of the maintenance port (R189, R190) -/

/-- What the forming of a reply does: a status reply that is due becomes the bytes of the values held, and nothing else changes. -/
theorem formReply_eq (s : State) : s.formReply = { s with port := { s.port with transaction := match s.port.transaction with
    | .status error => .reply (s.statusReply error)
    | x => x } } := by
  unfold State.formReply
  split <;> rename_i h <;> simp only [State.reply, State.modPort, h] <;> rw [← h]

theorem formReply_returned (s : State) (k : Nat) : s.formReply.returned k = s.returned k := by
  rw [formReply_eq]
  unfold State.returned State.replyBytes
  split <;> rename_i h <;> simp_all <;> split at h <;> simp_all

@[simp] theorem dataOut_deasserted (s : State) (sent k : Nat) : s.dataOut .deasserted sent k = .released := rfl

@[simp] theorem dataOut_asserted (s : State) (sent k : Nat) : s.dataOut .asserted sent k = .driven (s.byteOut sent k) := rfl

/-! ### The sender's own decoder (R93) -/

theorem ownBrokenOff_of {l : Line} {x : Sending} (h : l.sending = some x) : l.ownBrokenOff = x.brokenOff := by
  simp [Line.ownBrokenOff, h]

theorem sendsOn_of {l : Line} {x : Sending} (h : l.sending = some x) :
    l.sendsOn = true ↔ l.decoder = .receiving ∨ x.brokenOff = true := by
  simp [Line.sendsOn, ownBrokenOff_of h]

theorem readSlot_of {l : Line} {x : Sending} (h : l.sending = some x) (slot : Option Byte) :
    l.readSlot slot = if x.brokenOff then none else slot := by simp [Line.readSlot, ownBrokenOff_of h]

theorem endAttempt_of {l : Line} {x : Sending} (h : l.sending = some x) (now : Time) :
    l.endAttempt now =
      { (if x.brokenOff then l else l.endFrame now) with sending := none } := by
  simp only [Line.endAttempt, ownBrokenOff_of h]
  split <;> rfl

/-! ### The levels of the line (R92) -/

@[simp] theorem charLevels_length (c : Byte) : (charLevels c).length = 10 := by simp [charLevels]

@[simp] theorem charsLevels_nil : charsLevels [] = [] := rfl

@[simp] theorem charsLevels_cons (c : Byte) (l : List Byte) : charsLevels (c :: l) = charLevels c ++ charsLevels l := rfl

theorem charsLevels_length (l : List Byte) : (charsLevels l).length = 10 * l.length := by
  induction l with
  | nil => rfl
  | cons c l ih => simp [ih]; omega

theorem lineLevel_sending {s : State} {x : Sending} (h : s.line.sending = some x) :
    s.lineLevel = (charsLevels x.chars).getD (s.bitFrom x.since) .idle := by simp [State.lineLevel, h]

theorem lineLevel_acknowledging {s : State} {f : RxFrame} (h : s.line.sending = none) (h' : s.line.decoder = .sound f) :
    s.lineLevel = if s.line.acknowledging then f.slotLevels.getD (s.bitFrom s.line.frameFrom) .idle else .idle := by
  simp [State.lineLevel, h, h']

/-! ### The evaluator's view and its terms' timers (R21, R25) -/

theorem termTimers_follow (g : Image) (i : LeverNo) (lastNormal : Option Nat) (l : List TermTimer) :
    timersFollow g.pool i (fun seconds => lastNormal.map (· + 100 * seconds)) l (termTimers g (i.val + 1) lastNormal l) := by
  intro k term x ht hx
  simp only [termTimers, List.getElem?_zipWith, ht, hx]
  refine ⟨fun seconds h => by simp [h, termTimer], fun h => ?_⟩
  cases term <;> simp only [termTimer]
  rename_i m seconds
  rw [if_neg fun (e : m = i.val + 1) => h seconds (congrArg (Term.leverNormalFor · seconds) e)]

theorem takePosition_timers (v : Evaluator) (g : Image) (i : LeverNo) (p : Position) (lastNormal : Option Nat) :
    timersFollow g.pool i (fun seconds => if p = .normal then lastNormal.map (· + 100 * seconds) else none) v.timers
      (v.takePosition g i p lastNormal).timers := by
  by_cases h : p = .normal
  · simpa [Evaluator.takePosition, h] using termTimers_follow g i lastNormal v.timers
  · simpa [Evaluator.takePosition, h] using termTimers_follow g i none v.timers

/-! ### A change of an end (section 8.1) -/

theorem changeEnd_blocks (s : State) (e st rel cause) :
    (s.changeEnd e st rel cause).blocks =
      if s.blocks[e].state = st ∧ s.blocks[e].release = rel then s.blocks else upd s.blocks e (·.moved st rel) := by
  simp only [State.changeEnd]
  split <;> simp [State.modBlock]

/-! ### Requests (R107, R109, R110) -/

theorem answerTo_line {s t : State} (h : t.line = s.line) (k e) : t.answerTo k e = s.answerTo k e := by
  simp [State.answerTo, h]

theorem request_refused {s : State} {k e} (h : s.answerTo k e = .refused) (dest payload) : s.request k e dest payload = s := by
  unfold State.answerTo at h
  unfold State.request
  by_cases hk : k.composed = true
  · cases h1 : s.line.slotOf k e <;> cases h2 : s.line.emptySlot <;> cases h3 : s.line.victim k.cls <;> simp_all
  · cases h2 : s.line.emptySlot <;> cases h3 : s.line.victim k.cls <;> simp_all

theorem requestOutstanding_refused {s : State} {e o} {p : List Byte}
    (h : s.answerTo (match o with | .accept => .accept | .withdraw => .withdraw | .cancel => .cancel | .tos => .tos) e = .refused) :
    s.requestOutstanding e o p = s := by
  simp only [State.requestOutstanding]
  cases o <;> simp_all [Answer.seq, request_refused]

theorem requestOutstanding_blocks {s : State} {e o} {p : List Byte} {n : Nat}
    (h : s.answerTo (match o with | .accept => .accept | .withdraw => .withdraw | .cancel => .cancel | .tos => .tos) e = .queued n) :
    (s.requestOutstanding e o p).blocks = upd s.blocks e (fun b => { b with outstanding := some ⟨o, n⟩ }) := by
  simp only [State.requestOutstanding]
  cases o <;> simp_all [Answer.seq, State.modBlock]

/-! ### A change of a count section (R69, R80) -/

theorem changeSect_sects (s : State) (c : SectNo) (f) : (s.changeSect c f).sects = upd s.sects c f := by
  simp only [State.changeSect]
  simp [State.modSect]

/-- A change that is no train's entry leaves whatever the reports of a section leave. -/
theorem changeSect_noEntry {α : Type} (p : State → α) (append : ∀ s r, p (State.append s r) = p s)
    (modSect : ∀ s c f, p (State.modSect s c f) = p s)
    (toCombiner : ∀ s c, p (State.reportCountToCombiner s c) = p s) (toEvaluator : ∀ s c, p (State.reportCount s c) = p s)
    (s : State) (c : SectNo) (f) (hi : ¬(s.indication c = .zero ∧ (s.modSect c f).indication c = .nonzero)) :
    p (s.changeSect c f) = p s := by
  simp only [State.changeSect, State.reportSect]
  split <;> (try split) <;> (try split) <;> simp_all

/-! ### Decisions on their way to the scanner (R9, R15, R26) -/

theorem nextHanded_eq (v : Evaluator) (i : LeverNo) (k : EntryKind) : v.nextHanded i k = (v.onTheWay i k).head? := by
  simp [Evaluator.nextHanded, Evaluator.onTheWay, List.head?_filter]

theorem onTheWay_dropHanded (v : Evaluator) (i : LeverNo) (k : EntryKind) :
    (v.dropHanded i k).onTheWay i k = (v.onTheWay i k).tail := by
  simp only [Evaluator.onTheWay, Evaluator.dropHanded]
  induction v.handed with
  | nil => rfl
  | cons h l ih =>
    by_cases hp : (decide (h.lever = i) && decide (h.entry = k)) = true
    · simp [hp]
    · simp [hp, ih]

/-- What the arrival of the oldest decision on its way does (R9). -/
theorem lockDecisionArrival_some {s : State} {i : LeverNo} {k : EntryKind} {h : Handed} {l : List Handed}
    (hl : s.evaluator.onTheWay i k = h :: l) :
    s.lockDecisionArrival i k = { s with
      evaluator := s.evaluator.dropHanded i k
      levers := upd s.levers i fun x => Lever.drive s.isRunning s.active (s.spare i) s.now (x.keep k h.holds) } := by
  simp only [State.lockDecisionArrival, nextHanded_eq, hl, List.head?_cons]
  simp [State.driveLever, State.modLever, State.modEvaluator, State.isRunning, State.active, State.spare, upd]
  rfl

/-- What the arrival of every decision on its way to an entry does, in turn: the last of them is kept. -/
theorem arrivals (i : LeverNo) (k : EntryKind) (l : List Handed) (s : State) (hl : s.evaluator.onTheWay i k = l) :
    let t := l.foldl (fun t _ => t.lockDecisionArrival i k) s
    t = { s with levers := t.levers, evaluator := { s.evaluator with handed := t.evaluator.handed } } ∧
    (∀ j : LeverNo, j ≠ i → t.levers[j] = s.levers[j]) ∧
    t.levers[i] = { s.levers[i].keep k ((l.getLast?.map (·.holds)).getD (s.levers[i].kept k)) with
      output := t.levers[i].output, mismatchFrom := t.levers[i].mismatchFrom } ∧
    t.evaluator.onTheWay i k = [] ∧
    (l ≠ [] → t.levers[i].output = lockOutput s.isRunning (s.spare i) t.levers[i]) := by
  induction l generalizing s with
  | nil => cases k <;> simp [hl, Lever.kept, Lever.keep]
  | cons h l ih =>
    have e := lockDecisionArrival_some hl
    have hd : (s.lockDecisionArrival i k).evaluator.onTheWay i k = l := by
      rw [e]; simp [onTheWay_dropHanded, hl]
    obtain ⟨h1, h2, h3, h4, h5⟩ := ih _ hd
    simp only [List.foldl_cons]
    have hr : (s.lockDecisionArrival i k).isRunning = s.isRunning := by rw [e]; rfl
    have hs : (s.lockDecisionArrival i k).spare i = s.spare i := by rw [e]; rfl
    have hj : ∀ j : LeverNo, j ≠ i → (s.lockDecisionArrival i k).levers[j] = s.levers[j] := fun j hj => by
      rw [e]; exact upd_ne _ _ (Ne.symm hj)
    have hi : (s.lockDecisionArrival i k).levers[i] = { s.levers[i].keep k h.holds with
        output := (s.lockDecisionArrival i k).levers[i].output
        mismatchFrom := (s.lockDecisionArrival i k).levers[i].mismatchFrom } := by
      rw [e]; simp [Lever.drive, Lever.watch]
    have ho : (s.lockDecisionArrival i k).levers[i].output =
        lockOutput s.isRunning (s.spare i) (s.lockDecisionArrival i k).levers[i] := by
      rw [e]; simp [Lever.drive, Lever.watch, lockOutput]
    refine ⟨?_, fun j h => (h2 j h).trans (hj j h), ?_, h4, fun _ => ?_⟩
    · rw [h1, e]
      rfl
    · rw [h3, hi]
      cases l with
      | nil => cases k <;> simp [Lever.keep, Lever.kept]
      | cons x l =>
        rw [List.getLast?_cons_cons, List.getLast?_eq_getLast_of_ne_nil (List.cons_ne_nil x l)]
        cases k <;> rfl
    · cases l with
      | nil => exact ho
      | cons x l => simpa [hr, hs] using h5 (by simp)
/-- What taking a withdrawal before the lever moves does (R15): the from-normal entry no longer holds, the lock is de-energised, and nothing
is left on its way to the entry; where the release stands, or no such decision is on its way, nothing. -/
theorem takeWithdrawal_eq (s : State) (i : LeverNo) :
    let t := s.takeWithdrawal i
    t = { s with levers := t.levers, evaluator := { s.evaluator with handed := t.evaluator.handed } } ∧
    (∀ j : LeverNo, j ≠ i → t.levers[j] = s.levers[j]) ∧
    t.levers[i] = { s.levers[i] with
      decNormal := !s.withdrawn i && s.levers[i].decNormal, output := !s.withdrawn i && s.levers[i].output
      mismatchFrom := t.levers[i].mismatchFrom } ∧
    (s.withdrawn i = true → t.evaluator.onTheWay i .fromNormal = []) := by
  by_cases hw : s.withdrawn i = true
  · have hp : s.levers[i].position = .normal ∧ s.evaluator.lastHanded i .fromNormal = some false := by
      unfold State.withdrawn at hw
      split at hw <;> simp_all
    obtain ⟨h1, h2, h3, h4, h5⟩ := arrivals i .fromNormal _ s rfl
    have hl := hp.2
    simp only [Evaluator.lastHanded] at hl
    have hn : s.evaluator.onTheWay i .fromNormal ≠ [] := by intro h; simp [h] at hl
    rw [hl] at h3
    simp only [State.takeWithdrawal, hw, if_true]
    have ho := h5 hn
    have hf := congrArg (fun l : Lever => (l.position, l.decNormal)) h3
    simp only [Lever.keep, hp.1, Prod.mk.injEq, Option.getD_some] at hf
    refine ⟨h1, h2, ?_, fun _ => h4⟩
    simp only [lockOutput, hf.1, hf.2, Bool.and_false] at ho
    rw [ho] at h3
    simpa [Lever.keep] using h3
  · simp only [Bool.not_eq_true] at hw
    simp [State.takeWithdrawal, hw]

/-! ### The snapshot (R191) -/

/-- Before the entry into RUNNING every debounced contact is shown open, and every head's pattern as neither occupied. -/
theorem shown_of_inactive {s : State} (h : s.active = false) (c : Contact) (x : Head) :
    s.shown c = false ∧ s.shownPattern x = .none := by
  simp [State.shown, State.shownPattern, h]

/-- From the entry into RUNNING a debounced contact and a head's pattern are shown as they are. -/
theorem shown_of_active {s : State} (h : s.active = true) (c : Contact) (x : Head) :
    s.shown c = c.value ∧ s.shownPattern x = x.pattern := by
  simp [State.shown, State.shownPattern, h]

end Sys2Proof.Machine
end

