-- ==== Sys2Proof/Laws/Numbers.lean ====
section
/-! SUPPORT. The numbers of the frames in the slots (log entry 22): a number that has been given to a frame that has left is given to no other, and
the operations on the slots keep the numbers apart. -/

namespace Sys2Proof.Machine

/-- No slot holds a frame of a number, and none will take it. -/
def Line.gone (l : Line) (n : Nat) : Prop := n < l.nextSeq ∧ ∀ i : Fin 8, ∀ f ∈ l.slots[i], f.seq ≠ n

/-- The numbers in the slots are below the next, and no two are the same (`NumberLaw`). -/
def Line.numbered (l : Line) : Prop :=
  ∀ i : Fin 8, ∀ f ∈ l.slots[i], f.seq < l.nextSeq ∧ ∀ j : Fin 8, ∀ g ∈ l.slots[j], g.seq = f.seq → j = i

theorem numberLaw_iff (s : State) : NumberLaw s ↔ s.line.numbered := Iff.rfl

/-! ### What a change of one slot does to the numbers -/

theorem mem_set {v : Vector (Option Frame) 8} {i j : Fin 8} {x : Option Frame} {f : Frame} (h : f ∈ (v.set i x)[j]) :
    (i = j ∧ f ∈ x) ∨ (i ≠ j ∧ f ∈ v[j]) := by
  by_cases e : i = j
  · subst e
    exact .inl ⟨rfl, by simpa using h⟩
  · refine .inr ⟨e, ?_⟩
    have : i.val ≠ j.val := fun h => e (Fin.ext h)
    simpa [Vector.getElem_set, this] using h

theorem gone_place {l : Line} {n : Nat} (h : l.gone n) (i : Fin 8) (f : Frame) : (l.place i f).gone n := by
  refine ⟨Nat.lt_succ_of_lt h.1, fun j g hg => ?_⟩
  rcases mem_set hg with ⟨_, h'⟩ | ⟨_, h'⟩
  · cases h'
    exact Nat.ne_of_gt h.1
  · exact h.2 j g h'

theorem gone_set {l : Line} {n : Nat} (h : l.gone n) (i : Fin 8) {f g : Frame} (hf : l.slots[i] = some f) (hg : g.seq = f.seq) :
    ({ l with slots := l.slots.set i (some g) } : Line).gone n := by
  refine ⟨h.1, fun j x hx => ?_⟩
  rcases mem_set hx with ⟨_, h'⟩ | ⟨_, h'⟩
  · cases h'
    rw [hg]
    exact h.2 i f hf
  · exact h.2 j x h'

theorem gone_clearSlot {l : Line} {n : Nat} (h : l.gone n) (i : Fin 8) : (l.clearSlot i).gone n := by
  refine ⟨h.1, fun j x hx => ?_⟩
  rcases mem_set hx with ⟨_, h'⟩ | ⟨_, h'⟩
  · cases h'
  · exact h.2 j x h'

theorem numbered_place {l : Line} (h : l.numbered) (i : Fin 8) (f : Frame) : (l.place i f).numbered := by
  intro j g hg
  rcases mem_set hg with ⟨rfl, h'⟩ | ⟨_, h'⟩
  · cases h'
    refine ⟨Nat.lt_succ_self _, fun k x hx e => ?_⟩
    rcases mem_set hx with ⟨rfl, _⟩ | ⟨_, h'⟩
    · rfl
    · exact absurd e (Nat.ne_of_lt (h k x h').1)
  · refine ⟨Nat.lt_succ_of_lt (h j g h').1, fun k x hx e => ?_⟩
    rcases mem_set hx with ⟨rfl, hk⟩ | ⟨_, hk⟩
    · cases hk
      exact absurd e.symm (Nat.ne_of_lt (h j g h').1)
    · exact (h j g h').2 k x hk e

theorem numbered_set {l : Line} (h : l.numbered) (i : Fin 8) {f g : Frame} (hf : l.slots[i] = some f) (hg : g.seq = f.seq) :
    ({ l with slots := l.slots.set i (some g) } : Line).numbered := by
  have get : ∀ (j : Fin 8) (x : Frame), x ∈ (l.slots.set i (some g))[j] → ∃ y ∈ l.slots[j], y.seq = x.seq := fun j x hx => by
    rcases mem_set hx with ⟨rfl, h'⟩ | ⟨_, h'⟩
    · cases h'
      exact ⟨f, hf, hg.symm⟩
    · exact ⟨x, h', rfl⟩
  intro j x hx
  obtain ⟨y, hy, e⟩ := get j x hx
  refine ⟨e ▸ (h j y hy).1, fun k z hz ez => ?_⟩
  obtain ⟨w, hw, e'⟩ := get k z hz
  exact (h j y hy).2 k w hw (by rw [e', ez, e])

theorem numbered_clearSlot {l : Line} (h : l.numbered) (i : Fin 8) : (l.clearSlot i).numbered := by
  intro j x hx
  rcases mem_set hx with ⟨_, h'⟩ | ⟨_, h'⟩
  · cases h'
  · refine ⟨(h j x h').1, fun k z hz ez => ?_⟩
    rcases mem_set hz with ⟨_, hk⟩ | ⟨_, hk⟩
    · cases hk
    · exact (h j x h').2 k z hk ez

/-- A frame that leaves its slot is gone. -/
theorem gone_of_clearSlot {l : Line} (h : l.numbered) {i : Fin 8} {f : Frame} (hf : l.slots[i] = some f) :
    (l.clearSlot i).gone f.seq := by
  refine ⟨(h i f hf).1, fun j x hx => ?_⟩
  rcases mem_set hx with ⟨_, h'⟩ | ⟨hj, h'⟩
  · cases h'
  · exact fun e => hj ((h i f hf).2 j x h' e).symm

/-! ### A property of the line that the slots' own changes keep is kept by the requests -/

/-- A property of the line kept by a frame's entry, by coalescing and by the owed marks is kept as a STATUS is raised. -/
theorem raiseStatus_keeps {P : Line → Prop} (place : ∀ l i f, P l → P (l.place i f))
    (coalesce : ∀ l i, P l → P (l.modSlot i Frame.coalesce)) (owed : ∀ (l : Line) o, P l → P { l with owed := o })
    {s : State} (h : P s.line) (e : EndNo) : P (s.raiseStatus e).line := by
  simp only [State.raiseStatus]
  split
  · exact coalesce _ _ h
  · split
    · exact place _ _ _ h
    · exact owed _ _ h

theorem modSlot_some (l : Line) (i : Fin 8) {f : Frame} (h : l.slots[i] = some f) (g : Frame → Frame) :
    l.modSlot i g = { l with slots := l.slots.set i (some (g f)) } := by
  simp only [Line.modSlot, upd, h, Option.map_some]

theorem modSlot_none (l : Line) (i : Fin 8) (h : l.slots[i] = none) (g : Frame → Frame) : l.modSlot i g = l.clearSlot i := by
  simp only [Line.modSlot, Line.clearSlot, upd, h, Option.map_none]

theorem gone_coalesce {l : Line} {n : Nat} (i : Fin 8) (h : l.gone n) : (l.modSlot i Frame.coalesce).gone n := by
  cases hf : l.slots[i] with
  | none => rw [modSlot_none l i hf]; exact gone_clearSlot h i
  | some f => rw [modSlot_some l i hf]; exact gone_set h i hf rfl

theorem numbered_coalesce {l : Line} (i : Fin 8) (h : l.numbered) : (l.modSlot i Frame.coalesce).numbered := by
  cases hf : l.slots[i] with
  | none => rw [modSlot_none l i hf]; exact numbered_clearSlot h i
  | some f => rw [modSlot_some l i hf]; exact numbered_set h i hf rfl

theorem raiseStatus_gone {s : State} {n : Nat} (h : s.line.gone n) (e : EndNo) : (s.raiseStatus e).line.gone n :=
  raiseStatus_keeps (P := (·.gone n)) (fun _ _ _ h => gone_place h _ _) (fun _ i h => gone_coalesce i h) (fun _ _ h => h) h e

theorem raiseStatus_numbered {s : State} (h : s.line.numbered) (e : EndNo) : (s.raiseStatus e).line.numbered :=
  raiseStatus_keeps (P := Line.numbered) (fun _ _ _ h => numbered_place h _ _) (fun _ i h => numbered_coalesce i h)
    (fun _ _ h => h) h e

theorem serveFirstOwed_keeps {P : Line → Prop} (place : ∀ l i f, P l → P (l.place i f))
    (coalesce : ∀ l i, P l → P (l.modSlot i Frame.coalesce)) (owed : ∀ (l : Line) o, P l → P { l with owed := o })
    {s : State} (h : P s.line) : P s.serveFirstOwed.line := by
  simp only [State.serveFirstOwed, State.serveOwed]
  split
  · refine raiseStatus_keeps place coalesce owed ?_ _
    exact owed _ _ h
  · exact h

@[simp] theorem reportEvicted_line (s : State) (f : Frame) :
    (s.reportEvicted f).line = if f.kind = .status then { s.line with owed := s.line.owed.set f.e true } else s.line := by
  simp only [State.reportEvicted]
  split <;> simp_all [State.modLine]

/-- The same property is kept by a request, whatever it evicts. -/
theorem request_keeps {P : Line → Prop} (place : ∀ l i f, P l → P (l.place i f))
    (coalesce : ∀ l i, P l → P (l.modSlot i Frame.coalesce)) (owed : ∀ (l : Line) o, P l → P { l with owed := o })
    {s : State} (h : P s.line) (k : FrameKind) (e : EndNo) (dest : Nat) (payload : List Byte) :
    P (s.request k e dest payload).line := by
  simp only [State.request]
  repeat' split
  all_goals first
    | exact h
    | exact coalesce _ _ h
    | exact place _ _ _ h
    | (simp only [reportEvicted_line]
       split
       · exact owed _ _ (place _ _ _ h)
       · exact place _ _ _ h)

theorem request_gone {s : State} {n : Nat} (h : s.line.gone n) (k : FrameKind) (e : EndNo) (dest : Nat) (payload : List Byte) :
    (s.request k e dest payload).line.gone n :=
  request_keeps (P := (·.gone n)) (fun _ _ _ h => gone_place h _ _) (fun _ i h => gone_coalesce i h) (fun _ _ h => h) h k e dest
    payload

theorem request_numbered {s : State} (h : s.line.numbered) (k : FrameKind) (e : EndNo) (dest : Nat) (payload : List Byte) :
    (s.request k e dest payload).line.numbered :=
  request_keeps (P := Line.numbered) (fun _ _ _ h => numbered_place h _ _) (fun _ i h => numbered_coalesce i h) (fun _ _ h => h) h k
    e dest payload

end Sys2Proof.Machine
end

