-- ==== Sys2Proof/Laws/PerInstr.lean ====
section
/-! SUPPORT. The family NoWord: the opcode table gives no row any bits, so no word spells a command. One lemma per command. -/

namespace Sys2Proof.Laws

/-- No word spells the command. -/
def NoWord.Statement (i : Instr) : Prop := ∀ nbits w : Nat, decodeTableWord nbits w ≠ some i

theorem NoWord.resetAsserted : NoWord.Statement .resetAsserted := by intro _ _; simp [decodeTableWord]
theorem NoWord.endOfReset : NoWord.Statement .endOfReset := by intro _ _; simp [decodeTableWord]
theorem NoWord.readAttemptFailed : NoWord.Statement .readAttemptFailed := by intro _ _; simp [decodeTableWord]
theorem NoWord.readRetryExpiry : NoWord.Statement .readRetryExpiry := by intro _ _; simp [decodeTableWord]
theorem NoWord.headerReadComplete (header : Vector Byte 8) : NoWord.Statement (.headerReadComplete header) := by intro _ _; simp [decodeTableWord]
theorem NoWord.imageReadComplete (rest : List Byte) : NoWord.Statement (.imageReadComplete rest) := by intro _ _; simp [decodeTableWord]
theorem NoWord.rawInputChange (input : FieldInput) (level : Bool) : NoWord.Statement (.rawInputChange input level) := by intro _ _; simp [decodeTableWord]
theorem NoWord.provingContactChange (lever : LeverNo) : NoWord.Statement (.provingContactChange lever) := by intro _ _; simp [decodeTableWord]
theorem NoWord.transitLimitExpiry (lever : LeverNo) : NoWord.Statement (.transitLimitExpiry lever) := by intro _ _; simp [decodeTableWord]
theorem NoWord.readbackChange (lever : LeverNo) (made : Bool) : NoWord.Statement (.readbackChange lever made) := by intro _ _; simp [decodeTableWord]
theorem NoWord.readbackMismatchExpiry (lever : LeverNo) : NoWord.Statement (.readbackMismatchExpiry lever) := by intro _ _; simp [decodeTableWord]
theorem NoWord.lockDecisionArrival (lever : LeverNo) (entry : EntryKind) : NoWord.Statement (.lockDecisionArrival lever entry) := by intro _ _; simp [decodeTableWord]
theorem NoWord.normalForExpiry (term : Nat) : NoWord.Statement (.normalForExpiry term) := by intro _ _; simp [decodeTableWord]
theorem NoWord.halfPeriodBoundary (sense : Vector Sense 12) : NoWord.Statement (.halfPeriodBoundary sense) := by intro _ _; simp [decodeTableWord]
theorem NoWord.minOccupiedExpiry (channel : ChannelNo) : NoWord.Statement (.minOccupiedExpiry channel) := by intro _ _; simp [decodeTableWord]
theorem NoWord.headStep (head : HeadNo) : NoWord.Statement (.headStep head) := by intro _ _; simp [decodeTableWord]
theorem NoWord.countResetKeyPress (sect : SectNo) : NoWord.Statement (.countResetKeyPress sect) := by intro _ _; simp [decodeTableWord]
theorem NoWord.resetRequestWindowExpiry (sect : SectNo) : NoWord.Statement (.resetRequestWindowExpiry sect) := by intro _ _; simp [decodeTableWord]
theorem NoWord.heldRequestWindowExpiry (sect : SectNo) : NoWord.Statement (.heldRequestWindowExpiry sect) := by intro _ _; simp [decodeTableWord]
theorem NoWord.flasherHalfExpiry : NoWord.Statement .flasherHalfExpiry := by intro _ _; simp [decodeTableWord]
theorem NoWord.frameStart : NoWord.Statement .frameStart := by intro _ _; simp [decodeTableWord]
theorem NoWord.contentionLost : NoWord.Statement .contentionLost := by intro _ _; simp [decodeTableWord]
theorem NoWord.lineError : NoWord.Statement .lineError := by intro _ _; simp [decodeTableWord]
theorem NoWord.frameBrokenOff : NoWord.Statement .frameBrokenOff := by intro _ _; simp [decodeTableWord]
theorem NoWord.acknowledgeDecision (chars : List Byte) : NoWord.Statement (.acknowledgeDecision chars) := by intro _ _; simp [decodeTableWord]
theorem NoWord.attemptEnd (slot : Option Byte) : NoWord.Statement (.attemptEnd slot) := by intro _ _; simp [decodeTableWord]
theorem NoWord.frameTaking : NoWord.Statement .frameTaking := by intro _ _; simp [decodeTableWord]
theorem NoWord.statusRefreshExpiry (e : EndNo) : NoWord.Statement (.statusRefreshExpiry e) := by intro _ _; simp [decodeTableWord]
theorem NoWord.lastHeardExpiry (identity : Fin 16) : NoWord.Statement (.lastHeardExpiry identity) := by intro _ _; simp [decodeTableWord]
theorem NoWord.listeningPeriodEnd : NoWord.Statement .listeningPeriodEnd := by intro _ _; simp [decodeTableWord]
theorem NoWord.tapperStrike (e : EndNo) : NoWord.Statement (.tapperStrike e) := by intro _ _; simp [decodeTableWord]
theorem NoWord.tapperRelease (e : EndNo) : NoWord.Statement (.tapperRelease e) := by intro _ _; simp [decodeTableWord]
theorem NoWord.quietTimerExpiry (e : EndNo) : NoWord.Statement (.quietTimerExpiry e) := by intro _ _; simp [decodeTableWord]
theorem NoWord.heldTimerExpiry (e : EndNo) : NoWord.Statement (.heldTimerExpiry e) := by intro _ _; simp [decodeTableWord]
theorem NoWord.codeTimerExpiry (e : EndNo) : NoWord.Statement (.codeTimerExpiry e) := by intro _ _; simp [decodeTableWord]
theorem NoWord.beatDue (e : EndNo) : NoWord.Statement (.beatDue e) := by intro _ _; simp [decodeTableWord]
theorem NoWord.strikeEnd (e : EndNo) : NoWord.Statement (.strikeEnd e) := by intro _ _; simp [decodeTableWord]
theorem NoWord.offerHoldExpiry (e : EndNo) : NoWord.Statement (.offerHoldExpiry e) := by intro _ _; simp [decodeTableWord]
theorem NoWord.blockSwitchToAccept (e : EndNo) : NoWord.Statement (.blockSwitchToAccept e) := by intro _ _; simp [decodeTableWord]
theorem NoWord.blockSwitchToNormal (e : EndNo) : NoWord.Statement (.blockSwitchToNormal e) := by intro _ _; simp [decodeTableWord]
theorem NoWord.tosPlungerPress (e : EndNo) : NoWord.Statement (.tosPlungerPress e) := by intro _ _; simp [decodeTableWord]
theorem NoWord.cancelPlungerPress (e : EndNo) : NoWord.Statement (.cancelPlungerPress e) := by intro _ _; simp [decodeTableWord]
theorem NoWord.plungerOrKeyRelease (input : ReleaseInput) : NoWord.Statement (.plungerOrKeyRelease input) := by intro _ _; simp [decodeTableWord]
theorem NoWord.acceptanceTimerExpiry (e : EndNo) : NoWord.Statement (.acceptanceTimerExpiry e) := by intro _ _; simp [decodeTableWord]
theorem NoWord.cancellationTimerExpiry (e : EndNo) : NoWord.Statement (.cancellationTimerExpiry e) := by intro _ _; simp [decodeTableWord]
theorem NoWord.refusalMarkExpiry (e : EndNo) : NoWord.Statement (.refusalMarkExpiry e) := by intro _ _; simp [decodeTableWord]
theorem NoWord.switchKeyMovement : NoWord.Statement .switchKeyMovement := by intro _ _; simp [decodeTableWord]
theorem NoWord.agreementLimitExpiry : NoWord.Statement .agreementLimitExpiry := by intro _ _; simp [decodeTableWord]
theorem NoWord.holdTimerExpiry : NoWord.Statement .holdTimerExpiry := by intro _ _; simp [decodeTableWord]
theorem NoWord.statusCommand : NoWord.Statement .statusCommand := by intro _ _; simp [decodeTableWord]
theorem NoWord.snapshotCommand : NoWord.Statement .snapshotCommand := by intro _ _; simp [decodeTableWord]
theorem NoWord.readCommand (area : Byte) (start : BitVec 16) : NoWord.Statement (.readCommand area start) := by intro _ _; simp [decodeTableWord]
theorem NoWord.takeCommand : NoWord.Statement .takeCommand := by intro _ _; simp [decodeTableWord]
theorem NoWord.unknownCommand (code : Byte) : NoWord.Statement (.unknownCommand code) := by intro _ _; simp [decodeTableWord]
theorem NoWord.snapshotCompletion : NoWord.Statement .snapshotCompletion := by intro _ _; simp [decodeTableWord]
theorem NoWord.takeRecordRemoved : NoWord.Statement .takeRecordRemoved := by intro _ _; simp [decodeTableWord]
theorem NoWord.selectDeasserted : NoWord.Statement .selectDeasserted := by intro _ _; simp [decodeTableWord]
theorem NoWord.startBitSeen : NoWord.Statement .startBitSeen := by intro _ _; simp [decodeTableWord]

end Sys2Proof.Laws
end

