-- ==== Sys2Proof/Tests/Slice0.lean ====
section
/-! SUPPORT. The model's own tests: an ill-formed command for each check, steps of the spec's worked examples, and for every statement with
hypotheses a state and operands that meet them. -/

namespace Sys2Proof.Tests

open Sys2Proof.Machine

/-! ### WellFormed: one refused command for each check -/

theorem smoke_image_of_29_bytes : (Instr.imageReadComplete (List.replicate 21 0#8)).wellFormed = false := by decide
theorem smoke_image_of_30_bytes : (Instr.imageReadComplete (List.replicate 22 0#8)).wellFormed = true := by decide
theorem smoke_term_512 : (Instr.normalForExpiry 512).wellFormed = false := by decide
theorem smoke_two_characters : (Instr.acknowledgeDecision [0x30#8, 0x02#8]).wellFormed = false := by decide
theorem smoke_payload_of_7 : (Instr.acknowledgeDecision ([0x30#8, 0x02#8, 0x1C#8] ++ List.replicate 9 0#8)).wellFormed = false := by
  decide
theorem smoke_identity_0 : (Instr.lastHeardExpiry 0).wellFormed = false := by decide
theorem smoke_unknown_command_4 : (Instr.unknownCommand 4#8).wellFormed = false := by decide

/-! ### A running part: box 2 of a branch, switchable between box 1 at end 0 and box 3 at end 1 -/

/-- The configuration of the tests. CS1 and CS4 are the BLOCK sections of ends 0 and 1; H2 bounds CS2 and CS3 as in section 4.11.1; TC2 has the settings of
section 3.14. -/
def box : Image :=
  { validated := true, identity := 2, rate := 1, poolCount := 2, pool := [.leverNormal 2, .leverNormalFor 1 60]
    ends := ((Vector.replicate 3 {}).set 0 { configured := true, directId := 1, directEnd := 1, altId := 3 }).set 1
      { configured := true, directId := 3, altId := 4, altEnd := 1 }
    roles := ((Vector.replicate 32 .ordinary).set 2 (.starter 0)).set 31 .spare
    entries := (Vector.replicate 32 {}).set 0 { fromNormal := [⟨0, 1⟩], fromReverse := [⟨1, 1⟩] }
    channels := (Vector.replicate 12 {}).set 1
      { enabled := true, tDrop := 200, tPick := 320, tWarn := 400, strayLimit := 80, persistence := 3, minOccupied := 30 }
    fitted := (Vector.replicate 4 0).set 1 1
    sects := ((((Vector.replicate 6 {}).set 0 { configured := true, type := .block, boundaries := [⟨1, .upIn⟩] }).set 1
      { configured := true, boundaries := [⟨2, .upIn⟩] }).set 2 { configured := true, boundaries := [⟨2, .downIn⟩] }).set 3
      { configured := true, type := .block, blockEnd := 1, boundaries := [⟨3, .upIn⟩] }
    detections := (Vector.replicate 16 {}).set 0 { configured := true, channel := 2 }
    codes := ((((Vector.replicate 16 {}).set 0 { present := true, pattern := [3, 1], cls := .offer }).set 1
      { present := true, pattern := [3, 5], cls := .cancelOffer }).set 2 { present := true, pattern := [6], cls := .obstruction }).set 3
      { present := true, pattern := [2], cls := .obstructionRemoved }
    switchable := true, secondEnd := 1, altNamed := true, alternative := ⟨0, 1⟩ }

/-- The levers: 1 and 2 at NORMAL with their locks energised, the others not yet proved, 32 SPARE. -/
def levers : Vector Lever 32 := Vector.ofFn fun i =>
  if i.val < 2 then
    { n := { raw := true, value := true }, position := .normal, lastNormal := some 0, output := true, readback := true, decNormal := true
      decReverse := decide (i.val = 1) }
  else { decNormal := decide (i.val ≠ 31), decReverse := decide (i.val ≠ 31) }

/-- The sections: CS1 to CS4 are CLEAR. -/
def sects : Vector Sect 6 := Vector.ofFn fun c =>
  if c.val % 3 = 0 ∧ c.val < 4 then { latch := .none, remote := some 0 } else if c.val < 3 then { latch := .none } else {}

/-- The evaluator's view of the tests' part. -/
def view : View :=
  { position := Vector.ofFn fun i => levers[i].position
    block := Vector.ofFn fun e => if e.val < 2 then .normal else .recovering
    count := Vector.ofFn fun c => if c.val < 4 then .clear else .disturbed }

/-- The part 10 s after its start, with both ends NORMAL and both links UP. -/
def running : State :=
  let v : Evaluator := { view := view, timers := [{}, {}], altDecision := true }
  { now := 480000, loader := { partState := .running, phase := .stopped }, cfg := box, levers := levers, sects := sects
    evaluator := { v with decisions := Vector.ofFn fun i => v.newDecision box i }
    combiner := { count := view.count, sects := (Vector.replicate 16 {}).set 0 { lamp := .steady }, flasher := some ⟨true, 500000⟩ }
    line := { link := Vector.ofFn fun e => decide (e.val < 2) }
    blocks := Vector.ofFn fun e => { state := view.block[e] }
    switching := { proved := some .keyIn, keyIn := { raw := true, value := true } } }

/-- A contact whose change event, to a level, has come. -/
def turned (level : Bool) : Contact := { raw := level, value := !level }

/-- A frame waiting in a slot. -/
def waiting (k : FrameKind) (e : EndNo) (seq : Nat) : Frame := { kind := k, e := e, dest := 1, seq := seq, payload := List.replicate k.length 0#8 }

/-- The part with these frames in its first slots. -/
def withSlots (s : State) (l : List Frame) : State := s.modLine fun x =>
  { x with slots := Vector.ofFn fun i => l[i.val]?, nextSeq := l.length }

/-- The running part with a bell at end 0. -/
def withBell (b : Bell) : State := running.modBell 0 fun _ => b

/-! ### Worked examples of the spec -/

/-- Section 4.11.1, step 4: the wheel is counted UP, into CS2 and out of CS3, which is then DISTURBED. -/
def wheelOver : State :=
  running.modHead 1 fun h => { h with a := {}, b := turned false, tracking := .passage .a .b }

theorem test_wheel_counted_up :
    Runs (.headStep 1) wheelOver fun t => t.heads[1].up = 1 ∧ t.heads[1].down = 0 ∧ t.heads[1].tracking = .idle ∧
      t.sects[1].localNet = 1 ∧ t.sectState 1 = .occupied ∧ t.sects[2].localNet = 4095 ∧ t.sectState 2 = .disturbed :=
  ⟨_, rfl, by decide +kernel⟩

/-- Section 4.11.1, step 16: both sensors change at once. -/
theorem test_illegal_step :
    Runs (.headStep 1) (running.modHead 1 fun h => { h with a := turned false, b := turned true, tracking := .passage .a .a }) fun t =>
      t.heads[1].tracking = .resync ∧ t.heads[1].error = true ∧ t.heads[1].errors = 1 ∧ t.sectState 1 = .disturbed ∧
      t.port.queue.head?.map (fun r => (r.kind, r.subject, r.old, r.new)) = some (.headError, 2, 1, 3) :=
  ⟨_, rfl, by decide +kernel⟩

/-- Section 3.14.1, cycle 1: f goes from 480 to 490 and the channel stays CLEAR; cycle 6: a stray 110 drops it. -/
theorem test_cycle_1 :
    let x : Channel := { f := 480, count := 15, clear := true }
    let y := x.complete box.channels[1] 0 560 40
    (y.lastD, y.f, y.count, y.clear) = (520, 490, 15, true) := by decide

theorem test_cycle_6 :
    let x : Channel := { f := 373, count := 1, minUntil := some 5 }
    let y := x.complete box.channels[1] 0 550 110
    (y.lastD, y.f, y.count, y.clear, y.interference, y.minUntil) = (440, 390, 0, false, true, some 144000) := by decide

/-- R42: with the old value and d both at 1023 the new value is 1023. -/
theorem test_filter_ceiling : filtered 1023 1023 = 1023 := by decide

/-- Section 6.12.1: the first character of box 3's ACCEPT, class 0 and identity 3, leaves the line as the bits 0, 0, 0, 0, 1, 1. -/
theorem test_first_character :
    let f : RxFrame := { cls := 0, sender := 3, kind := .accept, dest := 2, senderEnd := 0, payload := [1#8] }
    (f.chars.head?.map fun h => (List.range 8).map h.getLsbD) = some [false, false, false, false, true, true, false, false] := by
  decide +kernel

/-- Section 6.12.2: with all slots full a BEAT evicts the oldest frame of class 3, STATUS of end 0, which is then owed. -/
def fullSlots : State :=
  withSlots running
    [waiting .status 0 0, waiting .count 1 1, waiting .beat 1 2, waiting .bellCode 1 3, waiting .status 1 4, waiting .beat 1 5,
     waiting .beat 1 6, waiting .beat 1 7]

theorem test_beat_evicts_status :
    let t := fullSlots.request .beat 1 3 [255#8, 0#8]
    fullSlots.answerTo .beat 1 = .queued 8 ∧ (t.line.slots[0].map fun f => (f.kind, f.seq)) = some (.beat, 8) ∧
      t.line.owed[0] = true ∧
      t.port.queue.map (fun r => (r.kind, r.subject, r.old, r.new, r.d4)) = [(.frameUndelivered, 0, 1, 2, 0)] := by decide +kernel

/-- Section 7.13.1: the fourth strike, 600 ms after the third, opens a second group; the code 3-1 ends as an OFFER whose last payload byte is
1 + 8 × (index + 1). -/
theorem test_strike_opens_group :
    let b : Bell := { parser := .collecting, groups := [3], latestStrike := 940, lastStrike := some 940, quiet := .stopped, tapper := turned true }
    Runs (.tapperStrike 1) (running.modBell 1 fun _ => b) fun t => t.bells[1].groups = [3, 1] ∧ t.bells[1].beat = some 60 :=
  ⟨_, rfl, by decide +kernel⟩

theorem test_code_payload :
    let r : CodeRecord := { groups := [3, 1], termination := .endGap, index := some 2, time := 0 }
    r.payload = [3#8, 1#8, 0#8, 0#8, 0#8, 25#8] := by decide

/-- Section 7.13.2: beat 2, interval 80 ms, arrives at 200.51 and strikes at 200.62. -/
theorem test_beat_waits_for_rest :
    beatTime ⟨8, false, 20051⟩ (some ⟨units 20050, units 20058⟩) = units 20062 := by decide

/-- R172: an entry of part time 400, 4.00 s, is absent from 10.00 s on, however late in its unit its STATUS was taken. -/
theorem test_entry_runs_out : [479999, 480000].map (fun now => present now (some ⟨0, true, 5, 400⟩)) = [true, false] := by decide

/-- Section 11.5: the 64th record is stored as QUEUE_OVERFLOW, and the next adds 1 to its discard count. -/
theorem test_queue_overflows :
    let r : Event := { kind := .leverMoved, subject := 1, old := 0, new := 1 }
    let q := arrive r (List.replicate 63 r)
    (q.length, q.getLast?.map fun x => (x.kind, x.d1, x.discards)) = (64, some (.queueOverflow, 1, 0)) ∧
      ((arrive r q).length, (arrive r q).getLast?.map fun x => x.discards) = (64, some 1) := by decide +kernel

/-! ### Witnesses: reset, the loader and raw inputs -/

theorem witness_StepsNeverStop :
    (let s : State := { loader := { phase := .waiting 0 } };
      s.pending = [] ∧ s.nextDue = some .readRetryExpiry) ∧
    (State.reset.pending = [] ∧ State.reset.nextDue = none ∧ State.reset.underReset = false ∧ State.reset.port.transaction = .idle) ∧
    (let s : State := { port := { transaction := .status 1 } };
      s.pending = [] ∧ s.nextDue = none ∧ s.underReset = false ∧ s.port.transaction = .status 1) ∧
    (let s : State := { underReset := true };
      s.pending = [] ∧ s.nextDue = none ∧ s.underReset = true) := by decide +kernel

theorem witness_NothingHappensBeforeItsMoment :
    let s := State.reset
    s.quiet ∧ s.retryDue = false ∧ (∀ i, s.contactDue i = false ∧ s.transitDue i = false ∧ s.mismatchDue i = false) ∧
      (∀ i, s.evaluator.nextHanded i .fromNormal = none) ∧ s.normalForDue 0 = false ∧ s.boundaryDue = none ∧
      (∀ c, s.minOccupiedDue c = false) ∧ (∀ h, s.sensorDue h = false) ∧
      (∀ c, s.keyDue c true = false ∧ s.keyDue c false = false ∧ s.requestDue c = false ∧ s.heldDue c = false) ∧ s.flasherDue = false ∧ s.startable = none ∧
      (∀ id, s.heardDue id = false) ∧ expired s.now s.line.listenUntil = false ∧
      (∀ e : EndNo, expired s.now s.line.refresh[e] = false ∧ s.tapperDue e true = false ∧ s.tapperDue e false = false ∧
        s.quietDue e = false ∧ expired s.now s.bells[e].heldUntil = false ∧ expired s.now s.bells[e].codeUntil = false ∧
        s.beatIsDue e = false ∧ expired s.now s.bells[e].strikeUntil = false ∧
        expired s.now (s.bells[e].offer.map (·.until_)) = false ∧ s.instrumentDue e s.blocks[e].switch true = false ∧
        s.instrumentDue e s.blocks[e].switch false = false ∧ s.instrumentDue e s.blocks[e].tos true = false ∧
        s.instrumentDue e s.blocks[e].cancel true = false ∧ s.instrumentDue e s.blocks[e].tos false = false ∧
        s.instrumentDue e s.blocks[e].cancel false = false ∧ expired s.now s.blocks[e].acceptUntil = false ∧
        expired s.now s.blocks[e].cancelUntil = false ∧ expired s.now (s.blocks[e].refusal.map (·.until_)) = false) ∧
      s.switchKeyDue = false ∧ expired s.now (s.switching.agreement.map (·.until_)) = false ∧
      expired s.now (s.switching.hold.map (·.until_)) = false ∧ s.captureDue = none :=
  ⟨rfl, by decide +kernel⟩

theorem witness_StartMakesThreeReadAttempts :
    ({ underReset := true } : State).underReset = true ∧ State.reset.underReset = false ∧
    (∀ n < 3, let s : State := { loader := { failedAttempts := n } };
      s.reading = true ∧ s.loader.phase = .header ∧ s.loader.failedAttempts = n) ∧
    (let s : State := { now := 4800, loader := { failedAttempts := 1, phase := .waiting 4800 } };
      s.reading = true ∧ s.loader.phase = .waiting 4800 ∧ 4800 ≤ s.now) ∧
    (let s : State := { loader := { phase := .body [] } }; s.reading = true ∧ s.loader.phase = .body []) ∧
    ({ underReset := true } : State).reading = false ∧ ({ loader := { phase := .stopped } } : State).loader.phase = .stopped := by
  decide +kernel

/-- A header of an image of this many bytes. -/
def header (length : Nat) (identity rate count : Byte) : List Byte :=
  [0xE7#8, 0x16#8, 1#8] ++ bytes2 length ++ [identity, rate, count]

/-- A header that gives an image of 30 bytes. -/
def shortHeader : List Byte := header 30 2#8 1#8 10#8

theorem shortHeader_unsound : crcAgrees (shortHeader ++ List.replicate 22 0#8) = false := by decide +kernel

/-- A section of an image: its length and bytes. -/
def sectionOf (l : List Byte) : List Byte := bytes2 l.length ++ l

/-- The ten sections of the least image but for its first: nothing configured. -/
def leastTail : List Byte := [65, 66, 145, 4, 24, 48, 56, 1, 7].flatMap fun n => sectionOf (List.replicate n 0#8)

/-- What follows a header: the sections and the CRC trailer. -/
def restOf (h body : List Byte) : List Byte := body ++ bytes2 (crc16 (h ++ body)).toNat

theorem restOf_crc (h body : List Byte) : crcAgrees (h ++ restOf h body) = true := by
  have c (l : List Byte) : crcAgrees (l ++ bytes2 (crc16 l).toNat) = true := by simp [crcAgrees, bytes2]
  have := c (h ++ body)
  rwa [List.append_assoc] at this

/-- An image whose first section is given, with its CRC trailer: its header and what follows it. -/
def imageOf (first : List Byte) (identity rate count : Byte) (tail : List Byte := leastTail) : List Byte × List Byte :=
  let body := sectionOf first ++ tail
  let h := header (body.length + 10) identity rate count
  (h, restOf h body)

/-- What the checks after the CRC's make of an image. -/
def judges (l : List Byte) (wrong : Nat → Bool) (p : Image → Bool) : Bool :=
  match parseImage l with
  | .wrongLength k => wrong k
  | .unfilled => false
  | .parsed g => p g

theorem judges_parsed {l : List Byte} {p : Image → Bool} (h : judges l (fun _ => false) p = true) :
    ∃ g, parseImage l = .parsed g ∧ p g = true := by
  unfold judges at h
  split at h
  · cases h
  · cases h
  · exact ⟨_, by assumption, h⟩

/-- The least image with a byte between its last section and its trailer. -/
def longImage : List Byte × List Byte :=
  let body := sectionOf (List.replicate 21 0#8) ++ leastTail ++ [0#8]
  let h := header (body.length + 10) 2#8 1#8 10#8
  (h, restOf h body)

/-- The images of the witness: 9 sections, a section a byte short, identities 0 and 16, rate 3, an end whose direct peer has no identity, the
least image, with nothing configured, and that image with a byte left over. -/
def images : List (List Byte × List Byte) :=
  let zeros := List.replicate 21 0#8
  [imageOf zeros 2#8 1#8 9#8, imageOf (List.replicate 20 0#8) 2#8 1#8 10#8, imageOf zeros 0#8 1#8 10#8, imageOf zeros 16#8 1#8 10#8,
    imageOf zeros 2#8 3#8 10#8, imageOf ([1#8] ++ List.replicate 20 0#8) 2#8 1#8 10#8, imageOf zeros 2#8 1#8 10#8,
    longImage]

/-- One of the images. -/
def image (k : Nat) : List Byte × List Byte := images.getD k ([], [])

/-- The least image as it is read, with its CRC trailer. -/
def leastRead (crc : Nat) : Image := { length := 467, identity := 2, rate := 1, crc := crc }

theorem image_1 : judges ((image 1).1 ++ (image 1).2) (fun k => decide (k = 1)) (fun _ => false) = true := by decide +kernel

theorem image_2 : judges ((image 2).1 ++ (image 2).2) (fun _ => false) (fun g => decide (g.identity = 0)) = true := by decide +kernel

theorem image_3 : judges ((image 3).1 ++ (image 3).2) (fun _ => false) (fun g => decide (g.identity = 16)) = true := by decide +kernel

theorem image_4 : judges ((image 4).1 ++ (image 4).2) (fun _ => false) (fun g => decide (g.identity = 2 ∧ g.rate = 3)) = true := by
  decide +kernel

theorem image_5 : judges ((image 5).1 ++ (image 5).2) (fun _ => false) (fun g =>
    decide (g.identity = 2 ∧ g.rate = 1 ∧ g.ends[(0 : EndNo)].configured = true ∧ g.ends[(0 : EndNo)].directId = 0)) = true := by
  decide +kernel

theorem image_6 : judges ((image 6).1 ++ (image 6).2) (fun _ => false) (fun g =>
    decide ({ g with crc := 0 } = leastRead 0 ∧ g.failure = none)) = true := by decide +kernel

theorem image_7 : parseImage ((image 7).1 ++ (image 7).2) = .unfilled := by decide +kernel

theorem least_checks (crc : Nat) : ∀ y ∈ (leastRead crc).checks, y.holds := by
  simp [leastRead, Image.checks, Image.boxChecks, Image.countChecks, Image.tableChecks, defaultOr, Image.roleSound, Image.headBounds,
    Image.entrySound, Image.starterSound, EndRecord.hasPair, or_imp, forall_and]

theorem image_crc (k : Fin 8) : crcAgrees ((image k.val).1 ++ (image k.val).2) = true := by
  fin_cases k <;> exact restOf_crc _ _

theorem least_parses : ∃ crc, parseImage ((image 6).1 ++ (image 6).2) = .parsed (leastRead crc) := by
  obtain ⟨g, hp, hg⟩ := judges_parsed image_6
  have e : { ({ g with crc := 0 } : Image) with crc := g.crc } = { leastRead 0 with crc := g.crc } := by rw [(of_decide_eq_true hg).1]
  exact ⟨g.crc, hp.trans (congrArg Structure.parsed e)⟩

theorem unsound_parses : ∃ g, parseImage ((image 5).1 ++ (image 5).2) = .parsed g ∧ 1 ≤ g.identity ∧ g.identity ≤ 15 ∧
    (g.rate = 1 ∨ g.rate = 2) ∧ ∃ x after, g.checks = [] ++ x :: after ∧ ¬x.holds := by
  obtain ⟨g, hp, h⟩ := judges_parsed image_5
  have hg := of_decide_eq_true h
  refine ⟨g, hp, by omega, by omega, by omega, _, _, rfl, fun h => ?_⟩
  have := (h hg.2.2.1).1.1
  omega

theorem witness_UnsoundImageIsConfigFault :
    (State.reset.quiet ∧ State.reset.reading = true ∧ State.reset.loader.phase = .header) ∧
    (let s : State := { loader := { phase := .body shortHeader } };
      s.quiet ∧ s.reading = true ∧ s.loader.phase = .body shortHeader ∧
        (shortHeader ++ List.replicate 22 0#8).length = headerLength shortHeader ∧
        crcAgrees (shortHeader ++ List.replicate 22 0#8) = false ∧
        validate (shortHeader ++ List.replicate 22 0#8) = .failed (.imageCrc, 0)) ∧
    (∀ k : Fin 8, let s : State := { loader := { phase := .body (image k.val).1 } }
      s.quiet ∧ s.reading = true ∧ s.loader.phase = .body (image k.val).1 ∧
        ((image k.val).1 ++ (image k.val).2).length = headerLength (image k.val).1 ∧
        crcAgrees ((image k.val).1 ++ (image k.val).2) = true ∧
        ((((image k.val).1 ++ (image k.val).2).getD 7 0#8).toNat ≠ 10 ↔ k = 0)) ∧
    parseImage ((image 1).1 ++ (image 1).2) = .wrongLength 1 ∧ parseImage ((image 7).1 ++ (image 7).2) = .unfilled ∧
    (∃ g, parseImage ((image 2).1 ++ (image 2).2) = .parsed g ∧ g.identity = 0) ∧
    (∃ g, parseImage ((image 3).1 ++ (image 3).2) = .parsed g ∧ g.identity = 16) ∧
    (∃ g, parseImage ((image 4).1 ++ (image 4).2) = .parsed g ∧ g.identity = 2 ∧ g.rate = 3) ∧
    (∃ g, parseImage ((image 5).1 ++ (image 5).2) = .parsed g ∧ 1 ≤ g.identity ∧ g.identity ≤ 15 ∧
      (g.rate = 1 ∨ g.rate = 2) ∧ ∃ x after, g.checks = [] ++ x :: after ∧ ¬x.holds) ∧
    (∃ crc, parseImage ((image 6).1 ++ (image 6).2) = .parsed (leastRead crc) ∧ ∀ y ∈ (leastRead crc).checks, y.holds) := by
  refine ⟨⟨rfl, by decide, rfl⟩, ⟨rfl, by decide, rfl, by decide, shortHeader_unsound, ?_⟩, fun k => ⟨rfl, rfl, rfl, ?_⟩, ?_, image_7, ?_, ?_, ?_,
    unsound_parses, least_parses.imp fun crc h => ⟨h, least_checks crc⟩⟩
  · unfold validate
    rw [shortHeader_unsound]
    rfl
  · have h : ∀ k : Fin 8, ((image k.val).1 ++ (image k.val).2).length = headerLength (image k.val).1 ∧
        ((((image k.val).1 ++ (image k.val).2).getD 7 0#8).toNat ≠ 10 ↔ k = 0) := by decide +kernel
    exact ⟨(h k).1, image_crc k, (h k).2⟩
  · have h := image_1
    unfold judges at h
    split at h
    · rename_i k e
      rw [e, of_decide_eq_true h]
    · cases h
    · cases h
  · exact (judges_parsed image_2).imp fun _ h => ⟨h.1, of_decide_eq_true h.2⟩
  · exact (judges_parsed image_3).imp fun _ h => ⟨h.1, of_decide_eq_true h.2⟩
  · exact (judges_parsed image_4).imp fun _ h => ⟨h.1, of_decide_eq_true h.2⟩

theorem least_passes : ∃ g, validate ((image 6).1 ++ (image 6).2) = .passed g := by
  obtain ⟨g, hp, hg⟩ := judges_parsed image_6
  have h7 : ¬(((image 6).1 ++ (image 6).2).getD 7 0).toNat ≠ 10 := by decide +kernel
  have hc : crcAgrees ((image 6).1 ++ (image 6).2) = true := image_crc 6
  obtain ⟨e, hf⟩ := of_decide_eq_true hg
  have hi : g.identity = 2 ∧ g.rate = 1 := ⟨congrArg Image.identity e, congrArg Image.rate e⟩
  unfold validate
  rw [hc, hp, if_neg (by decide), if_neg h7]
  exact ⟨{ g with validated := true }, by simp only [Image.validate, hf, hi]; rfl⟩

theorem witness_SoundImageEntersRunning :
    let s : State := { loader := { phase := .body (image 6).1 } }
    s.quiet ∧ s.switching.state = .inUse ∧ s.reading = true ∧ s.loader.phase = .body (image 6).1 ∧
      ((image 6).1 ++ (image 6).2).length = headerLength (image 6).1 ∧ ∃ g, validate ((image 6).1 ++ (image 6).2) = .passed g :=
  ⟨rfl, rfl, rfl, rfl, by decide +kernel, least_passes⟩

/-- The least image, but with lever 2 SPARE and a pool of three terms: LEVER_NORMAL_FOR of levers 1 and 2, and LEVER_NORMAL of lever 1. -/
def pooled : List Byte × List Byte :=
  imageOf (List.replicate 21 0#8) 2#8 1#8 10#8
    (sectionOf ([0#8, 0#8, 0#8, 2#8] ++ List.replicate 61 0#8) ++
      sectionOf ([0#8, 3#8, 3#8, 1#8, 60#8, 3#8, 2#8, 60#8, 1#8, 1#8, 0#8] ++ List.replicate 64 0#8) ++
      [145, 4, 24, 48, 56, 1, 7].flatMap fun n => sectionOf (List.replicate n 0#8))

theorem pooled_parses : judges (pooled.1 ++ pooled.2) (fun _ => false) (fun g =>
    decide (g.identity = 2 ∧ g.rate = 1 ∧ g.failure = none ∧ g.pool = [.leverNormalFor 1 60, .leverNormalFor 2 60, .leverNormal 1] ∧
      g.roles[(0 : LeverNo)] = .ordinary ∧ g.roles[(1 : LeverNo)] = .spare)) = true := by decide +kernel

/-- The terms of the pool at the entry into RUNNING: of a lever found NORMAL, of a SPARE lever, and of another kind. -/
theorem witness_TermsStart :
    let s : State := ({ loader := { phase := .body pooled.1 } } : State).modLever 0 fun l => { l with n := { raw := true, value := true } }
    s.quiet ∧ s.switching.state = .inUse ∧ s.reading = true ∧ s.loader.phase = .body pooled.1 ∧
      (pooled.1 ++ pooled.2).length = headerLength pooled.1 ∧
      derive s.levers[(0 : LeverNo)].n.value s.levers[(0 : LeverNo)].r.value = .normal ∧
      ∃ g, validate (pooled.1 ++ pooled.2) = .passed g ∧ g.pool = [.leverNormalFor 1 60, .leverNormalFor 2 60, .leverNormal 1] ∧
        g.roles[(0 : LeverNo)] = .ordinary ∧ g.roles[(1 : LeverNo)] = .spare := by
  refine ⟨rfl, rfl, rfl, rfl, by decide +kernel, by decide +kernel, ?_⟩
  obtain ⟨g, hp, h⟩ := judges_parsed pooled_parses
  obtain ⟨hi, hr, hf, h⟩ := of_decide_eq_true h
  have h7 : ¬((pooled.1 ++ pooled.2).getD 7 0).toNat ≠ 10 := by decide +kernel
  have hc : crcAgrees (pooled.1 ++ pooled.2) = true := restOf_crc _ _
  unfold validate
  rw [hc, hp, if_neg (by decide), if_neg h7]
  exact ⟨{ g with validated := true }, by simp only [Image.validate, hf, hi, hr]; rfl, h⟩

/-! ### Witnesses: the laws -/

/-- The running part with a command waiting. -/
def commanded : State := { running with pending := [.statusCommand] }

theorem commanded_steps : ∃ t, step commanded = .next t := ⟨_, rfl⟩

theorem witness_LockLawKeptByStep : LockLaw commanded ∧ ∃ t, step commanded = .next t :=
  ⟨by unfold LockLaw; decide +kernel, commanded_steps⟩

theorem witness_CopiesLawKeptByStep : CopiesLaw commanded ∧ ∃ t, step commanded = .next t :=
  ⟨by unfold CopiesLaw; decide +kernel, commanded_steps⟩

theorem commanded_decisions : DecisionLaw commanded := by
  unfold DecisionLaw State.decisionAgrees
  decide +kernel

theorem witness_DecisionLawKeptByStep : DecisionLaw commanded ∧ ∃ t, step commanded = .next t :=
  ⟨commanded_decisions, commanded_steps⟩

theorem witness_EnergisedLockIsPermitted :
    LockLaw commanded ∧ CopiesLaw commanded ∧ DecisionLaw commanded ∧ commanded.evaluator.handed = [] ∧ commanded.active = true ∧
      commanded.isRunning = true ∧ commanded.levers[(0 : LeverNo)].position = .normal ∧ commanded.levers[(0 : LeverNo)].lockFault = false ∧
      commanded.cfg.roles[(0 : LeverNo)] = .ordinary ∧ commanded.cfg.roles[(31 : LeverNo)] = .spare ∧
      commanded.cfg.entries[(0 : LeverNo)].fromNormal = [⟨0, 1⟩] ∧ commanded.cfg.entries[(1 : LeverNo)].fromNormal = [] ∧
      commanded.cfg.pool = [.leverNormal 2, .leverNormalFor 1 60] ∧ commanded.levers[(1 : LeverNo)].position = .normal ∧
      commanded.cfg.switchable = true ∧ commanded.cfg.altNamed = true ∧ commanded.cfg.alternative = ⟨0, 1⟩ :=
  ⟨witness_LockLawKeptByStep.1, witness_CopiesLawKeptByStep.1, commanded_decisions, rfl, by decide +kernel⟩

/-- The running part with lever 2 at REVERSE, so that neither the from-normal entry of lever 1 nor the switch-out alternative is satisfied. -/
def reversed : State :=
  let v : Evaluator := { view := { view with position := view.position.set 1 .reverse }, timers := [{}, {}] }
  { commanded with
    evaluator := { v with decisions := Vector.ofFn fun i => v.newDecision box i }
    levers := (commanded.levers.set 0 { commanded.levers[(0 : LeverNo)] with output := false, decNormal := false }).set 1
      { commanded.levers[(1 : LeverNo)] with position := .reverse } }

theorem witness_TheTableIsNotSatisfied :
    LockLaw reversed ∧ CopiesLaw reversed ∧ DecisionLaw reversed ∧ reversed.evaluator.handed = [] ∧ reversed.active = true ∧
      reversed.levers[(0 : LeverNo)].position = .normal ∧ reversed.levers[(0 : LeverNo)].output = false ∧
      reversed.levers[(1 : LeverNo)].position = .reverse ∧ reversed.levers[(1 : LeverNo)].output = true ∧
      reversed.evaluator.altDecision = false := by
  unfold LockLaw CopiesLaw DecisionLaw State.decisionAgrees
  decide +kernel

theorem witness_ChannelLawKeptByStep : ChannelLaw commanded ∧ ∃ t, step commanded = .next t :=
  ⟨by unfold ChannelLaw ChannelOk; decide +kernel, commanded_steps⟩

theorem witness_EndLawsKeptByStep :
    ReleaseLaw commanded ∧ OfferLaw commanded ∧ EndTimerLaw commanded ∧ ∃ t, step commanded = .next t :=
  ⟨by unfold ReleaseLaw; decide +kernel, by unfold OfferLaw; decide +kernel, by unfold EndTimerLaw; decide +kernel, commanded_steps⟩

theorem witness_SwitchedOutEndsStayInactive :
    let s : State :=
      { commanded with
        loader := { partState := .switchedOut, phase := .stopped }, switching := { state := .out }
        blocks := Vector.replicate 3 { state := .inactive } }
    ControllerLaw s ∧ SwitchedOutLaw s ∧ ∃ t, step s = .next t :=
  ⟨⟨by decide, by decide, by decide, rfl⟩, by unfold SwitchedOutLaw; decide +kernel, _, rfl⟩

theorem witness_LockFaultStandsUntilReset :
    let s := running.modLever 0 fun l => { l with lockFault := true }
    Instr.statusCommand ≠ .resetAsserted ∧ s.levers[(0 : LeverNo)].lockFault = true ∧ ∃ t, exec .statusCommand s = .next t :=
  ⟨by decide, by decide +kernel, _, rfl⟩

theorem commanded_queue : QueueLaw commanded := ⟨by decide, by decide, fun _ h => by cases h⟩

theorem witness_StoresStayBounded :
    QueueLaw commanded ∧ SlotLaw commanded ∧ NumberLaw commanded ∧ NumberLaw fullSlots ∧ ∃ t, step commanded = .next t :=
  ⟨commanded_queue, by unfold SlotLaw; decide +kernel, by unfold NumberLaw; decide +kernel, by unfold NumberLaw; decide +kernel,
    commanded_steps⟩

/-- A queue of a length whose last record is of a kind. -/
def queued (n : Nat) (k : EventKind) : State :=
  let r : Event := { kind := .leverMoved, subject := 1, old := 0, new := 1 }
  running.modPort fun p => { p with queue := List.replicate n r ++ [{ r with kind := k }] }

theorem witness_ArrivalsKeepTheQueue :
    (∀ n k, (n, k) ∈ [(61, EventKind.leverMoved), (62, .leverMoved), (63, .queueOverflow), (62, .queueOverflow)] →
      QueueLaw (queued n k)) ∧
    ((queued 61 .leverMoved).port.queue.length < 63 ∧ ∀ x ∈ (queued 61 .leverMoved).port.queue, x.kind ≠ .queueOverflow) ∧
    ((queued 62 .leverMoved).port.queue.length = 63 ∧ ∀ x ∈ (queued 62 .leverMoved).port.queue, x.kind ≠ .queueOverflow) ∧
    ∃ l x, (queued 63 .queueOverflow).port.queue = l ++ [x] ∧ x.kind = .queueOverflow ∧ x.d3 * 256 + x.d4 ≤ 65535 := by
  refine ⟨?_, by decide +kernel, by decide +kernel, _, _, rfl, rfl, by decide⟩
  intro n k h
  simp only [List.mem_cons, List.not_mem_nil, or_false, Prod.mk.injEq] at h
  rcases h with ⟨rfl, rfl⟩ | ⟨rfl, rfl⟩ | ⟨rfl, rfl⟩ | ⟨rfl, rfl⟩ <;>
    exact ⟨by decide +kernel, by decide +kernel, fun _ h => by cases h⟩

/-! ### Witnesses: levers and the locking table -/

/-- The running part with another lever 1. -/
def withLever (l : Lever) : State := running.modLever 0 fun _ => l

/-- The position the contacts of lever 1 come to prove. -/
def proves (s : State) : Position :=
  let l := s.levers[(0 : LeverNo)]
  derive (l.n.settle (ms 50) s.now).value (l.r.settle (ms 50) s.now).value

/-- The terms of the tests' pool: one that names lever 1 for a period, and one that does not. -/
theorem witness_TimersFollow :
    running.cfg.pool = [.leverNormal 2, .leverNormalFor ((0 : LeverNo).val + 1) 60] ∧ running.evaluator.timers = [{}, {}] := by decide

/-- R21: lever 1 proves NORMAL again after its mark was set: the mark is cleared, and the expiry is 60 s after the new time of last normal. -/
theorem test_normal_sets_the_expiry :
    Runs (.provingContactChange 0) ((withLever { n := turned true }).modEvaluator fun v => { v with timers := [{}, { elapsed := true }] })
      fun t => t.evaluator.timers = [{}, { elapsed := false, expiry := some (1000 + 6000) }] := ⟨_, rfl, by decide +kernel⟩

theorem witness_LeverTakesDerivedPosition :
    (∀ s, s = withLever { n := turned false, position := .normal } ∨ s = withLever { n := turned true } ∨
        s = withLever { n := turned true, r := { raw := true, value := true }, position := .reverse } →
      s.quiet ∧ s.contactDue 0 = true ∧ s.active = true ∧ proves s ≠ s.levers[(0 : LeverNo)].position) ∧
    (let s := withLever { n := turned false, position := .fault };
      s.quiet ∧ s.contactDue 0 = true ∧ s.levers[(0 : LeverNo)].position = .fault ∧ proves s = .transit) ∧
    (let s := { withLever { n := turned true } with loader := {} };
      s.quiet ∧ s.contactDue 0 = true ∧ s.active = false) := by
  refine ⟨?_, ⟨rfl, by decide +kernel⟩, rfl, by decide +kernel⟩
  rintro s (rfl | rfl | rfl) <;> exact ⟨rfl, by decide +kernel⟩

/-- The running part with its starter, lever 3, moving, and a state and release of its end 0. -/
def starter (l : Lever) (st : BlockState) (rel : Release) : State :=
  (running.modLever 2 fun _ => l).modBlock 0 fun b => { b with state := st, release := rel }

/-- The starter about to leave NORMAL with its lock energised, a release of end 0, and the decision that its from-normal entry no longer holds
on its way. -/
def meeting (st : BlockState) (rel : Release) : State :=
  (starter { n := turned false, position := .normal, output := true, readback := true, decNormal := true } st rel).modEvaluator fun v =>
    { v with handed := [⟨2, .fromReverse, true⟩, ⟨2, .fromNormal, true⟩, ⟨2, .fromNormal, false⟩] }

/-- R15: after the withdrawal the decision is taken first, and a lever that moves nevertheless has a de-energised hold value; before it the
lever leaves with its lock energised, and the release is TAKEN. -/
theorem test_withdrawal_meets_starter :
    ((meeting .normal .none).quiet ∧ (meeting .normal .none).contactDue 2 = true ∧ (meeting .normal .none).withdrawn 2 = true) ∧
    Runs (.provingContactChange 2) (meeting .normal .none) (fun t => t.levers[2].position = .transit ∧ t.levers[2].output = false ∧
      t.levers[2].hold = false ∧ t.levers[2].decNormal = false ∧ t.blocks[0].release = .none) ∧
    Runs (.provingContactChange 2) (meeting .clearOut .unused) (fun t => t.levers[2].position = .transit ∧
      t.levers[2].output = true ∧ t.levers[2].hold = true ∧ t.blocks[0].release = .taken) :=
  ⟨⟨rfl, by decide +kernel⟩, ⟨_, rfl, by decide +kernel⟩, _, rfl, by decide +kernel⟩

/-- The running part with head H1, the head of CS1, about to take a step, and a state of its end 0. -/
def atOwnHead (a b : Contact) (t : Tracking) (st : BlockState) : State :=
  { (starter {} st .none).modHead 0 fun h => { h with a := a, b := b, tracking := t } with
    cfg := { box with fitted := Vector.replicate 4 1 } }

theorem witness_ReportsMoveTheEnd :
    (∀ st : BlockState, ∀ s ∈ [atOwnHead {} (turned false) (.passage .a .b) st, atOwnHead (turned true) {} .idle st],
      s.quiet ∧ s.active = true ∧ s.sensorDue 0 = true ∧ s.cfg.sects[(0 : SectNo)].boundaryAt 0 ≠ none ∧ s.sectEnd 0 = some 0 ∧
        (∀ c', s.cfg.sects[c'].boundaryAt 0 ≠ none → s.sectEnd c' = some 0 → c' = 0) ∧ s.blocks[(0 : EndNo)].state = st ∧
        s.indication 0 = .zero) ∧
    Runs (.headStep 0) (atOwnHead {} (turned false) (.passage .a .b) .clearIn) (fun t => t.indication 0 = .nonzero) ∧
    (let s := starter { n := turned false, position := .normal } .clearOut .unused;
      s.quiet ∧ s.active = true ∧ s.contactDue 2 = true ∧ s.cfg.roles[(2 : LeverNo)] = .starter 0 ∧
        s.levers[(2 : LeverNo)].position = .normal ∧ (s.levers[(2 : LeverNo)].n.settle (ms 50) s.now).value = false) ∧
    (let s := starter { n := turned true, position := .reverse } .clearOut .taken;
      s.quiet ∧ s.active = true ∧ s.contactDue 2 = true ∧ s.cfg.roles[(2 : LeverNo)] = .starter 0 ∧
        s.levers[(2 : LeverNo)].position ≠ .normal ∧
        derive (s.levers[(2 : LeverNo)].n.settle (ms 50) s.now).value s.levers[(2 : LeverNo)].r.value = .normal) ∧
    (∀ st : BlockState, let s := starter {} st .none
      s.sectEnd 0 = some 0 ∧ s.indication 0 = .zero ∧ s.blocks[(0 : EndNo)].state = st ∧
        (s.modSect 0 fun x => { x with localNet := 1 }).indication 0 = .nonzero ∧
        (s.modSect 0 fun x => { x with localNet := 0 }).indication 0 = .zero) :=
  ⟨fun st => by unfold State.quiet; cases st <;> decide +kernel, ⟨_, rfl, by decide +kernel⟩, ⟨rfl, by decide +kernel⟩,
    ⟨rfl, by decide +kernel⟩, fun st => by cases st <;> decide +kernel⟩

theorem witness_TransitLimitIsFault :
    let s := withLever { transitFrom := some 0 }
    s.quiet ∧ s.transitDue 0 = true := ⟨rfl, by decide +kernel⟩

theorem witness_ReadbackIsSupervised :
    let s := withLever { position := .normal, readback := true, mismatchFrom := some (480000 - ms 200) }
    s.quiet ∧ s.mismatchDue 0 = true := ⟨rfl, by decide +kernel⟩

theorem witness_DecisionArrivesAtTheScanner :
    let s := running.modEvaluator fun v => { v with handed := [⟨0, .fromNormal, false⟩, ⟨0, .fromReverse, true⟩] }
    s.quiet ∧ s.evaluator.nextHanded 0 .fromNormal = some ⟨0, .fromNormal, false⟩ ∧
      s.evaluator.nextHanded 0 .fromReverse = some ⟨0, .fromReverse, true⟩ := ⟨rfl, by decide +kernel⟩

theorem witness_NormalForExpirySetsTheMark :
    let r := { running with cfg := { box with pool := [.leverNormal 2, .leverNormalFor 1 60, .leverNormalFor 1 60, .leverNormalFor 1 61] } }
    let s := r.modEvaluator fun v =>
      { v with timers := [{}, { expiry := some 1000 }, { expiry := some 1000 }, { expiry := some 49000 }] }
    s.quiet ∧ s.normalForDue 1 = true ∧ s.cfg.pool[2]? = s.cfg.pool[1]? ∧ s.cfg.pool[3]? ≠ s.cfg.pool[1]? ∧
      s.switching.state ≠ .proposingOut := ⟨rfl, by decide +kernel⟩

/-! ### Witnesses: track circuits and axle counting -/

theorem witness_CycleArithmetic :
    ∀ p ∈ [(0, 0), (0, 1023), (1023, 0), (1023, 1023), (560, 40)], p.1 ≤ 1023 ∧ p.2 ≤ 1023 ∧ ({ f := 1023 } : Channel).f ≤ 1023 := by
  decide

/-- The running part at a boundary, the half-period that ends having a number, with another TC2. -/
def atBoundary (number : Nat) (x : Channel) : State :=
  running.modTrack fun t => { feedTimer := some ⟨number, 480000⟩, channels := t.channels.set 1 x }

theorem witness_BoundarySamplesAndFeeds :
    ∀ number ∈ [1, 2], let s := atBoundary number {}
      s.quiet ∧ s.boundaryDue = some ⟨number, 480000⟩ ∧ s.cfg.channels[(0 : ChannelNo)].enabled = false ∧
        s.cfg.channels[(1 : ChannelNo)].enabled = true ∧ s.track.channels[(1 : ChannelNo)].pendingOn = none := by
  intro n h
  simp only [List.mem_cons, List.not_mem_nil, or_false] at h
  rcases h with rfl | rfl <;> exact ⟨rfl, by decide +kernel⟩

theorem witness_CycleCompletes :
    let s := atBoundary 2 { pendingOn := some 560 }
    s.quiet ∧ s.boundaryDue = some ⟨2, 480000⟩ ∧ s.cfg.channels[(1 : ChannelNo)].enabled = true ∧
      2 % 2 ≠ (if s.cfg.channels[(1 : ChannelNo)].phase = 0 then 1 else 0) ∧
      s.track.channels[(1 : ChannelNo)].pendingOn = some 560 ∧ s.cfg.channels[(1 : ChannelNo)].strayLimit < 81 ∧
      s.track.channels[(1 : ChannelNo)].interference = false ∧ s.track.channels[(1 : ChannelNo)].marginLow = false :=
  ⟨rfl, by decide +kernel⟩

theorem witness_MinOccupiedExpiryMayClear :
    let s := atBoundary 1 { minUntil := some 480000, count := 3 }
    s.quiet ∧ s.minOccupiedDue 1 = true ∧ s.track.channels[(1 : ChannelNo)].clear = false ∧
      s.cfg.channels[(1 : ChannelNo)].p ≤ s.track.channels[(1 : ChannelNo)].count ∧
      s.track.channels[(1 : ChannelNo)].f < s.cfg.channels[(1 : ChannelNo)].tWarn ∧
      s.track.channels[(1 : ChannelNo)].marginLow = false := ⟨rfl, by decide +kernel⟩

/-- The running part with head H2 about to take a step. -/
def stepping (a b : Contact) (t : Tracking) : State := running.modHead 1 fun h => { h with a := a, b := b, tracking := t }

/-- Heads about to take a step: onto A and onto B from IDLE, on in PASSAGE, off either side, an illegal step, and a step in RESYNC. -/
def steps : List State :=
  [stepping (turned true) {} .idle, stepping {} (turned true) .idle,
    stepping { raw := true, value := true } (turned true) (.passage .a .a), stepping {} (turned false) (.passage .a .b),
    stepping (turned false) {} (.passage .b .a), stepping (turned false) (turned true) (.passage .a .a),
    stepping (turned true) { raw := true, value := true } .resync]

theorem witness_HeadStepTracksWheels :
    (∀ s ∈ steps, s.quiet ∧ s.active = true ∧ s.sensorDue 1 = true) ∧
    ∀ p ∈ [PartState.starting, .configFault], let s := { stepping (turned true) {} .idle with loader := { partState := p } }
      s.quiet ∧ s.active = false ∧ s.sensorDue 1 = true := by
  unfold State.quiet
  decide +kernel

theorem witness_WheelsMoveTheNets :
    (∀ s ∈ steps, s.quiet ∧ s.active = true ∧ s.sensorDue 1 = true) ∧
      (running.cfg.sects[(1 : SectNo)].boundaryAt 1).map (·.orientation) = some .upIn ∧
      (running.cfg.sects[(2 : SectNo)].boundaryAt 1).map (·.orientation) = some .downIn :=
  ⟨witness_HeadStepTracksWheels.1, by decide +kernel⟩

/-- A wheel counted at the part's own head, with the end in a state that takes a COUNT and INACTIVE, and with a slot empty and with none that gives
way; and an illegal step there, from IDLE and from PASSAGE. -/
theorem witness_OwnHeadCounts :
    (∀ st ∈ [BlockState.normal, .inactive], let s := atOwnHead {} (turned false) (.passage .a .b) st
      s.quiet ∧ s.active = true ∧ s.sensorDue 0 = true ∧ s.cfg.sects[(0 : SectNo)].boundaryAt 0 ≠ none ∧ s.sectEnd 0 = some 0 ∧
        s.blocks[(0 : EndNo)].state = st ∧ s.switching.state ≠ .proposingOut ∧ s.heads[(0 : HeadNo)].tracking.entered .a = true ∧
        patternOf s.heads[(0 : HeadNo)].a.value s.heads[(0 : HeadNo)].b.value = .b ∧
        patternOf (s.heads[(0 : HeadNo)].a.settle (ms 2) s.now).value (s.heads[(0 : HeadNo)].b.settle (ms 2) s.now).value = .none) ∧
    (∀ t ∈ [Tracking.idle, .passage .b .ab, .resync], let s := atOwnHead (turned true) (turned true) t .normal
      s.quiet ∧ s.active = true ∧ s.sensorDue 0 = true ∧ s.heads[(0 : HeadNo)].tracking = t ∧
        (s.heads[(0 : HeadNo)].a.settle (ms 2) s.now).value ≠ s.heads[(0 : HeadNo)].a.value ∧
        (s.heads[(0 : HeadNo)].b.settle (ms 2) s.now).value ≠ s.heads[(0 : HeadNo)].b.value) := by
  unfold State.quiet
  decide +kernel

/-- R70: the COUNT of a wheel goes to the section's end, and an INACTIVE end has none. -/
theorem test_own_head_counts :
    Runs (.headStep 0) (atOwnHead {} (turned false) (.passage .a .b) .occupiedIn) (fun t =>
      (t.line.slots.toList.filterMap id).map (fun f => (f.kind, f.e, f.dest)) = [(.count, 0, 1)]) ∧
    Runs (.headStep 0) (atOwnHead {} (turned false) (.passage .a .b) .inactive) (fun t =>
      t.line.slots.toList.filterMap id = []) := ⟨⟨_, rfl, by decide +kernel⟩, _, rfl, by decide +kernel⟩

theorem witness_SectionStateFollowsContent :
    (running.sectOf 2 = none ∧ running.sectOf 0 = some 0 ∧ running.sects[(0 : SectNo)].confirming = none ∧
      (running.modSect 0 fun x => { x with confirming := some 4 }).sectOf 0 = some 0 ∧
      (running.modSect 0 fun x => { x with confirming := some 4 }).sects[(0 : SectNo)].confirming ≠ none) ∧
    (∀ l : Latch, ({ latch := l } : Sect).latch = l ∧ ({ latch := l } : Sect).remote = none) ∧
    (∀ n ∈ [0, 1, 2047, 2048, 4095], let x : Sect := { latch := .none, remote := some n }
      x.latch = .none ∧ x.remote = some n ∧ (x.localNet + n) % 4096 = n) := by
  refine ⟨by decide +kernel, fun l => ⟨rfl, rfl⟩, by decide⟩

/-- The running part with the reset key of a section just pressed. -/
def keyed (c : SectNo) (x : Sect) : State := running.modSect c fun _ => { x with key := turned true }

theorem witness_ResetKeyOnClearOrLocalSection :
    (∀ net ∈ [0, 5], let s := keyed 1 { latch := .none, localNet := net }
      s.quiet ∧ s.active = true ∧ s.keyDue 1 true = true ∧ s.cfg.sects[(1 : SectNo)].configured = true ∧
        s.cfg.sects[(1 : SectNo)].type = .localSect ∧ (s.sectState 1 = .clear ↔ net = 0)) ∧
    (let s := keyed 5 {};
      s.quiet ∧ s.active = true ∧ s.keyDue 5 true = true ∧ s.cfg.sects[(5 : SectNo)].configured = false) ∧
    (let s := { keyed 1 {} with loader := {} };
      s.quiet ∧ s.active = false ∧ s.keyDue 1 true = true ∧ s.cfg.sects[(1 : SectNo)].configured = true) := by
  unfold State.quiet
  decide +kernel

/-- A key pressed with nothing under way, with a request pending, with one held and with both; the link UP or LOST, every state of the end, and slots
empty or full. -/
theorem witness_ResetKeyOnBlockSection :
    (∀ x ∈ [({} : Sect), { pending := some ⟨500000, 3⟩ }, { held := some 500000 }, { latch := .resetPrep, held := some 500000 }],
      ∀ st ∈ [BlockState.normal, .accepting, .clearIn, .clearOut, .cancelling, .occupiedIn, .occupiedOut, .obstructed, .switching,
        .inactive, .recovering], ∀ up : Bool,
        let s := ((keyed 0 x).modBlock 0 fun b => { b with state := st }).modLine fun l => { l with link := Vector.replicate 3 up }
        s.quiet ∧ s.active = true ∧ s.keyDue 0 true = true ∧ s.cfg.sects[(0 : SectNo)].configured = true ∧ s.sectEnd 0 = some 0 ∧
          s.sectState 0 ≠ .clear ∧ s.line.link[(0 : EndNo)] = up ∧ s.blocks[(0 : EndNo)].state = st ∧
          s.sects[(0 : SectNo)].held = x.held ∧ s.sects[(0 : SectNo)].pending = x.pending ∧ s.switching.state ≠ .proposingOut) ∧
    (∀ x ∈ [({} : Sect), { held := some 500000 }], ∀ k ∈ [FrameKind.resetReq, .resetConfirm], (keyed 0 x).answerTo k 0 = .queued 0 ∧
      (withSlots (keyed 0 x) ((List.range 8).map (waiting .accept 1))).answerTo k 0 = .refused) ∧
    ((keyed 0 {}).modSwitching fun w => { w with state := .proposingOut }).switching.state = .proposingOut := by
  unfold State.quiet
  decide +kernel

theorem witness_ResetRequestsConclude :
    (let s := running.modSect 0 fun x => { x with pending := some ⟨480000, 3⟩, held := some 480000 };
      s.quiet ∧ s.requestDue 0 = true ∧ s.heldDue 0 = true ∧ s.sectOf 0 = some 0 ∧ s.sects[(0 : SectNo)].pending ≠ none ∧
        s.answerTo .resetConfirm 0 = .queued 0) ∧
    (running.sectOf 0 = some 0 ∧ running.sects[(0 : SectNo)].pending = none) ∧
    (let s := withSlots (running.modSect 0 fun x => { x with pending := some ⟨500000, 3⟩ })
        ((List.range 8).map fun n => { waiting .accept 1 n with onLine := false });
      s.sectOf 0 = some 0 ∧ s.sects[(0 : SectNo)].pending ≠ none ∧ s.answerTo .resetConfirm 0 = .refused) :=
  ⟨⟨rfl, by decide +kernel⟩, by decide +kernel, by decide +kernel⟩

theorem witness_DetectionFollowsItsComponents :
    (∀ z : SectState, let b : Combiner := { channelClear := Vector.replicate 12 true, count := Vector.replicate 6 z }
      b.heldCount { configured := true, channel := 1, count := 1 } = some z ∧
        b.heldChannel { configured := true, channel := 1, count := 1 } = some true) ∧
    (let b : Combiner := { interference := Vector.replicate 12 true };
      b.heldInterference { configured := true, channel := 12 } = some true) ∧
    (let s : State := { running with now := 500000 };
      s.quiet ∧ s.active = true ∧ s.combiner.flasher = some ⟨true, 500000⟩ ∧ 500000 ≤ s.now) :=
  ⟨fun z => by cases z <;> decide +kernel, by decide +kernel, rfl, by decide +kernel⟩

/-! ### Witnesses: the block line -/

/-- A STATUS that box 1 sends from its end 1. -/
def rx : RxFrame := { cls := 3, sender := 1, kind := .status, dest := 2, senderEnd := 1, payload := List.replicate 6 0#8 }

/-- Section 6.12.1: the first character of box 3's ACCEPT is driven for its start bit and its four 0 bits, then idle for its two 1 bits, and so
on to an idle stop bit; the acknowledge character 0x96 follows the same rule. -/
theorem test_levels_of_a_character :
    charLevels 0x30#8 = [.driven, .driven, .driven, .driven, .driven, .idle, .idle, .driven, .driven, .idle] ∧
      charLevels 0x96#8 = [.driven, .driven, .idle, .idle, .driven, .idle, .driven, .driven, .idle, .idle] := by decide

/-- At 4800 bit/s a station that acknowledges an 8-character frame puts the levels of 0x96 on the line from bit time 70 on. -/
theorem test_acknowledge_levels :
    let f : RxFrame := { rx with cls := 1, kind := .count, payload := [0#8, 0#8] }
    let s := running.modLine fun l => { l with decoder := .sound f, acknowledging := true, frameFrom := 480000 }
    [69, 70, 71, 72, 73, 79, 80].map (fun k => { s with now := 480000 + 10 * k + 5 }.lineLevel) =
      [.idle, .driven, .driven, .idle, .idle, .idle, .idle] := by decide +kernel

theorem witness_SentFrameIsDecoded :
    ∀ f ∈ [rx, { rx with sender := 15, dest := 15, senderEnd := 3 }], f.cls = f.kind.cls ∧ 1 ≤ f.sender ∧ f.sender ≤ 15 ∧ f.dest ≤ 15 ∧
      f.senderEnd ≤ 3 ∧ f.payload.length = f.kind.length ∧ crc16 f.body ≠ 0#8 ++ 0#8 := by decide +kernel

theorem witness_SlotsChooseAndAnswer :
    fullSlots.line.chosen = some 1 ∧ State.reset.line.chosen = none ∧ fullSlots.line.victim 0 = some 0 ∧ fullSlots.line.victim 3 = none ∧
      fullSlots.answerTo .status 1 = .coalesced ∧
      (withSlots running [{ waiting .status 1 0 with onLine := true }]).answerTo .status 1 = .coalesced ∧ fullSlots.answerTo .accept 0 = .queued 8 ∧
      (∃ i : Fin 8, running.line.slots[i] = none) ∧ running.answerTo .accept 0 = .queued 0 ∧
      (fullSlots.line.slots[(0 : Fin 8)] = some (waiting .status 0 0) ∧ (waiting .status 0 0).onLine = false ∧
        FrameKind.accept.cls < FrameKind.status.cls) ∧
      (withSlots running ((List.range 8).map (waiting .accept 0))).answerTo .bellCode 0 = .refused := by decide +kernel

/-- All slots full, with a frame of a kind in slot 3 and COMMITs in the others. -/
def evicting (k : FrameKind) : State :=
  withSlots ((withBell { lastOut := some { groups := [1], termination := .endGap, index := none, time := 0, seq := some 3 } }).modSect 0 fun x =>
      { x with pending := some ⟨500000, 3⟩, confirming := some 3 })
    ((List.range 8).map fun n => waiting (if n = 3 then k else .switchCommit) 0 n)

theorem witness_Eviction :
    ∀ k ∈ [FrameKind.status, .bellCode, .resetReq, .resetConfirm], let s := evicting k
      s.answerTo .accept 0 = .queued 8 ∧ (∀ i : Fin 8, s.line.slots[i] ≠ none) ∧ s.line.victim FrameKind.accept.cls = some 3 ∧
        s.line.slots[(3 : Fin 8)] = some (waiting k 0 3) ∧ NumberLaw s ∧ s.bells[(0 : EndNo)].lastOut.map (·.seq) = some (some 3) ∧
        s.sectOf 0 = some 0 ∧ s.sects[(0 : SectNo)].pending.map (·.seq) = some 3 ∧ s.sects[(0 : SectNo)].confirming = some 3 := by
  unfold NumberLaw
  decide +kernel

theorem witness_FrameStarts :
    ∀ k : FrameKind, let s := withSlots running [waiting k 0 0]
      s.quiet ∧ s.startable = some 0 ∧ s.line.slots[(0 : Fin 8)] = some (waiting k 0 0) := by
  intro k
  cases k <;> exact ⟨rfl, by decide +kernel⟩

/-- The sending of the frame in slot 0, with whether the station's own decoder has broken it off. -/
def onAir (broken : Bool) : Sending := { slot := 0, chars := [], refreshBefore := none, brokenOff := broken }

/-- The running part sending a frame. -/
def sending (broken : Bool) (f : Frame) : State := (withSlots running [{ f with onLine := true }]).modLine fun l =>
  { l with decoder := if broken then .noFrame else .receiving, sending := some (onAir broken) }

theorem witness_LostContentionKeepsTheFrame :
    ∀ (broken : Bool) (k : FrameKind), let s := sending broken (waiting k 0 0)
      s.quiet ∧ s.active = true ∧ (s.line.decoder = .receiving ↔ broken = false) ∧ s.line.sending = some (onAir broken) ∧
        (onAir broken).brokenOff = broken ∧ s.line.slots[(0 : Fin 8)] = some { waiting k 0 0 with onLine := true } := by
  intro broken k
  unfold State.quiet
  cases broken <;> cases k <;> decide +kernel

theorem witness_FailedAttempts :
    ∀ broken : Bool, ∀ n ∈ [0, 2, 3], let f : Frame := { waiting .tos 0 0 with attempts := n, onLine := true }
      let s := sending broken f
      s.quiet ∧ s.active = true ∧ (s.line.decoder = .receiving ↔ broken = false) ∧ s.line.sending = some (onAir broken) ∧
        (onAir broken).brokenOff = broken ∧ s.line.slots[(0 : Fin 8)] = some f ∧ f.renewed = false ∧ f.dest ≠ 0 ∧ f.kind ≠ .status ∧
        (none : Option Byte) ≠ some 0x96#8 ∧ (f.attempts < 3 ↔ n ≠ 3) ∧ NumberLaw s := by
  unfold State.quiet NumberLaw
  decide +kernel

/-- The fourth failure of a STATUS, with its end's link UP or LOST. -/
theorem witness_DroppedStatus :
    ∀ broken up : Bool, let f : Frame := { waiting .status 0 0 with attempts := 3, onLine := true }
      let s := (sending broken f).modLine fun l => { l with link := Vector.replicate 3 up }
      s.quiet ∧ s.active = true ∧ s.line.sending = some (onAir broken) ∧ s.line.slots[(0 : Fin 8)] = some f ∧ f.renewed = false ∧
        s.line.link[f.e] = up ∧ s.switching.agreement = none ∧ NumberLaw s := by
  unfold State.quiet NumberLaw
  decide +kernel

/-- A frame of an owner's, of number 3, in its fourth attempt or with 0x96 read: the end's, the bell's, the section's and the agreement's data are its. -/
def owned (k : FrameKind) : State :=
  let s := (evicting k).modLine fun l =>
    { l with
      slots := (Vector.replicate 8 none).set 0 (some { waiting k 0 3 with attempts := 3, onLine := true }), decoder := .receiving
      sending := some (onAir false) }
  (s.modBlock 0 fun b =>
    { b with state := .accepting, acceptUntil := some 500000, acceptSeq := some 3, outstanding := some ⟨.accept, 3⟩ }).modSwitching fun w =>
    { w with state := .proposingOut, agreement := some { direction := .out, until_ := 500000, commit1 := .queued 3, commit2 := .queued 4 } }

theorem witness_OwnersAreTold :
    ∀ k ∈ [FrameKind.accept, .withdraw, .cancel, .tos, .bellCode, .resetReq, .resetConfirm, .switchCommit], let s := owned k
      let f : Frame := { waiting k 0 3 with attempts := 3, onLine := true }
      s.quiet ∧ s.active = true ∧ s.line.sending = some (onAir false) ∧ s.line.slots[(onAir false).slot] = some f ∧ s.line.decoder = .receiving ∧
        f.renewed = false ∧ f.dest ≠ 0 ∧ s.blocks[f.e].outstanding.map (·.seq) = some f.seq ∧ s.blocks[f.e].state = .accepting ∧
        s.blocks[f.e].acceptSeq = some f.seq ∧ s.bells[f.e].lastOut.map (·.seq) = some (some f.seq) ∧ s.sectOf f.e = some 0 ∧
        s.sects[(0 : SectNo)].pending.map (·.seq) = some f.seq ∧ s.sects[(0 : SectNo)].confirming = some f.seq ∧
        (s.switching.agreement.map (·.commit1)) = some (.queued f.seq) := by
  unfold State.quiet
  decide +kernel

/-- R78, R77 and R170: what an undelivered RESET_REQ, RESET_CONFIRM and COMMIT append after FRAME_UNDELIVERED. -/
theorem test_owners_are_told :
    Runs .lineError (owned .resetReq) (fun t => (t.port.queue.map fun r => (r.kind, r.d1)) = [(.frameUndelivered, 1), (.countReset, 9)]) ∧
    Runs .lineError (owned .resetConfirm) (fun t => (t.port.queue.map fun r => (r.kind, r.new)).contains (.countReset, 2)) ∧
    Runs .lineError (owned .switchCommit) (fun t => (t.port.queue.map fun r => (r.kind, r.new, r.d2)).getLast? = some (.switching, 3, 4)) :=
  ⟨⟨_, rfl, by decide +kernel⟩, ⟨_, rfl, by decide +kernel⟩, _, rfl, by decide +kernel⟩

/-- R103: a dropped STATUS is not recorded while its end's link is LOST. -/
theorem test_dropped_status :
    Runs .lineError ((sending false { waiting .status 2 0 with attempts := 3 })) fun t =>
      t.line.slots[0] = none ∧ t.port.queue = [] ∧ t.line.lineErrors = 1 := ⟨_, rfl, by decide +kernel⟩

theorem witness_DeliveredFrameLeavesItsSlot :
    (∀ renewed : Bool, let f : Frame := { waiting .accept 0 0 with renewed := renewed, onLine := true }
      let s := (sending false f).modBlock 0 fun b =>
        { b with state := .accepting, acceptUntil := some 500000, acceptSeq := some 0, outstanding := some ⟨.accept, 0⟩ }
      s.quiet ∧ s.active = true ∧ s.line.sending = some (onAir false) ∧ s.line.slots[(0 : Fin 8)] = some f ∧
        (∀ e : EndNo, s.line.owed[e] = false) ∧ s.switching.agreement = none ∧
        s.blocks[f.e].outstanding.map (·.seq) = some f.seq ∧ s.blocks[f.e].state = .accepting ∧ s.blocks[f.e].acceptSeq = some f.seq) ∧
    (let f : Frame := { waiting .bellCode 0 0 with dest := 0, onLine := true };
      let s := sending true f;
      s.quiet ∧ s.active = true ∧ s.line.sending = some (onAir true) ∧ s.line.slots[(0 : Fin 8)] = some f ∧ f.dest = 0 ∧
        (∀ e : EndNo, s.line.owed[e] = false) ∧ s.switching.agreement = none) := by
  unfold State.quiet
  decide +kernel

/-- A delivered frame with the STATUS of ends 1 and 2 owed: one of end 1 waits in another slot, or none does. -/
theorem witness_OwedStatusIsQueued :
    ∀ l ∈ [[], [waiting .status 1 1]], let f : Frame := { waiting .accept 0 0 with onLine := true }
      let s := (withSlots running (f :: l)).modLine fun x =>
        { x with decoder := .receiving, sending := some (onAir false), owed := #v[false, true, true] }
      s.quiet ∧ s.active = true ∧ s.line.sending = some (onAir false) ∧ s.line.slots[(0 : Fin 8)] = some f ∧
        s.switching.agreement = none ∧ f.renewed = false ∧ s.line.owed[(1 : EndNo)] = true ∧
        (∀ e' : EndNo, e' < 1 → s.line.owed[e'] = false) := by
  unfold State.quiet
  decide +kernel

theorem rx_sound : judgeChars rx.chars = .sound rx := by decide +kernel

theorem witness_DecoderFollowsTheLine :
    (running.quiet ∧ running.active = true ∧ running.lineQuiet = true) ∧
    (let s := running.modLine fun l => { l with idleFrom := 480000 };
      s.quiet ∧ s.active = true ∧ s.line.decoder = .noFrame ∧ s.lineQuiet = false) ∧
    (let s := running.modLine fun l => { l with decoder := .receiving };
      s.quiet ∧ s.active = true ∧ s.line.decoder = .receiving ∧ s.line.sending = none) ∧
    (let s := sending false (waiting .tos 0 0);
      s.quiet ∧ s.active = true ∧ s.line.decoder = .receiving ∧ s.line.sending = some (onAir false)) ∧
    (let s := running.modLine fun l => { l with decoder := .sound rx, acknowledging := true, frameFrom := 480000 };
      s.quiet ∧ s.active = true ∧ s.line.sending = none ∧ s.line.decoder = .sound rx ∧ s.line.acknowledging = true ∧
        ∀ k, ({ s with now := 480000 + 10 * k }.now - s.line.frameFrom) / s.bitTime = k) ∧
    judgeChars (rx.chars.set 4 1#8) = .badCrc ∧ judgeChars ({ rx with cls := 0 } : RxFrame).chars = .malformed ∧
    judgeChars rx.chars = .sound rx :=
  ⟨⟨rfl, by decide +kernel⟩, ⟨rfl, by decide +kernel⟩, ⟨rfl, by decide +kernel⟩, ⟨rfl, by decide +kernel⟩,
    ⟨rfl, by decide +kernel, rfl, rfl, rfl, fun k => by
      show (480000 + 10 * k - 480000) / 10 = k
      rw [Nat.add_sub_cancel_left, Nat.mul_div_cancel_left _ (by decide)]⟩, by decide +kernel, by decide +kernel, rx_sound⟩

/-- The running part with a decoder phase. -/
def decoding (d : DecoderPhase) : State := running.modLine fun l => { l with decoder := d }

theorem witness_FrameIsTaken :
    (let s := decoding .discarded;
      s.quiet ∧ s.active = true ∧ s.line.sending = none ∧ s.line.decoder = .discarded) ∧
    (let s := decoding (.sound rx);
      s.quiet ∧ s.active = true ∧ s.line.sending = none ∧ s.line.decoder = .sound rx ∧ rx.sender ≠ s.cfg.identity) ∧
    (let s := decoding (.sound { rx with sender := 2 });
      s.quiet ∧ s.active = true ∧ s.line.sending = none ∧ ({ rx with sender := 2 } : RxFrame).sender = s.cfg.identity) :=
  ⟨⟨rfl, by decide +kernel⟩, ⟨rfl, by decide +kernel⟩, rfl, by decide +kernel⟩

/-- A STATUS of NORMAL from one box to another, in a pairing. -/
def heard (sender senderEnd dest : Nat) (long : Bool) : RxFrame :=
  { rx with sender := sender, senderEnd := senderEnd, dest := dest, payload := [0#8, if long then 16#8 else 0#8, 0#8, 0#8, 0#8, 0#8] }

/-- The running part with its controller in a state. -/
def controlled (st : SwitchState) : State := running.modSwitching fun w => { w with state := st, startWatch := true }

theorem witness_OverheardStatus :
    (let s := running.modBlock 0 fun b => { b with long := true };
      s.switching.hold = none ∧
        ∀ e : EndNo, (s.cfg.ends[e].configured = true ∧ s.blocks[e].long = true ∧ s.cfg.ends[e].altId = 3 ∧
          s.cfg.ends[e].altEnd = 0 ∧ s.cfg.ends[e].directId = 1) ↔ e = 0) ∧
    (∀ st, (controlled st).switching.state = st ∧ (controlled st).switching.startWatch = true ∧ (controlled st).switching.hold = none ∧
      (controlled st).cfg.switchable = true ∧ (controlled st).first = 0 ∧ (controlled st).second = 1) ∧
    (∀ long : Bool, (statusFields (heard 1 1 3 long).payload).long = long ∧ (statusFields (heard 1 1 3 long).payload).state ≠ 8) ∧
    box.ends[(0 : EndNo)].directId = 1 ∧ box.ends[(0 : EndNo)].directEnd = 1 ∧ box.ends[(1 : EndNo)].directId = 3 ∧
      box.ends[(1 : EndNo)].directEnd = 0 := by
  refine ⟨by decide +kernel, fun st => ?_, by decide +kernel, by decide +kernel⟩
  cases st <;> decide +kernel

theorem witness_TakenFrameBringsTheLinkUp :
    running.cfg.ends[(0 : EndNo)].configured = true ∧ running.peerId 0 = rx.sender ∧ running.peerId 1 ≠ rx.sender ∧
      running.mappedEnd rx = some 0 ∧ running.addressed rx = true ∧ running.mappedEnd { rx with senderEnd := 2 } = none ∧
      rx.dest = running.cfg.identity ∧ ({ rx with dest := 0 } : RxFrame).dest = 0 ∧
      ∀ e : EndNo, (running.cfg.ends[e].configured = true ∧ running.peerId e = rx.sender ∧ running.peerEnd e = rx.senderEnd) ↔ e = 0 := by
  decide +kernel

/-- The running part with frames in its slots at the end of the listening period, with every STATUS owed and every refresh timer expired. -/
def listening (l : List Frame) : State := (withSlots running l).modLine fun x =>
  { x with listenUntil := some 480000, owed := Vector.replicate 3 true, refresh := Vector.replicate 3 (some 480000) }

/-- The part at the end of the listening period, with its key found at OUT and the start watch set. -/
def keyFound (s : State) : State := s.modSwitching fun w => { w with proved := some .keyOut, startWatch := true }

/-- No slot is empty, one is, or seven are and the STATUS of end 0 stands in the eighth. -/
theorem witness_StatusIsRaisedOrOwed :
    (∀ l ∈ [(List.range 8).map (waiting .accept 1), (List.range 7).map (waiting .accept 1), [waiting .status 0 0]], let s := listening l
      s.quiet ∧ s.active = true ∧ expired s.now s.line.listenUntil = true ∧
        (∀ e : EndNo, expired s.now s.line.refresh[e] = true ∧ s.line.owed[e] = true) ∧
        (s.line.slots.toList.filter (·.isNone)).length = 8 - l.length) ∧
    ((listening [waiting .status 0 0]).line.slots[(0 : Fin 8)] = some (waiting .status 0 0) ∧
      ∀ (j : Fin 8), ∀ g ∈ (listening [waiting .status 0 0]).line.slots[j], j = 0) ∧
    (¬(listening []).switching.startWatch = true ∧
      (let s := keyFound (listening []);
        s.switching.startWatch = true ∧ s.switching.proved = some .keyOut ∧ s.switching.state = .inUse ∧ s.proposalConditions = none ∧
          (s.modSect 0 Sect.disturb).proposalConditions = some ⟨.count, .one 0 1⟩)) := by
  unfold State.quiet
  decide +kernel

theorem witness_SilentPeerLosesTheLink :
    ∀ l : Latch,
      let s := ((starter {} .clearOut .unused).modLine fun l => { l with heard := l.heard.set 1 ⟨some (480000 - secs 6), true⟩ }).modSect 0 fun x =>
        { x with latch := l, pending := some ⟨500000, 3⟩, held := some 500000, confirming := some 4 }
      s.quiet ∧ s.heardDue 1 = true ∧ s.cfg.ends[(0 : EndNo)].configured = true ∧ s.peerId 0 = 1 ∧ s.line.link[(0 : EndNo)] = true ∧
        s.blocks[(0 : EndNo)].release = .unused ∧ s.sectOf 0 = some 0 ∧ s.sects[(0 : SectNo)].pending ≠ none ∧
        s.sects[(0 : SectNo)].latch = l ∧ s.switching.state ≠ .proposingOut := fun l => ⟨rfl, by cases l <;> decide +kernel⟩

/-- R113 and R78: a link loss with a request pending appends LINK_LOST and COUNT_RESET with outcome 7, and the section is UNKNOWN. -/
theorem test_link_loss_ends_request :
    let s := (running.modLine fun l => { l with heard := l.heard.set 1 ⟨some (480000 - secs 6), true⟩ }).modSect 0 fun x =>
      { x with pending := some ⟨500000, 3⟩, held := some 500000 }
    Runs (.lastHeardExpiry 1) s fun t =>
      (t.port.queue.map fun r => (r.kind, r.old, r.new, r.d1)) =
        [(.linkLost, 1, 0, 1), (.countStateChanged, 0, 4, 0), (.countReset, 0, 4, 7)] ∧ t.sects[(0 : SectNo)].pending = none ∧
        t.sects[(0 : SectNo)].held = none := ⟨_, rfl, by decide +kernel⟩

/-! ### Witnesses: bells -/

theorem witness_StrikesBuildTheCode :
    (∀ p : Parser, let s := withBell { tapper := turned true, parser := p, groups := [1], firstStrike := 900, latestStrike := 950 }
      s.quiet ∧ s.tapperDue 0 true = true ∧ s.tapped 0 = true ∧ s.bells[(0 : EndNo)].parser = p) ∧
    (let s := withBell { tapper := turned true, parser := .collecting, groups := [20], latestStrike := 950 };
      s.quiet ∧ s.tapperDue 0 true = true ∧ s.tapped 0 = true ∧ s.bells[(0 : EndNo)].groups.sum = 20) ∧
    (let s := withBell { tapper := turned true, parser := .collecting, groups := [1, 1, 1, 1, 1], latestStrike := 940 };
      s.quiet ∧ s.tapperDue 0 true = true ∧ s.tapped 0 = true ∧ s.cfg.gGroupUnits ≤ unitsAt s.now - 940 ∧
        s.bells[(0 : EndNo)].groups.length = 5) ∧
    (let s := { withBell { tapper := turned true } with loader := {} };
      s.quiet ∧ s.tapperDue 0 true = true ∧ s.tapped 0 = false) :=
  ⟨fun p => ⟨rfl, by cases p <;> decide +kernel⟩, ⟨rfl, by decide +kernel⟩, ⟨rfl, by decide +kernel⟩, rfl, by decide +kernel⟩

theorem witness_CodesEnd :
    ∀ p : Parser,
      let b : Bell := { parser := p, groups := [3, 1], quiet := .running 480000, heldUntil := some 480000, codeUntil := some 480000 }
      let s := withBell b
      s.quiet ∧ s.switching.state ≠ .proposingOut ∧ s.active = true ∧ s.quietDue 0 = true ∧
        expired s.now s.bells[(0 : EndNo)].heldUntil = true ∧ expired s.now s.bells[(0 : EndNo)].codeUntil = true ∧
        s.bells[(0 : EndNo)].parser = p ∧ s.bells[(0 : EndNo)].beat = none :=
  fun p => ⟨rfl, by cases p <;> decide +kernel⟩

/-- R121 and R122: a code in progress at an end that becomes INACTIVE ends ABANDONED, with no CODE. -/
theorem test_abandoned_code :
    let s := withBell { parser := .collecting, groups := [3, 1], down := true, beat := some 60, heldUntil := some 500000, codeUntil := some 500000 }
    let t := s.orderState 0 .inactive
    (t.bells[(0 : EndNo)].parser, t.bells[(0 : EndNo)].quiet, t.bells[(0 : EndNo)].lastOut.map fun r => (r.groups, r.termination, r.notSent)) =
        (.idle, .expired, some ([3, 1], .abandoned, true)) ∧
      (t.line.slots.toList.filterMap id).map (·.kind) = [.status] ∧
      ((t.port.queue.filter fun r => r.kind = .codeSent).map fun r => [r.old, r.new, r.d1, r.d2, r.d3, r.d4]) = [[5, 255, 2, 4, 2, 255]] := by
  decide +kernel

/-- Codes of the classes that act at the sending end, and one that matches no entry, with their CODE queued or refused. -/
theorem witness_ObstructionsTapped :
    running.cfg.classOf (running.cfg.matchCode [6]) = some .obstruction ∧
    running.cfg.classOf (running.cfg.matchCode [2]) = some .obstructionRemoved ∧ running.cfg.classOf (running.cfg.matchCode [1, 1]) = none ∧
    ∀ g ∈ [[6], [2], [1, 1]], ∀ st ∈ [BlockState.normal, .obstructed, .inactive],
      let s := (withBell { parser := .collecting, groups := g, quiet := .running 480000 }).modBlock 0 fun b => { b with state := st }
      s.quiet ∧ s.switching.state ≠ .proposingOut ∧ s.active = true ∧ s.quietDue 0 = true ∧ s.bells[(0 : EndNo)].parser = .collecting ∧
        s.bells[(0 : EndNo)].beat = none ∧ s.blocks[(0 : EndNo)].state = st ∧ s.answerTo .bellCode 0 = .queued 0 ∧
        (withSlots s ((List.range 8).map (waiting .accept 1))).answerTo .bellCode 0 = .refused := by
  unfold State.quiet
  decide +kernel

/-- A strike held: its BEAT is queued, with its interval at either bound, or refused. -/
theorem witness_HeldStrike :
    ∀ p : Parser, ∀ iv ∈ [0, 255], let s := withBell { parser := p, groups := [3, 1], heldUntil := some 480000, beat := some iv }
      s.quiet ∧ s.switching.state ≠ .proposingOut ∧ s.active = true ∧ expired s.now s.bells[(0 : EndNo)].heldUntil = true ∧
        s.bells[(0 : EndNo)].beat = some iv ∧ s.answerTo .beat 0 = .queued 0 ∧
        (withSlots s ((List.range 8).map (waiting .accept 1))).answerTo .beat 0 = .refused := by
  intro p
  unfold State.quiet
  cases p <;> decide +kernel

theorem witness_BeatsAreSentAndPlayed :
    (∀ down : Bool, let s := withBell { tapper := turned false, down := down, beat := some 255 }
      s.quiet ∧ s.tapperDue 0 false = true ∧ s.tapped 0 = true ∧ s.bells[(0 : EndNo)].down = down ∧
        s.bells[(0 : EndNo)].beat = some 255 ∧ s.answerTo .beat 0 = .queued 0) ∧
    (let s := withBell { strikeUntil := some 480000, offer := some ⟨0, 0, 480000⟩ };
      s.quiet ∧ s.active = true ∧ expired s.now s.bells[(0 : EndNo)].strikeUntil = true ∧
        expired s.now (s.bells[(0 : EndNo)].offer.map (·.until_)) = true) ∧
    (∀ x ∈ [(⟨8, false, 1000⟩ : Beat), ⟨255, true, 1000⟩, ⟨8, false, 1001⟩],
      ∀ p ∈ [none, some (⟨480000 - units 8, 480000 - ms 40⟩ : Played), some ⟨480001 - units 8, 480000 - ms 40⟩,
        some ⟨480000 - units 8, 480001 - ms 40⟩],
        let s := withBell { playout := [x], lastPlayed := p }
        s.quiet ∧ s.active = true ∧ s.bells[(0 : EndNo)].playout = [x] ∧ s.bells[(0 : EndNo)].lastPlayed = p) ∧
    (let s := withSlots (withBell { tapper := turned false, down := true, beat := some 0 })
        ((List.range 8).map (waiting .accept 1));
      s.quiet ∧ s.tapperDue 0 false = true ∧ s.tapped 0 = true ∧ s.answerTo .beat 0 = .refused) :=
  ⟨fun d => ⟨rfl, by cases d <;> decide +kernel⟩, ⟨rfl, by decide +kernel⟩, by unfold State.quiet; decide +kernel, rfl, by decide +kernel⟩

theorem witness_BeatTaken :
    (starter {} .inactive .none).blocks[(0 : EndNo)].state = .inactive ∧ running.blocks[(0 : EndNo)].state ≠ .inactive ∧
      ∀ n ∈ [0, 15, 16], (withBell { playout := List.replicate n ⟨8, false, 0⟩ }).bells[(0 : EndNo)].playout.length = n := by
  decide +kernel

theorem witness_ReceivedCodeActs :
    (∀ k ∈ [(0, CodeClass.offer), (1, .cancelOffer), (2, .obstruction), (3, .obstructionRemoved)],
      running.cfg.classOf (some k.1) = some k.2) ∧
    (let f : RxFrame := { rx with cls := 2, kind := .bellCode, payload := [3#8, 1#8, 0#8, 0#8, 0#8, 9#8] };
      payloadGroups f.payload = some [3, 1] ∧ payloadTermination f.payload = some .endGap ∧
        running.cfg.recordIndex .endGap [3, 1] = some 0 ∧ running.blocks[(0 : EndNo)].state = .normal) ∧
    payloadGroups [0#8, 1#8, 0#8, 0#8, 0#8, 1#8] = none ∧ payloadGroups [20#8, 0#8, 0#8, 0#8, 0#8, 1#8] = some [20] ∧
    payloadGroups [16#8, 1#8, 1#8, 1#8, 1#8, 1#8] = some [16, 1, 1, 1, 1] ∧ payloadGroups [20#8, 1#8, 0#8, 0#8, 0#8, 1#8] = none ∧
    payloadTermination [6#8, 0#8, 0#8, 0#8, 0#8, 0#8] = none ∧ payloadTermination [6#8, 0#8, 0#8, 0#8, 0#8, 6#8] = none ∧
    payloadTermination [6#8, 0#8, 0#8, 0#8, 0#8, 5#8] = some .abandoned ∧ running.cfg.classOf (running.cfg.recordIndex .held [6]) = none := by
  decide +kernel

/-! ### Witnesses: block sections -/

theorem witness_EndLampsFollowTheRecord :
    State.reset.active = false ∧ running.active = true ∧ running.cfg.ends[(0 : EndNo)].configured = true ∧
      running.cfg.ends[(2 : EndNo)].configured = false := by decide

/-- The running part with the block switch of end 0 just moved to ACCEPT, and an offer held. -/
def accepting : State :=
  (withBell { offer := some ⟨0, 990, 500000⟩ }).modBlock 0 fun b => { b with switch := turned true }

/-- The running part with end 0 in a state, its instruments just moved and its timers at their ends. -/
def endIn (switch : Bool) (st : BlockState) (rel : Release) : State := running.modBlock 0 fun _ =>
  { switch := turned switch, tos := turned true, cancel := turned true, state := st, release := rel, acceptUntil := some 480000
    cancelUntil := some 480000, refusal := some ⟨.link, 480000⟩ }

/-- The acceptance's checks 1 to 7, each brought to fail with those before it held, and all held. -/
def acceptances : List State :=
  [accepting.modBlock 0 fun b => { b with state := .recovering }, accepting.modLine fun l => { l with link := Vector.replicate 3 false },
    { accepting with loader := { partState := .switchedOut, phase := .stopped } }, accepting.modSect 0 Sect.disturb,
    accepting.clearOffer 0, { accepting with cfg := { box with ends := box.ends.set 0 { configured := true, directId := 1, repetition := true } } },
    { accepting with cfg := { box with ends := box.ends.set 0 { configured := true, directId := 1, overlap := 1 } } }, accepting]

theorem witness_AcceptanceIsJudged :
    (∀ s ∈ acceptances, s.quiet ∧ s.instrumentDue 0 s.blocks[(0 : EndNo)].switch true = true ∧ s.active = true ∧
      s.cfg.ends[(0 : EndNo)].configured = true ∧ s.blocks[(0 : EndNo)].state ≠ .inactive) ∧
    (∀ s ∈ [endIn true .inactive .none, { accepting with loader := {} }],
      s.quiet ∧ s.instrumentDue 0 s.blocks[(0 : EndNo)].switch true = true ∧ (s.active = false ∨ s.blocks[(0 : EndNo)].state = .inactive)) ∧
    acceptances.map (·.acceptFailure 0) = [some .notNormal, some .link, some .part, some .count, some .noOffer, some .noRepeat,
      some .overlap, none] ∧
    accepting.answerTo .accept 0 = .queued 0 ∧
    (withSlots accepting ((List.range 8).map (waiting .accept 1))).answerTo .accept 0 = .refused := by
  unfold State.quiet
  decide +kernel

theorem witness_AcceptanceIsWithdrawn :
    (∀ st : BlockState, let s := endIn false st .none
      s.quiet ∧ s.active = true ∧ s.instrumentDue 0 s.blocks[(0 : EndNo)].switch false = true ∧
        expired s.now s.blocks[(0 : EndNo)].acceptUntil = true ∧ s.blocks[(0 : EndNo)].state = st ∧
        (s.instrumented 0 = true ↔ st ≠ .inactive) ∧ s.answerTo .withdraw 0 = .queued 0) ∧
    (withSlots (endIn false .clearIn .none) ((List.range 8).map (waiting .accept 1))).answerTo .withdraw 0 = .refused :=
  ⟨fun st => ⟨rfl, by cases st <;> decide +kernel⟩, by decide +kernel⟩

theorem witness_PlungersActByTheState :
    (∀ st : BlockState, let s := endIn true st .none
      s.quiet ∧ s.active = true ∧ s.instrumentDue 0 s.blocks[(0 : EndNo)].tos true = true ∧
        s.instrumentDue 0 s.blocks[(0 : EndNo)].cancel true = true ∧ expired s.now s.blocks[(0 : EndNo)].cancelUntil = true ∧
        expired s.now (s.blocks[(0 : EndNo)].refusal.map (·.until_)) = true ∧ s.blocks[(0 : EndNo)].state = st ∧
        (s.instrumented 0 = true ↔ st ≠ .inactive) ∧ s.endSectState 0 = .clear ∧ s.answerTo .tos 0 = .queued 0) ∧
    (∀ rel : Release, (endIn true .clearOut rel).blocks[(0 : EndNo)].release = rel) ∧
    ((endIn true .occupiedIn .none).modSect 0 Sect.disturb).endSectState 0 = .disturbed ∧
    (withSlots (endIn true .occupiedIn .none) ((List.range 8).map (waiting .accept 1))).answerTo .tos 0 = .refused ∧
    (let s := (running.modBlock 0 fun b => { b with tos := turned false, cancel := turned false }).modSect 0
        fun x => { x with key := turned false };
      s.quiet ∧ s.instrumentDue 0 s.blocks[(0 : EndNo)].tos false = true ∧
        s.instrumentDue 0 s.blocks[(0 : EndNo)].cancel false = true ∧ s.keyDue 0 false = true) :=
  ⟨fun st => ⟨rfl, by cases st <;> decide +kernel⟩, fun r => by cases r <;> decide, by decide +kernel, by decide +kernel, rfl,
    by decide +kernel⟩

/-- An ACCEPT, WITHDRAW, CANCEL or TOS of box 1's. -/
def ordered (k : FrameKind) : RxFrame := { rx with cls := 0, kind := k, payload := List.replicate k.length 0#8 }

theorem witness_DeliveredFramesMoveTheEnd :
    (∀ k : FrameKind, (ordered k).kind = k) ∧ (∀ st : BlockState, (starter {} st .none).blocks[(0 : EndNo)].state = st) ∧
    (∀ rel : Release, (starter {} .clearOut rel).blocks[(0 : EndNo)].release = rel) ∧
    (let s := starter { position := .normal } .normal .none;
      s.loader.partState = .running ∧ s.endSectState 0 = .clear ∧ s.starterOf 0 = some 2 ∧ s.levers[(2 : LeverNo)].position = .normal) ∧
    ((starter {} .normal .none).levers[(2 : LeverNo)].position ≠ .normal) ∧
    ((starter {} .normal .none).modSect 0 Sect.disturb).endSectState 0 ≠ .clear ∧
    (ordered .accept).sender < running.cfg.identity ∧ running.cfg.identity ≤ ({ ordered .accept with sender := 3 } : RxFrame).sender ∧
    (∀ st ∈ [BlockState.occupiedOut, .clearOut, .cancelling, .normal],
      ((starter {} st .none).takeNet 0 (netAt (ordered .tos).payload 0) false).blocks[(0 : EndNo)].state = st) := by
  refine ⟨fun k => by cases k <;> rfl, fun st => by cases st <;> decide +kernel, fun r => by cases r <;> decide +kernel, by decide +kernel⟩

theorem witness_PeerStatusActs :
    ∀ (st p : BlockState) (rel : Release),
      let s := starter {} st rel
      let f : StatusFields := { state := p.code, release := rel.code, long := false, mark := 0, sect := 0, net := 0 }
      BlockState.ofCode f.state = some p ∧ s.blocks[(0 : EndNo)].state = st ∧ s.blocks[(0 : EndNo)].release = rel ∧
        s.blocks[(0 : EndNo)].outstanding = none ∧ s.answerTo .cancel 0 = .queued 0 ∧ s.answerTo .withdraw 0 = .queued 0 := by
  intro st p rel
  refine ⟨by cases p <;> rfl, ?_⟩
  have h : ∀ (st : BlockState) (rel : Release), (starter {} st rel).line = running.line := fun _ _ => rfl
  have a : running.answerTo .cancel 0 = .queued 0 ∧ running.answerTo .withdraw 0 = .queued 0 := by decide +kernel
  refine ⟨rfl, rfl, rfl, ?_, ?_⟩ <;> simp only [State.answerTo, h] <;> simp only [State.answerTo] at a
  · exact a.1
  · exact a.2

/-- A compared pair that is not listed, by its states, by a release of none and above the table's, and by a state above it; the mark set or clear. -/
theorem witness_Mismatch :
    BlockState.ofCode 11 = none ∧
    ∀ mark : Bool, ∀ st ∈ [BlockState.normal, .clearIn, .clearOut, .cancelling, .occupiedIn, .occupiedOut],
      let s := (starter {} st .none).modBlock 0 fun b => { b with mismatch := mark }
      s.blocks[(0 : EndNo)].mismatch = mark ∧ s.blocks[(0 : EndNo)].state = st ∧ s.blocks[(0 : EndNo)].outstanding = none := by decide +kernel

/-- R157 and R161: end 0 in CLEAR_IN, its peer in ACCEPTING. -/
theorem test_mismatch_is_recorded :
    let f : StatusFields := { state := 1, release := 0, long := false, mark := 0, sect := 2, net := 0 }
    let t := (starter {} .clearIn .none).statusTaken 0 f
    t.blocks[(0 : EndNo)].mismatch = true ∧
      (t.port.queue.map fun r => (r.kind, r.subject, r.old, r.new, r.d2, r.d3)) = [(.stateMismatch, 0, 2, 1, 1, 2)] ∧
      (t.statusTaken 0 f).port.queue = t.port.queue := by decide +kernel

/-- R68 and R78: a change of pairing ends what is under way, and disturbs a section in RESET_PREP. -/
theorem test_pairing_change :
    let s := running.modSect 0 fun x => { x with latch := .resetPrep, pending := some ⟨500000, 3⟩, held := some 500000, confirming := some 4 }
    let t := s.orderPairing 0 true
    t.sects[(0 : SectNo)] = { latch := .disturbed, pairingCheck := true } ∧
      ((t.port.queue.filter fun r => r.kind = .countReset).map fun r => (r.old, r.new, r.d1, r.d2)) = [(3, 2, 8, 0)] := by decide +kernel

/-! ### Witnesses: switching out -/

/-- The running part with its key turned to a position, from a controller state. -/
def turning (k : KeyPosition) (st : SwitchState) (a : Option Agreement) : State :=
  running.modSwitching fun _ =>
    { keyIn := if k = .keyIn then turned true else {}, keyOut := if k = .keyOut then turned true else {}, state := st, agreement := a
      overheard1 := some ⟨0, true, 5, 979⟩, overheard2 := some ⟨0, true, 4091, 979⟩ }

theorem witness_KeyMovesTheController :
    (∀ k st, let s := turning k st none
      s.quiet ∧ s.active = true ∧ s.switchKeyDue = true ∧ s.cfg.switchable = true ∧ s.switching.state = st ∧ s.switching.proved ≠ some k ∧
        keyPosition (s.switching.keyIn.settle (ms 50) s.now).value (s.switching.keyOut.settle (ms 50) s.now).value = some k ∧
        s.checkLinks = none ∧ s.checkLongSection = none ∧ s.proposalConditions = none) ∧
    (let s := (turning .keyOut .inUse none).modLine fun l => { l with link := Vector.replicate 3 false };
      s.checkLinks = some ⟨.link, .both⟩ ∧ s.proposalConditions = some ⟨.link, .both⟩) ∧
    (let s := (turning .keyIn .out none).modSwitching fun w => { w with overheard1 := none };
      s.checkLinks = none ∧ s.checkLongSection ≠ none) :=
  ⟨fun k st => ⟨rfl, by cases k <;> cases st <;> decide +kernel⟩, by decide +kernel, by decide +kernel⟩

/-- The checks 1 to 6 of R165, each brought to fail with those before it held, at the first, the second or both designated ends. -/
def refusals : List State :=
  [starter {} .recovering .none, running.modBlock 1 fun b => { b with state := .recovering },
    running.modLine fun l => { l with link := Vector.replicate 3 false }, withBell { offer := some ⟨0, 990, 500000⟩ },
    running.modSect 3 Sect.disturb,
    { running with cfg := { box with ends := box.ends.set 2 { configured := true, directId := 7 } } }.modBlock 2
      fun b => { b with state := .obstructed },
    running.modEvaluator fun v => { v with altDecision := false }]

theorem witness_ProposalChecks :
    refusals.map (·.proposalConditions) =
      [some ⟨.notNormal, .one 0 1⟩, some ⟨.notNormal, .one 1 3⟩, some ⟨.link, .both⟩, some ⟨.offer, .one 0 1⟩, some ⟨.count, .one 1 3⟩,
        some ⟨.obstructed, .one 2 7⟩, some ⟨.alternative, .both⟩] ∧
    running.proposalConditions = none ∧
    [(some (0 : Nat), some (0 : Nat)), (none, some 0), (some 0, none), (none, none), (some 1, some 0)].map
        (fun x => (running.modSwitching fun w =>
          { w with overheard1 := x.1.map fun n => ⟨n, true, 5, 979⟩, overheard2 := x.2.map fun n => ⟨n, true, 4091, 979⟩ }).checkLongSection) =
      [none, some ⟨.longSection, .one 0 1⟩, some ⟨.longSection, .one 1 3⟩, some ⟨.longSection, .both⟩, some ⟨.longSection, .one 0 1⟩] ∧
    (running.modSwitching fun w =>
      { w with overheard1 := some ⟨0, true, 5, 400⟩, overheard2 := some ⟨0, true, 4091, 401⟩ }).checkLongSection =
      some ⟨.longSection, .one 0 1⟩ ∧
    (running.modSwitching fun w =>
      { w with overheard1 := some ⟨0, true, 5, 979⟩, overheard2 := some ⟨0, true, 5, 979⟩ }).checkLongSection =
      some ⟨.longSection, .both⟩ := by decide +kernel

/-- A proposal OUT with answers and marks. -/
def proposal (agreed1 agreed2 : Bool) (c1 c2 : CommitMark) : Agreement :=
  { direction := .out, until_ := 480000, agreed1 := agreed1, agreed2 := agreed2, commit1 := c1, commit2 := c2 }

/-- The part with a proposal standing. -/
def proposing (agreed1 agreed2 : Bool) : State :=
  turning .keyOut .proposingOut (some (proposal agreed1 agreed2 .notQueued .notQueued))

/-- An answer of a neighbour's: box 1 from its end 1, or box 3 from its end 0. -/
def answer (k : FrameKind) (sender senderEnd : Nat) : RxFrame :=
  { rx with cls := k.cls, kind := k, sender := sender, senderEnd := senderEnd, payload := [byte Direction.out.code, 4#8] }

/-- Frames that wait in `n` slots, for no neighbour of the part's. -/
def busySlots (n : Nat) (s : State) : State := withSlots s ((List.range n).map fun k => { waiting .switchAgree 1 k with dest := 5 })

/-- A proposal goes on to its PROPOSE frames with 2 slots empty, with 1 and with none. -/
theorem witness_Proposes :
    ∀ n ∈ [6, 7, 8], let u := busySlots n running
      let v := u.requestSwitch .switchPropose u.first (u.neighbourPayload .out)
      u.answerTo .switchPropose u.first = (if n = 8 then .refused else .queued n) ∧
        v.answerTo .switchPropose u.second = if n = 6 then .queued 7 else .refused := by decide +kernel

theorem witness_AnswersToAProposal :
    (∀ k ∈ [FrameKind.switchAgree, .switchRefuse], ∀ x ∈ [((1, 1), (0 : EndNo)), ((3, 0), 1)],
      (answer k x.1.1 x.1.2).kind = k ∧ (answer k x.1.1 x.1.2).dest = running.cfg.identity ∧
        running.matchedEnd x.1.1 x.1.2 = some x.2 ∧ ((answer k x.1.1 x.1.2).payload.getD 0 0#8).toNat = Direction.out.code) ∧
    running.switching.agreement = none ∧ running.first = 0 ∧ running.second = 1 ∧
    (∀ a b : Bool, let s := proposing a b
      s.quiet ∧ s.switching.agreement = some (proposal a b .notQueued .notQueued) ∧ s.cfg.switchable = true ∧ s.first ≠ s.second ∧
        ∀ e : EndNo, s.line.owed[e] = false) ∧
    (let s := proposing true true;
      s.waitsForNeighbour = false ∧ (withSlots s [waiting .tos 0 0]).waitsForNeighbour = true ∧
        (withSlots s [{ waiting .tos 1 0 with dest := 3 }]).waitsForNeighbour = true ∧ s.proposalConditions = none ∧
        (s.modSect 0 Sect.disturb).proposalConditions ≠ none ∧ s.answerTo .switchCommit 0 = .queued 0 ∧
        (busySlots 7 s).waitsForNeighbour = false ∧ (busySlots 7 s).answerTo .switchCommit 0 = .queued 7 ∧
        ((busySlots 7 s).requestSwitch .switchCommit 0 [1#8, 1#8, 1#8, 3#8, 0#8]).answerTo .switchCommit 1 = .refused ∧
        (s.requestSwitch .switchCommit 0 [1#8, 1#8, 1#8, 3#8, 0#8]).answerTo .switchCommit 1 = .queued 1 ∧
        (busySlots 8 s).answerTo .switchCommit 0 = .refused) := by
  unfold State.quiet
  decide +kernel

/-- A judgement in PROPOSING_OUT: at a designated end's change of state, at an end's change to OBSTRUCTED, and at a change of the alternative's decision,
the conditions failing and held; and the start watch with both designated ends out of RECOVERING and with one in it. -/
theorem witness_ConditionsAreJudged :
    (∀ a b : Bool, let s := proposing a b
      s.quiet ∧ s.switching.state = .proposingOut ∧ s.switching.agreement = some (proposal a b .notQueued .notQueued) ∧
        s.cfg.switchable = true ∧ s.first = 0 ∧ s.blocks[(0 : EndNo)].state ≠ .clearIn ∧
        (s.changeEnd 0 .clearIn .none .reconciled).standingConditions = some ⟨.notNormal, .one 0 1⟩ ∧
        s.blocks[(2 : EndNo)].state ≠ .obstructed ∧ (s.changeEnd 2 .obstructed .none .obstruction).standingConditions = none ∧
        ((s.modBlock 0 fun b => { b with state := .recovering }).changeEnd 0 .normal .none .recovered).standingConditions = none ∧
        (let u := s.evaluate fun v => { v with view := { v.view with position := v.view.position.set 1 .reverse } };
          u.evaluator.altDecision ≠ s.evaluator.altDecision ∧ u.standingConditions = some ⟨.alternative, .both⟩)) ∧
    (let s := (controlled .inUse).modBlock 0 fun b => { b with state := .recovering };
      s.quiet ∧ s.blocks[(0 : EndNo)].state ≠ .normal ∧ s.switching.startWatch = true ∧ s.blocks[s.second].state ≠ .recovering ∧
        (s.modBlock 1 fun b => { b with state := .recovering }).blocks[s.second].state = .recovering) := by
  unfold State.quiet
  decide +kernel

/-- R165 and R170: an OBSTRUCTION tapped at a designated end in PROPOSING_OUT abandons the proposal with cause CONDITIONS and reason NOT_NORMAL, and an
ABANDON goes to both neighbours that have agreed. -/
theorem test_conditions_abandon :
    let s := (proposing true true).modBell 0 fun _ => { parser := .collecting, groups := [6], quiet := .running 480000 }
    Runs (.quietTimerExpiry 0) s fun t =>
      t.switching.agreement = none ∧ t.switching.state = .inUse ∧
      ((t.line.slots.toList.filterMap id).filter fun f => f.kind = .switchAbandon).map (fun f => (f.e, f.dest)) = [(0, 1), (1, 3)] ∧
      (t.port.queue.getLast?.map fun r => (r.kind, r.new, r.d1, r.d2)) = some (.switching, 3, 1, 3) := ⟨_, rfl, by decide +kernel⟩

/-- A PROPOSE of box 1's, of a direction, that names box 2's end 0 and box 3's end 0. -/
def proposed (d : Direction) : RxFrame :=
  { rx with cls := FrameKind.switchPropose.cls, kind := .switchPropose, payload := [byte d.code, 2#8, 0#8, 3#8, 0#8] }

/-- The checks 1 to 7 of R166 on a PROPOSE of direction OUT, each brought to fail with those before it held, and all held. -/
def neighbours : List State :=
  [running.modSwitching fun w => { w with hold := some ⟨.out, 1, 0, 500000⟩ }, running.modBlock 0 fun b => { b with long := true },
    { running with cfg := { box with ends := box.ends.set 0 { configured := true, directId := 1, directEnd := 1, altId := 4 } } },
    starter {} .recovering .none, running.modLine fun l => { l with link := Vector.replicate 3 false }, running.modSect 0 Sect.disturb,
    withBell { offer := some ⟨0, 990, 500000⟩ }, running]

theorem witness_ProposalsAreJudged :
    (proposed .out).kind = .switchPropose ∧ (proposed .out).dest = box.identity ∧
    (∀ d : Direction, ((proposed d).payload.getD 0 0#8).toNat = d.code) ∧
    (∀ s ∈ neighbours, s.quiet ∧ s.matchedEnd 1 1 = some 0) ∧
    neighbours.map (fun s => s.proposeFailure 0 .out (proposed .out).payload) =
      [some .busy, some .long, some .alternate, some .notNormal, some .link, some .count, some .offer, none] ∧
    (let s := running.modBlock 0 fun b => { b with long := true }; s.proposeFailure 0 .into (proposed .into).payload = none) ∧
    running.proposeFailure 0 .into (proposed .into).payload = some .notLong ∧
    running.answerTo .switchAgree 0 = .queued 0 ∧ (busySlots 8 running).answerTo .switchAgree 0 = .refused := by
  refine ⟨rfl, rfl, fun d => by cases d <;> rfl, ?_⟩
  unfold State.quiet
  decide +kernel

theorem witness_CommitMarks :
    ∀ x ∈ [(CommitMark.queued 1, CommitMark.acknowledged), (.acknowledged, .queued 1), (.queued 1, .queued 2), (.queued 2, .queued 1)],
      let s := turning .keyOut .proposingOut (some (proposal true true x.1 x.2))
      s.quiet ∧ s.switching.agreement = some (proposal true true x.1 x.2) ∧ s.underReset = false ∧
        (s.blocks[s.first].state ≠ .inactive ∧ s.sectOf s.first = some 0) := by
  unfold State.quiet
  decide +kernel

theorem witness_AgreementsConclude :
    (let a : Agreement := { direction := .out, until_ := 480000, agreed1 := true };
      let s := turning .keyOut .proposingOut (some a);
      s.quiet ∧ s.active = true ∧ s.switching.agreement = some a ∧ a.until_ ≤ s.now ∧ s.answerTo .switchAbandon s.first = .queued 0) ∧
    (let h : Hold := { direction := .out, proposer := 1, e := 0, until_ := 480000 };
      let s := (starter {} .switching .none).modSwitching fun w => { w with hold := some h };
      s.quiet ∧ s.active = true ∧ s.switching.hold = some h ∧ h.until_ ≤ s.now ∧ s.blocks[h.e].state = .switching ∧
        s.matchedEnd 1 1 = some 0 ∧ ({ ordered .switchCommit with payload := [1#8] } : RxFrame).dest = s.cfg.identity ∧
        h.direction.code = 1) := ⟨⟨rfl, by decide +kernel⟩, rfl, by decide +kernel⟩

/-- A COMMIT(OUT) of box 1's: within its hold, with a hold of another's, of the other direction or of another end, and with none. -/
theorem witness_CommitTaken :
    (answer .switchCommit 1 1).kind = .switchCommit ∧ (answer .switchCommit 1 1).dest = box.identity ∧
      ((answer .switchCommit 1 1).payload.getD 0 0#8).toNat = Direction.out.code ∧
    ∀ h ∈ [none, some (⟨.out, 1, 0, 500000⟩ : Hold), some ⟨.out, 5, 0, 500000⟩, some ⟨.into, 1, 0, 500000⟩, some ⟨.out, 1, 1, 500000⟩],
      let s := (starter {} .switching .none).modSwitching fun w => { w with hold := h }
      s.quiet ∧ s.matchedEnd 1 1 = some 0 ∧ s.switching.hold = h := by
  unfold State.quiet
  decide +kernel

/-- R167 and R176: a COMMIT of another direction than the hold's is disregarded and recorded so; one of the hold's is recorded COMMITTED. -/
theorem test_commits_recorded :
    ∀ d : Direction, let s := (starter {} .switching .none).modSwitching fun w => { w with hold := some ⟨d, 1, 0, 500000⟩ }
      ((s.overhear (answer .switchCommit 1 1) true).port.queue.head?.map fun r => (r.kind, r.subject, r.old, r.new, r.d3, r.d4)) =
        some (.switching, 0, 1, if d = .out then 10 else 12, 1, 0) := by
  intro d
  cases d <;> decide +kernel

/-- An ABANDON(OUT) of box 1's: within its hold, at a LONG end with no hold or with one of end 1, and disregarded with a hold of another's or with the
end DIRECT. -/
theorem witness_AbandonTaken :
    (answer .switchAbandon 1 1).kind = .switchAbandon ∧ (answer .switchAbandon 1 1).dest = box.identity ∧
      ((answer .switchAbandon 1 1).payload.getD 0 0#8).toNat = Direction.out.code ∧
    (∀ p ∈ [1, 5], let h : Hold := { direction := .out, proposer := p, e := 0, until_ := 500000 }
      let s := (starter {} .switching .none).modSwitching fun w => { w with hold := some h }
      s.quiet ∧ s.matchedEnd 1 1 = some 0 ∧ s.switching.hold = some h ∧ (h.proposer = (answer .switchAbandon 1 1).sender ↔ p = 1)) ∧
    (∀ h ∈ [none, some (⟨.out, 3, 1, 500000⟩ : Hold)], ∀ long : Bool,
      let s := (running.modBlock 0 fun b => { b with long := long }).modSwitching fun w => { w with hold := h }
      s.quiet ∧ s.matchedEnd 1 1 = some 0 ∧ s.switching.hold = h ∧ (∀ x ∈ h, x.e ≠ 0) ∧ s.blocks[(0 : EndNo)].long = long) := by
  unfold State.quiet
  decide +kernel

/-! ### Witnesses: the maintenance port -/

/-- A queue of one overflow record, its TAKE about to remove it, with the moment of the last discard. -/
def removing (last : Option Time) : State :=
  (queued 0 .queueOverflow).modPort fun p => { p with transaction := .take (List.replicate 12 0#8) true, discardAt := last }

theorem witness_PortTransactions :
    running.underReset = false ∧ running.port.transaction = .idle ∧ running.port.condition = .empty ∧ running.port.queue = [] ∧
      (queued 0 .leverMoved).port.queue ≠ [] ∧ item running.port.store 1 = some [] ∧ item running.port.store 10 = some [] ∧
      (0#8 : Byte).toNat = 0 ∧ 4 < (5#8 : Byte).toNat ∧ 10 < (11#8 : Byte).toNat ∧
      (∀ last ∈ [some 480000, some 479999, none],
        (removing last).port.transaction = .take (List.replicate 12 0#8) true ∧ (removing last).port.queue.length = 1 ∧
          (removing last).port.discardAt = last ∧ (removing last).now = 480000) ∧
      (running.modPort fun p => { p with transaction := .status 1 }).port.transaction = .status 1 ∧
      (running.modPort fun p => { p with transaction := .reply [1#8] }).port.transaction = .reply [1#8] ∧
      (let s := running.modPort fun p => { p with condition := .busy 480000 p.store, transaction := .take [] true };
        s.port.condition = .busy 480000 running.port.store ∧ s.port.transaction = .take [] true ∧ 480000 ≤ s.now) := by decide +kernel

/-- Section 5.8: before the image is validated every detection section shows the values of R90: not configured, no names, OCCUPIED, held
OCCUPIED, clear and DISTURBED, DARK and off; and the flasher's half as 0. -/
theorem test_detection_area_at_reset :
    State.reset.detectionArea = (List.replicate 16 [0#8, 0#8, 0#8, 0#8, 0#8, 0#8, 2#8, 0#8, 0#8]).flatten ++ [0#8] := by decide +kernel

/-- R89: in a running part a value is 255 where no component is named. DS1 of the tests names TC2 alone. -/
theorem test_detection_codes : running.heldCodes (box.detections[(0 : DetNo)]) = [0, 0, 255] := by decide +kernel

/-- R191: in STARTING a debounced contact is shown at its reset value, whatever it has moved to, and in RUNNING it is shown as it is. -/
theorem test_contacts_shown_open :
    let c : Contact := { raw := true, value := true }
    let s : State := { withBell { tapper := c } with levers := running.levers.set 0 { n := c, r := c } }
    let t : State := { s with loader := {} }
    ([t.bellArea.head?, s.bellArea.head?], t.leverArea.take 2, s.leverArea.take 2) =
      ([some 0#8, some 1#8], [0#8, 0#8], [1#8, 1#8]) := by decide +kernel

/-- R191, R192 and section 1.9: the levers area opens with the part time, 1000, and lever 1 stands NORMAL with its time of last normal 0. -/
theorem test_levers_area :
    (running.capture[0]).take 15 = [0#8, 0#8, 3#8, 232#8, 1#8, 0#8, 1#8, 0#8, 0#8, 0#8, 0#8, 0#8, 0#8, 0#8, 0#8] := by decide +kernel

/-- R189 and R190: data out in the first places of a STATUS transaction of a running part, and once select is deasserted. -/
theorem test_data_out :
    let s := running.modPort fun p => { p with transaction := .status 0 }
    ([0, 1, 2, 8].map (s.dataOut .asserted 1), s.dataOut .deasserted 1 1) =
      ([.driven 0#8, .driven 1#8, .driven 0#8, .driven 0#8], .released) := by decide +kernel

/-- R192: the start index of a READ is two bytes, the high byte first. -/
theorem test_read_operands : portCommand [3#8, 10#8, 1#8, 2#8] = some (.readCommand 10#8 258#16) := by decide

end Sys2Proof.Tests
end

section
/-! PROOFS. The lever locks (R9 to R13): what each part of an event does to the lock outputs and to LOCK_FAULT, and the two statements that
hold of every command because of it, O9 and O56. -/

namespace Sys2Proof.Machine

/-! ### The lock law, lever by lever -/

/-- One lever's lock output is as R9 to R13 give it. -/
def LockLawful (s : State) (i : LeverNo) : Prop := s.levers[i].output = lockOutput s.isRunning (s.spare i) s.levers[i]

@[simp] theorem lockOutput_notRunning (spare : Bool) (l : Lever) : lockOutput false spare l = false := rfl

@[simp] theorem lockOutput_spare (running : Bool) (l : Lever) : lockOutput running true l = false := by simp [lockOutput]

theorem lockOutput_lockFault (running spare : Bool) {l : Lever} (h : l.lockFault = true) : lockOutput running spare l = false := by
  simp [lockOutput, h]

/-- A lever whose output has been set again has the output that the rest of its data give (R9). -/
theorem drive_output (running active spare : Bool) (now : Time) (l : Lever) :
    (l.drive running active spare now).output = lockOutput running spare (l.drive running active spare now) := rfl

@[simp] theorem drive_lockFault (running active spare : Bool) (now : Time) (l : Lever) :
    (l.drive running active spare now).lockFault = l.lockFault := rfl

/-! ### What a part of an event does to the locks -/

/-- From `s` to `t` lawful lock outputs stay lawful and a LOCK_FAULT stays (R9 to R13). -/
structure CarriesLocks (s t : State) : Prop where
  law : LockLaw s → LockLaw t
  fault : ∀ i : LeverNo, s.levers[i].lockFault = true → t.levers[i].lockFault = true

theorem CarriesLocks.refl (s : State) : CarriesLocks s s := ⟨id, fun _ => id⟩

theorem CarriesLocks.trans {s t u : State} (h : CarriesLocks s t) (h' : CarriesLocks t u) : CarriesLocks s u :=
  ⟨h'.law ∘ h.law, fun i => h'.fault i ∘ h.fault i⟩

/-- The locks look at nothing but reset, the part state, the image and the levers. -/
theorem carriesLocks_of_eq {s t : State} (hu : t.underReset = s.underReset) (hp : t.loader.partState = s.loader.partState)
    (hc : t.cfg = s.cfg) (hl : t.levers = s.levers) : CarriesLocks s t where
  law h i := by
    have hr : t.isRunning = s.isRunning := by simp only [State.isRunning, hu, hp]
    have hs : t.spare i = s.spare i := by simp only [State.spare, hc]
    rw [hr, hs, hl]
    exact h i
  fault i h := by rwa [hl]

theorem carriesLocks_of_base {s t : State} (h : t.base = s.base) : CarriesLocks s t := by
  obtain ⟨-, hu, hl, hc, hv, -⟩ := State.base_eq h
  exact carriesLocks_of_eq hu (congrArg _ hl) hc hv

theorem CarriesLocks.then {s t u : State} (h : CarriesLocks s t) (h' : u.base = t.base) : CarriesLocks s u :=
  h.trans (carriesLocks_of_base h')

theorem CarriesLocks.after {s t u : State} (h : CarriesLocks t u) (h' : t.base = s.base) : CarriesLocks s u :=
  (carriesLocks_of_base h').trans h

theorem foldl_carriesLocks {α : Type} (l : List α) (f : State → α → State) (h : ∀ s a, CarriesLocks s (f s a)) (s : State) :
    CarriesLocks s (l.foldl f s) := by
  induction l generalizing s with
  | nil => exact .refl s
  | cons a l ih => exact (h s a).trans (ih _)

/-- A change of one lever that keeps its LOCK_FAULT, and its output lawful where it was. -/
theorem modLever_carriesLocks (s : State) (i : LeverNo) {f : Lever → Lever}
    (law : s.levers[i].output = lockOutput s.isRunning (s.spare i) s.levers[i] →
      (f s.levers[i]).output = lockOutput s.isRunning (s.spare i) (f s.levers[i]))
    (fault : s.levers[i].lockFault = true → (f s.levers[i]).lockFault = true) : CarriesLocks s (s.modLever i f) := by
  constructor
  · intro h j
    show (upd s.levers i f)[j].output = lockOutput s.isRunning (s.spare j) (upd s.levers i f)[j]
    by_cases e : i = j
    · subst e
      rw [upd_self]
      exact law (h i)
    · rw [upd_ne _ _ e]
      exact h j
  · intro j h
    show (upd s.levers i f)[j].lockFault = true
    by_cases e : i = j
    · subst e
      rw [upd_self]
      exact fault h
    · rwa [upd_ne _ _ e]

/-- A lever that is changed and whose output is then set again is changed once. -/
theorem modLever_driveLever (s : State) (i : LeverNo) (f : Lever → Lever) :
    (s.modLever i f).driveLever i = s.modLever i fun l => (f l).drive s.isRunning s.active (s.spare i) s.now := by
  simp only [State.driveLever, State.modLever, upd, Vector.set_set, Fin.getElem_fin, Vector.getElem_set_self]
  rfl

/-- A lever that is changed and whose output is then set again: the law holds whatever the change was. -/
theorem modLever_driveLever_carriesLocks (s : State) (i : LeverNo) {f : Lever → Lever}
    (fault : (f s.levers[i]).lockFault = s.levers[i].lockFault) : CarriesLocks s ((s.modLever i f).driveLever i) := by
  rw [modLever_driveLever]
  exact modLever_carriesLocks s i (fun _ => drive_output ..) (fun h => by rw [drive_lockFault, fault, h])

/-! ### The part state (R9 to R11, R179) -/

theorem driveAll_lever (s : State) (i : LeverNo) :
    s.driveAll.levers[i] =
      { s.levers[i] with hold := s.isRunning && s.levers[i].hold }.drive s.isRunning s.active (s.spare i) s.now := by
  simp [State.driveAll]

theorem driveAll_lockLaw (s : State) : LockLaw s.driveAll := by
  intro i
  have hr : s.driveAll.isRunning = s.isRunning := by simp only [State.isRunning, State.driveAll]; rfl
  have hs : s.driveAll.spare i = s.spare i := by simp only [State.spare, State.driveAll]; rfl
  rw [hr, hs, driveAll_lever]
  exact drive_output _ _ _ _ _

theorem setPartState_carriesLocks (s : State) (p : PartState) : CarriesLocks s (s.setPartState p) where
  law _ := driveAll_lockLaw _
  fault i h := by
    rw [State.setPartState, driveAll_lever, drive_lockFault]
    exact h

theorem setPartState_base_congr {s t : State} (h : t.base = s.base) (p : PartState) :
    (t.setPartState p).base = (s.setPartState p).base := by
  obtain ⟨hn, hu, hl, hc, hv, ht, hh, hp⟩ := State.base_eq h
  simp only [State.base, State.setPartState, State.driveAll, State.modLoader, State.isRunning, State.active, State.spare, hn, hu, hl,
    hc, hv, ht, hh, hp]
  rfl

/-- To the locks the entry into OUT is the change of the part state alone (R169). -/
theorem enterOut_base (s : State) (o : SwitchOutcome) (k : Concern) :
    (s.enterOut o k).base = (s.setPartState .switchedOut).base := by
  simp only [State.enterOut, rePairBoth_base, orderBoth_base]
  exact setPartState_base_congr (by simp) _

/-- To the locks the return to IN is the change of the part state alone (R173). -/
theorem returnIn_base (s : State) (o : SwitchOutcome) (k : Concern) :
    (s.returnIn o k).base = (s.setPartState .running).base :=
  setPartState_base_congr (by simp) _

theorem enterOut_carriesLocks (s : State) (o : SwitchOutcome) (k : Concern) : CarriesLocks s (s.enterOut o k) :=
  (setPartState_carriesLocks s .switchedOut).then (enterOut_base s o k)

theorem returnIn_carriesLocks (s : State) (o : SwitchOutcome) (k : Concern) : CarriesLocks s (s.returnIn o k) :=
  (setPartState_carriesLocks s .running).then (returnIn_base s o k)

theorem completeCommit_carriesLocks (s : State) (d : Direction) : CarriesLocks s (s.completeCommit d) := by
  cases d
  · exact enterOut_carriesLocks ..
  · exact returnIn_carriesLocks ..

theorem commitDelivered_carriesLocks (s : State) (n : Nat) : CarriesLocks s (s.commitDelivered n) := by
  have mark (f : Switching → Switching) : CarriesLocks s (s.modSwitching f) := carriesLocks_of_base rfl
  unfold State.commitDelivered
  dsimp only
  split
  · split
    · split
      · exact (mark _).trans (completeCommit_carriesLocks ..)
      · exact mark _
    · exact mark _
  · exact .refl s

theorem overhearOut_carriesLocks (s : State) (f : RxFrame) (delivered : Bool) : CarriesLocks s (s.overhearOut f delivered) := by
  unfold State.overhearOut
  split
  · split
    · exact returnIn_carriesLocks ..
    · exact carriesLocks_of_base (by simp)
  · exact carriesLocks_of_base (by simp)

theorem overhearAtStart_carriesLocks (s : State) (f : RxFrame) : CarriesLocks s (s.overhearAtStart f) := by
  unfold State.overhearAtStart
  split
  · split
    · exact enterOut_carriesLocks ..
    · split
      · exact enterOut_carriesLocks ..
      · exact .refl s
  · exact .refl s

theorem statusOverheard_carriesLocks (s : State) (f : RxFrame) (delivered : Bool) :
    CarriesLocks s (s.statusOverheard f delivered) := by
  have h : CarriesLocks s (s.revertFarDirect f) := carriesLocks_of_base (by simp)
  unfold State.statusOverheard
  dsimp only
  split
  · split
    · exact h.trans (overhearAtStart_carriesLocks ..)
    · exact h
    · exact h.trans (overhearOut_carriesLocks ..)
    · exact h.then (by simp)
  · exact h

theorem overhear_carriesLocks (s : State) (f : RxFrame) (delivered : Bool) : CarriesLocks s (s.overhear f delivered) := by
  unfold State.overhear
  split
  · exact statusOverheard_carriesLocks ..
  · exact carriesLocks_of_base (by simp)

/-! ### Frames sent and taken (R103, R104) -/

theorem reportDelivered_carriesLocks (s : State) (f : Frame) : CarriesLocks s (s.reportDelivered f) := by
  unfold State.reportDelivered
  split
  case h_6 => exact commitDelivered_carriesLocks ..
  all_goals exact carriesLocks_of_base (by simp)

theorem deliverAttempt_carriesLocks (s : State) (i : Fin 8) (f : Frame) : CarriesLocks s (s.deliverAttempt i f) := by
  have reported (g : Line → Line) : CarriesLocks s ((s.modLine g).reportDelivered f) :=
    (reportDelivered_carriesLocks _ f).after (modLine_base s g)
  unfold State.deliverAttempt
  split
  · exact reported _
  · exact (reported (·.clearSlot i)).then (by simp)

theorem attemptEnd_carriesLocks (s : State) (slot : Option Byte) : CarriesLocks s (s.attemptEnd slot) := by
  unfold State.attemptEnd
  split
  · split
    · dsimp only
      split
      · exact (deliverAttempt_carriesLocks _ _ _).after (modLine_base s _)
      · exact carriesLocks_of_base (by simp)
    · exact .refl s
  · exact .refl s

@[simp] theorem deliverMapped_base (s : State) (f : RxFrame) : (s.deliverMapped f).1.base = s.base := by
  unfold State.deliverMapped
  split
  · split <;> simp
  · rfl

theorem take_carriesLocks (s : State) (f : RxFrame) : CarriesLocks s (s.take f) :=
  .trans (t := ((s.modLine fun l => { l with framesTaken := countUp l.framesTaken }).hear f |>.deliverMapped f).1)
    (carriesLocks_of_base (by simp)) (overhear_carriesLocks ..)

theorem frameTaking_carriesLocks (s : State) : CarriesLocks s s.frameTaking := by
  have ended : CarriesLocks s (s.modLine fun l => l.endFrame s.now) := carriesLocks_of_base rfl
  unfold State.frameTaking
  split
  · split
    · dsimp only
      split
      · exact ended.then (by simp)
      · exact ended.trans (take_carriesLocks _ _)
    · exact ended
    · exact .refl s
    · exact .refl s
  · exact .refl s

/-! ### Rails and wheels, which move no lever -/

@[simp] theorem recordInterference_base (s : State) (c : ChannelNo) (old : Channel) : (s.recordInterference c old).base = s.base := by
  unfold State.recordInterference
  dsimp only
  split <;> simp

@[simp] theorem recordMargin_base (s : State) (c : ChannelNo) (old : Channel) : (s.recordMargin c old).base = s.base := by
  unfold State.recordMargin
  dsimp only
  split <;> simp

theorem changeChannel_carriesLocks (s : State) (c : ChannelNo) (f : Channel → Channel) : CarriesLocks s (s.changeChannel c f) := by
  have h : CarriesLocks s (s.modTrack fun t => { t with channels := upd t.channels c f }) := carriesLocks_of_eq rfl rfl rfl rfl
  unfold State.changeChannel
  dsimp only
  split
  · exact h.then (by simp)
  · exact h.then (by simp)

theorem sampleChannel_carriesLocks (s : State) (number : Nat) (c : ChannelNo) : CarriesLocks s (s.sampleChannel number c) := by
  unfold State.sampleChannel
  dsimp only
  split
  · exact .refl s
  · split
    · exact changeChannel_carriesLocks ..
    · split
      · exact changeChannel_carriesLocks ..
      · exact .refl s

theorem halfPeriodBoundary_carriesLocks (s : State) (sense : Vector Sense 12) : CarriesLocks s (s.halfPeriodBoundary sense) := by
  have track (u : State) (f : Track → Track) : CarriesLocks u (u.modTrack f) := carriesLocks_of_eq rfl rfl rfl rfl
  unfold State.halfPeriodBoundary
  split
  · rename_i t _
    have samples := foldl_carriesLocks (List.finRange 12) (State.sampleChannel t.number)
      (fun u c => sampleChannel_carriesLocks u t.number c) (s.takeSense sense)
    exact (((track s _).trans samples).trans (track _ _)).trans (track _ _)
  · exact .refl s

theorem takeStep_carriesLocks (s : State) (h : HeadNo) (old new : Pattern) : CarriesLocks s (s.takeStep h old new) := by
  have head : CarriesLocks s (s.modHead h (Head.step old new)) := carriesLocks_of_eq rfl rfl rfl rfl
  unfold State.takeStep
  dsimp only
  split
  · exact head
  · exact head.then (by simp)
  · exact head.then (by simp [State.headErrorRecord])
  · exact head.then (by simp)

theorem headStep_carriesLocks (s : State) (h : HeadNo) : CarriesLocks s (s.headStep h) := by
  have contacts (f : Head → Head) : CarriesLocks s (s.modHead h f) := carriesLocks_of_eq rfl rfl rfl rfl
  unfold State.headStep
  dsimp only
  split
  · split
    · exact (contacts _).trans (takeStep_carriesLocks ..)
    · exact contacts _
  · exact .refl s

/-! ### The scanner's own events (Chapter 1) -/

theorem readbackChange_carriesLocks (s : State) (i : LeverNo) (made : Bool) : CarriesLocks s (s.readbackChange i made) :=
  modLever_carriesLocks s i id id

theorem readbackMismatchExpiry_carriesLocks (s : State) (i : LeverNo) : CarriesLocks s (s.readbackMismatchExpiry i) := by
  unfold State.readbackMismatchExpiry
  split
  · exact (modLever_carriesLocks _ i (fun _ => (lockOutput_lockFault _ _ rfl).symm) fun _ => rfl).after (by simp)
  · exact .refl s

theorem lockDecisionArrival_carriesLocks (s : State) (i : LeverNo) (k : EntryKind) : CarriesLocks s (s.lockDecisionArrival i k) := by
  unfold State.lockDecisionArrival
  split
  · exact (modLever_driveLever_carriesLocks _ i (by cases k <;> rfl)).after (by simp)
  · exact .refl s

@[simp] theorem leverRecord_base (s : State) (i : LeverNo) (old : Position) (length : Nat) :
    (s.leverRecord i old length).base = s.base := by
  unfold State.leverRecord
  dsimp only
  split <;> simp

@[simp] theorem starterReport_base (s : State) (i : LeverNo) (old : Position) : (s.starterReport i old).base = s.base := by
  unfold State.starterReport
  (repeat' split) <;> simp

theorem changePosition_carriesLocks (s : State) (i : LeverNo) (p : Position) (cause : FaultCause) :
    CarriesLocks s (s.changePosition i p cause) :=
  (modLever_driveLever_carriesLocks s i (f := Lever.take s.now p cause) rfl).then (by simp [State.changePosition])

theorem transitLimitExpiry_carriesLocks (s : State) (i : LeverNo) : CarriesLocks s (s.transitLimitExpiry i) := by
  unfold State.transitLimitExpiry
  split
  · exact changePosition_carriesLocks ..
  · exact .refl s

theorem takeWithdrawal_carriesLocks (s : State) (i : LeverNo) : CarriesLocks s (s.takeWithdrawal i) := by
  unfold State.takeWithdrawal
  split
  · exact foldl_carriesLocks _ _ (fun u _ => lockDecisionArrival_carriesLocks u i _) s
  · exact .refl s

theorem provingContactChange_carriesLocks (s : State) (i : LeverNo) : CarriesLocks s (s.provingContactChange i) := by
  have meet (u : State) (p : Position) : CarriesLocks u (u.meetPosition i p) := by
    unfold State.meetPosition
    dsimp only
    split
    · exact .refl u
    · split
      · exact .refl u
      · exact (takeWithdrawal_carriesLocks u i).trans (changePosition_carriesLocks ..)
  have contacts : CarriesLocks s (s.settleContacts i) := modLever_carriesLocks s i id id
  unfold State.provingContactChange
  split
  · dsimp only
    split
    · exact contacts.trans (meet _ _)
    · exact contacts
  · exact .refl s

/-! ### The loader (R178 to R186) -/

theorem isRunning_of_reading {s : State} (h : s.reading = true) : s.isRunning = false := by
  simp only [State.reading, Bool.and_eq_true, decide_eq_true_eq] at h
  simp [State.isRunning, h.2]

theorem outputs_off {s : State} (hr : s.isRunning = false) (h : LockLaw s) (i : LeverNo) : s.levers[i].output = false := by
  rw [h i, hr, lockOutput_notRunning]

/-- A change that moves no lever and after which, as before it, the part is not RUNNING. -/
theorem carriesLocks_of_notRunning {s t : State} (hs : s.isRunning = false) (ht : t.isRunning = false) (hl : t.levers = s.levers) :
    CarriesLocks s t where
  law h i := by rw [hl, outputs_off hs h i, ht, lockOutput_notRunning]
  fault i h := by rwa [hl]

theorem configFault_carriesLocks {s : State} (h : s.isRunning = false) (f : Failure) : CarriesLocks s (s.configFault f) :=
  carriesLocks_of_notRunning h (by simp [State.isRunning, State.configFault]) rfl

theorem endOfReset_carriesLocks (s : State) : CarriesLocks s s.endOfReset := by
  unfold State.endOfReset
  split
  · exact carriesLocks_of_notRunning (by simp_all [State.isRunning]) (by simp [State.isRunning]) rfl
  · exact .refl s

theorem readAttemptFailed_carriesLocks (s : State) : CarriesLocks s s.readAttemptFailed := by
  unfold State.readAttemptFailed
  split
  · rename_i h
    dsimp only
    split
    · exact carriesLocks_of_eq rfl rfl rfl rfl
    · exact carriesLocks_of_notRunning (isRunning_of_reading h.1) (by simp [State.isRunning, State.configFault]) rfl
  · exact .refl s

theorem readRetryExpiry_carriesLocks (s : State) : CarriesLocks s s.readRetryExpiry := by
  unfold State.readRetryExpiry
  split
  · exact carriesLocks_of_eq rfl rfl rfl rfl
  · exact .refl s

theorem headerReadComplete_carriesLocks (s : State) (header : List Byte) : CarriesLocks s (s.headerReadComplete header) := by
  unfold State.headerReadComplete
  split
  · rename_i h
    split
    · exact configFault_carriesLocks (isRunning_of_reading h.1) _
    · exact carriesLocks_of_eq rfl rfl rfl rfl
  · exact .refl s

/-! ### The entry into RUNNING (R8, R186) -/

/-- A lever's first position changes that lever alone; one whose output was off has its lawful output afterwards (R8, R9). -/
theorem firstPosition_lever (s : State) (i : LeverNo) : ∃ f : Lever → Lever,
    (s.firstPosition i).base = (s.modLever i f).base ∧ (f s.levers[i]).lockFault = s.levers[i].lockFault ∧
      (s.levers[i].output = false → (f s.levers[i]).output = lockOutput s.isRunning (s.spare i) (f s.levers[i])) := by
  unfold State.firstPosition
  by_cases hs : s.spare i = true
  · refine ⟨_, congrArg State.base (if_pos hs), rfl, fun h => ?_⟩
    rw [hs, lockOutput_spare]
    exact h
  · let p := derive s.levers[i].n.value s.levers[i].r.value
    refine ⟨fun l => (l.take s.now p .bothMade).drive s.isRunning s.active (s.spare i) s.now, ?_, rfl, fun _ => drive_output ..⟩
    simp only [if_neg hs, modLever_driveLever]
    split
    · exact leverRecord_base ..
    · rfl

/-- The first positions of some levers leave a LOCK_FAULT, and give every one of those levers whose outputs were off its lawful output. -/
theorem foldl_firstPosition (l : List LeverNo) (hl : l.Nodup) (s : State) :
    let t := l.foldl State.firstPosition s
    (∀ i : LeverNo, s.levers[i].lockFault = true → t.levers[i].lockFault = true) ∧
      ((∀ i ∈ l, s.levers[i].output = false) → (∀ i, i ∉ l → LockLawful s i) → LockLaw t) := by
  induction l generalizing s with
  | nil => exact ⟨fun _ => id, fun _ h i => h i (by simp)⟩
  | cons i l ih =>
    obtain ⟨hi, hl⟩ := List.nodup_cons.mp hl
    obtain ⟨f, hb, hf, ho⟩ := firstPosition_lever s i
    obtain ⟨-, hu, hp, hc, hv, -⟩ := State.base_eq hb
    have hr : (s.firstPosition i).isRunning = s.isRunning := by simp [State.isRunning, hu, hp]
    have hs (j : LeverNo) : (s.firstPosition i).spare j = s.spare j := by simp [State.spare, hc]
    have self : (s.firstPosition i).levers[i] = f s.levers[i] := by simp [hv]
    have other (j : LeverNo) (h : i ≠ j) : (s.firstPosition i).levers[j] = s.levers[j] := by simp [hv, Fin.val_ne_of_ne h]
    obtain ⟨fault, law⟩ := ih hl (s.firstPosition i)
    refine ⟨fun j h => fault j ?_, fun off lawful => law (fun j hj => ?_) fun j hj => ?_⟩
    · by_cases e : i = j
      · subst e
        rw [self, hf, h]
      · rw [other j e, h]
    · rw [other j (fun e => hi (e ▸ hj))]
      exact off j (List.mem_cons_of_mem i hj)
    · unfold LockLawful
      rw [hr, hs]
      by_cases e : i = j
      · subst e
        rw [self]
        exact ho (off i List.mem_cons_self)
      · rw [other j e]
        exact lawful j (by simp [hj, Ne.symm e])

@[simp] theorem partStarted_base (s : State) : s.partStarted.base = s.base := append_base ..

/-- The scanner's first positions give every output that was off its lawful value (R8, R9, R186). -/
theorem startScanner_carriesLocks {s : State} (h : s.isRunning = false) (g : Image) :
    CarriesLocks s (s.handImage g).partStarted.startScanner := by
  obtain ⟨-, -, -, -, hv, -⟩ := State.base_eq (partStarted_base (s.handImage g))
  have levers (i : LeverNo) : (s.handImage g).partStarted.levers[i] = s.levers[i] := by
    simp only [hv]
    rfl
  obtain ⟨fault, law⟩ := foldl_firstPosition (List.finRange 32) (List.nodup_finRange 32) (s.handImage g).partStarted
  refine ⟨fun hl => law (fun i _ => ?_) (fun i hi => absurd (List.mem_finRange i) hi), fun i hi => fault i ?_⟩
  · rw [levers]
    exact outputs_off h hl i
  · rwa [levers]

@[simp] theorem startEvaluator_base (s : State) : s.startEvaluator.base = s.base := evaluate_base ..

@[simp] theorem startCombiner_base (s : State) : s.startCombiner.base = s.base := modCombiner_base ..

@[simp] theorem startLine_base (s : State) : s.startLine.base = s.base := modLine_base ..

@[simp] theorem startBells_base (s : State) : s.startBells.base = s.base := rfl

@[simp] theorem startBlocks_base (s : State) : s.startBlocks.base = s.base := rfl

@[simp] theorem startSwitching_base (s : State) : s.startSwitching.base = s.base := by
  unfold State.startSwitching
  split <;> simp

theorem enterRunning_carriesLocks {s : State} (h : s.isRunning = false) (g : Image) : CarriesLocks s (s.enterRunning g) := by
  have track (u : State) : CarriesLocks u u.startTrack := carriesLocks_of_eq rfl rfl rfl rfl
  have heads (u : State) : CarriesLocks u u.startHeads := carriesLocks_of_eq rfl rfl rfl rfl
  have scanner := (startScanner_carriesLocks h g).then (startEvaluator_base _)
  exact ((scanner.trans (track _)).trans (heads _)).then (by simp [State.enterRunning])

theorem takeImage_carriesLocks {s : State} (h : s.isRunning = false) (bytes : List Byte) : CarriesLocks s (s.takeImage bytes) := by
  have held (f : Loader → Loader) (hf : (f s.loader).partState = s.loader.partState) :
      CarriesLocks s (s.modLoader f) ∧ (s.modLoader f).isRunning = false :=
    ⟨carriesLocks_of_eq rfl hf rfl rfl, by rw [← h]; simp [State.isRunning, hf]⟩
  unfold State.takeImage
  dsimp only
  split
  · exact (held _ rfl).1.trans (configFault_carriesLocks (held _ rfl).2 _)
  · exact (held _ rfl).1.trans (enterRunning_carriesLocks (held _ rfl).2 _)

theorem imageReadComplete_carriesLocks (s : State) (rest : List Byte) : CarriesLocks s (s.imageReadComplete rest) := by
  unfold State.imageReadComplete
  split
  · split
    · rename_i h
      exact takeImage_carriesLocks (isRunning_of_reading h.1) _
    · exact .refl s
  · exact .refl s

/-! ### Raw changes and the maintenance port -/

theorem rawInputChange_carriesLocks (s : State) (x : FieldInput) (level : Bool) : CarriesLocks s (s.rawInputChange x level) := by
  cases x with
  | lever i c => cases c <;> exact modLever_carriesLocks s i id id
  | sensor h x => exact carriesLocks_of_eq rfl rfl rfl rfl
  | resetKey c => exact carriesLocks_of_base rfl
  | tapper e => exact carriesLocks_of_base rfl
  | blockSwitch e => exact carriesLocks_of_base rfl
  | tosPlunger e => exact carriesLocks_of_base rfl
  | cancelPlunger e => exact carriesLocks_of_base rfl
  | keyIn => exact carriesLocks_of_base rfl
  | keyOut => exact carriesLocks_of_base rfl

@[simp] theorem oweStatus_base (s : State) (error : Nat) : (s.oweStatus error).base = s.base := rfl

@[simp] theorem reply_base (s : State) (bytes : List Byte) : (s.reply bytes).base = s.base := rfl

@[simp] theorem statusCommand_base (s : State) : s.statusCommand.base = s.base := by
  unfold State.statusCommand
  split <;> simp

@[simp] theorem snapshotCommand_base (s : State) : s.snapshotCommand.base = s.base := by
  unfold State.snapshotCommand State.snapshot
  split
  · split <;> simp
  · rfl

@[simp] theorem readCommand_base (s : State) (area : Byte) (start : BitVec 16) : (s.readCommand area start).base = s.base := by
  unfold State.readCommand
  split <;> simp

@[simp] theorem takeCommand_base (s : State) : s.takeCommand.base = s.base := by
  unfold State.takeCommand
  split
  · split <;> simp
  · rfl

@[simp] theorem unknownCommand_base (s : State) (code : Byte) : (s.unknownCommand code).base = s.base := by
  unfold State.unknownCommand
  split <;> simp

@[simp] theorem snapshotCompletion_base (s : State) : s.snapshotCompletion.base = s.base := by
  unfold State.snapshotCompletion
  split <;> simp

@[simp] theorem takeRecordRemoved_base (s : State) : s.takeRecordRemoved.base = s.base := by
  unfold State.takeRecordRemoved
  split <;> simp

@[simp] theorem selectDeasserted_base (s : State) : s.selectDeasserted.base = s.base := rfl

/-! ### Every command, and every step -/

/-- Whatever command is taken but RESET_ASSERTED, lawful lock outputs stay lawful and a LOCK_FAULT stays (R9 to R13). -/
theorem exec_carriesLocks {c : Instr} {s t : State} (hc : c ≠ .resetAsserted) (h : exec c s = .next t) : CarriesLocks s t := by
  have closed {u : State} (h : CarriesLocks s u) : CarriesLocks s u.settle := h.then (settle_base u)
  cases c
  case resetAsserted => exact absurd rfl hc
  case endOfReset => cases h; exact endOfReset_carriesLocks s
  case readAttemptFailed => cases h; exact readAttemptFailed_carriesLocks s
  case readRetryExpiry => cases h; exact readRetryExpiry_carriesLocks s
  case headerReadComplete => cases h; exact headerReadComplete_carriesLocks s _
  case imageReadComplete => cases h; exact closed (imageReadComplete_carriesLocks s _)
  case rawInputChange => cases h; exact rawInputChange_carriesLocks s _ _
  case provingContactChange => cases h; exact closed (provingContactChange_carriesLocks s _)
  case transitLimitExpiry => cases h; exact closed (transitLimitExpiry_carriesLocks s _)
  case readbackChange => cases h; exact closed (readbackChange_carriesLocks s _ _)
  case readbackMismatchExpiry => cases h; exact closed (readbackMismatchExpiry_carriesLocks s _)
  case lockDecisionArrival => cases h; exact closed (lockDecisionArrival_carriesLocks s _ _)
  case halfPeriodBoundary => cases h; exact closed (halfPeriodBoundary_carriesLocks s _)
  case minOccupiedExpiry =>
    cases h
    refine closed ?_
    unfold State.minOccupiedExpiry
    split
    · exact changeChannel_carriesLocks ..
    · exact .refl s
  case headStep => cases h; exact closed (headStep_carriesLocks s _)
  case attemptEnd => cases h; exact closed (attemptEnd_carriesLocks s _)
  case frameTaking => cases h; exact closed (frameTaking_carriesLocks s)
  all_goals
    cases h
    exact carriesLocks_of_base (by simp)

theorem lockLaw_resetAsserted (s : State) : LockLaw s.resetAsserted := fun i => by
  simp [State.resetAsserted, State.isRunning, Lever.reset]

theorem exec_lockLaw {c : Instr} {s t : State} (hs : LockLaw s) (h : exec c s = .next t) : LockLaw t := by
  by_cases hc : c = .resetAsserted
  · subst hc
    cases h
    exact lockLaw_resetAsserted s
  · exact (exec_carriesLocks hc h).law hs

theorem tick_carriesLocks (s : State) : CarriesLocks s s.tick := by
  unfold State.tick
  split
  · exact .refl s
  · rw [formReply_eq]
    exact carriesLocks_of_eq rfl rfl rfl rfl

/-- Settles O9: every command keeps the law, as RESET_ASSERTED leaves every output off, and so does a quantum of time. -/
theorem lockLawKeptByStep : Obligations.LockLawKeptByStep := by
  intro s t hs h
  unfold step at h
  split at h
  · rename_i c rest _
    exact exec_lockLaw (s := { s with pending := rest }) hs h
  · unfold stepIdle at h
    split at h
    · exact exec_lockLaw hs h
    · cases h
      exact (tick_carriesLocks s).law hs

theorem faultPin_of_lockFault {s : State} {i : LeverNo} (h : s.levers[i].lockFault = true) : s.faultPin = true := by
  simp only [State.faultPin, Bool.or_eq_true, List.any_eq_true]
  exact .inr ⟨s.levers[i], by simp, h⟩

/-- Settles O56: no command but RESET_ASSERTED clears a LOCK_FAULT, and any LOCK_FAULT asserts the FAULT pin. -/
theorem lockFaultStandsUntilReset : Obligations.LockFaultStandsUntilReset := by
  intro c s t i hc hi h
  have ht := (exec_carriesLocks hc h).fault i hi
  exact ⟨ht, faultPin_of_lockFault ht⟩

end Sys2Proof.Machine
end

section
/-! PROOFS. Events that have not come about (O3), raw changes at the field inputs (O8), readback supervision (O13), the arrival of a decision
(O14), and the state after reset (O60). -/

namespace Sys2Proof.Machine

/-! ### Events that have not come about (log entry 3) -/

/-- A row whose event has not come about, of which a state between events keeps nothing. -/
theorem next_of_notDue {s u : State} {due : Bool} (hq : s.quiet) (h : due = false) :
    (.next (if due then u else s).settle : Host.Outcome State Fault Refusal) = .next s := by
  rw [h, if_neg Bool.false_ne_true, settle_quiet hq]

/-- A row that acts only while the part is active, at a timer's end. -/
theorem next_of_notExpired {s u : State} {due : Bool} (hq : s.quiet) (h : due = false) :
    (.next (if s.active && due then u else s).settle : Host.Outcome State Fault Refusal) = .next s :=
  next_of_notDue hq (by rw [h, Bool.and_false])

/-- Settles O3: row by row, the guard of the row's meaning is the event's having come about. -/
theorem nothingHappensBeforeItsMoment : Obligations.NothingHappensBeforeItsMoment := by
  intro s hq
  have closed {u : State} (h : u = s) : (.next u.settle : Host.Outcome State Fault Refusal) = .next s := by
    rw [h, settle_quiet hq]
  refine ⟨fun h => ?retry, fun i h => next_of_notDue hq h, fun i h => next_of_notDue hq h, fun i h => next_of_notDue hq h,
    fun i k h => closed ?decision, fun k h => next_of_notDue hq h, fun v h => closed ?boundary, fun c h => next_of_notDue hq h,
    fun c h => next_of_notDue hq h, fun c h => next_of_notDue hq h, fun c h => next_of_notDue hq h, fun c h => next_of_notDue hq h,
    fun h => next_of_notDue hq h, fun h => closed ?start, fun e h => next_of_notExpired hq h, fun id h => next_of_notDue hq h,
    fun h => next_of_notExpired hq h, fun e h => next_of_notDue hq h, fun e h => next_of_notDue hq h, fun e h => next_of_notDue hq h,
    fun e h => next_of_notExpired hq h, fun e h => next_of_notExpired hq h, fun e h => next_of_notDue hq h,
    fun e h => next_of_notExpired hq h, fun e h => next_of_notExpired hq h, fun e h => next_of_notDue hq h,
    fun e h => next_of_notDue hq h, fun e h => next_of_notDue hq h, fun e h => next_of_notDue hq h, fun e h => next_of_notDue hq h,
    fun e h => next_of_notDue hq h, fun c h => next_of_notDue hq h, fun e h => next_of_notExpired hq h,
    fun e h => next_of_notExpired hq h, fun e h => next_of_notExpired hq h, fun h => next_of_notDue hq h,
    fun h => next_of_notExpired hq h, fun h => closed ?hold, fun h => ?capture⟩
  case retry => exact congrArg _ (if_neg (by simp [h]))
  case decision => simp [State.lockDecisionArrival, h]
  case boundary => simp [State.halfPeriodBoundary, h]
  case start => simp [State.frameStart, h]
  case hold =>
    unfold State.holdTimerExpiry
    split
    · rename_i x hx
      rw [hx] at h
      exact if_neg (by simp_all [expired])
    · rfl
  case capture =>
    show Host.Outcome.next s.snapshotCompletion = .next s
    simp [State.snapshotCompletion, h]

/-! ### Raw changes (R1, R59, R71, R118, R137, R163) -/

/-- An updated vector stands to the one before, item by item, in any reflexive relation in which the update stands to what it changes. -/
theorem upd_rel {α : Type} {n : Nat} {R : α → α → Prop} (refl : ∀ a, R a a) {f : α → α} (hf : ∀ a, R a (f a)) (v : Vector α n)
    (i j : Fin n) : R v[j] (upd v i f)[j] := by
  by_cases h : i = j
  · subst h
    rw [upd_self]
    exact hf _
  · rw [upd_ne _ _ h]
    exact refl _

/-- The contact behind the input takes the raw level. -/
theorem rawInputChange_self (s : State) (x : FieldInput) (level : Bool) :
    (s.rawInputChange x level).inputContact x = (s.inputContact x).takeRaw s.now level := by
  cases x with
  | lever i c => cases c <;> simp [State.rawInputChange, State.inputContact, Lever.takeRaw]
  | sensor h x => cases x <;> simp [State.rawInputChange, State.inputContact, Head.takeRaw]
  | keyIn => rfl
  | keyOut => rfl
  | _ => simp [State.rawInputChange, State.inputContact]

/-- Another input keeps its contact, be it the other contact of the same object. -/
theorem rawInputChange_other (s : State) {x y : FieldInput} (level : Bool) (h : y ≠ x) :
    (s.rawInputChange x level).inputContact y = s.inputContact y := by
  have block {α : Type} (p : BlockEnd → α) {f : BlockEnd → BlockEnd} (hf : ∀ b, p (f b) = p b) (e j : EndNo) :
      p (upd s.blocks e f)[j] = p s.blocks[j] := upd_rel (R := fun a b => p b = p a) (fun _ => rfl) hf s.blocks e j
  cases x with
  | lever i c =>
    cases y with
    | lever j d =>
      by_cases e : i = j
      · subst e
        cases c <;> cases d <;> simp_all [State.rawInputChange, State.inputContact, Lever.takeRaw]
      · cases d <;> simp [State.rawInputChange, State.inputContact, Fin.val_ne_of_ne e]
    | sensor j d => cases d <;> rfl
    | _ => rfl
  | sensor i c =>
    cases y with
    | sensor j d =>
      by_cases e : i = j
      · subst e
        cases c <;> cases d <;> simp_all [State.rawInputChange, State.inputContact, Head.takeRaw]
      · cases d <;> simp [State.rawInputChange, State.inputContact, Fin.val_ne_of_ne e]
    | lever j d => cases d <;> rfl
    | _ => rfl
  | resetKey c =>
    cases y with
    | resetKey j => exact congrArg Sect.key (upd_ne _ _ fun e => h (congrArg _ e.symm))
    | lever j d | sensor j d => cases d <;> rfl
    | _ => rfl
  | tapper e =>
    cases y with
    | tapper j => exact congrArg Bell.tapper (upd_ne _ _ fun e => h (congrArg _ e.symm))
    | lever j d | sensor j d => cases d <;> rfl
    | _ => rfl
  | blockSwitch e =>
    cases y with
    | blockSwitch j => exact congrArg BlockEnd.switch (upd_ne _ _ fun e => h (congrArg _ e.symm))
    | tosPlunger j => exact block (·.tos) (by exact fun _ => rfl) e j
    | cancelPlunger j => exact block (·.cancel) (by exact fun _ => rfl) e j
    | lever j d | sensor j d => cases d <;> rfl
    | _ => rfl
  | tosPlunger e =>
    cases y with
    | tosPlunger j => exact congrArg BlockEnd.tos (upd_ne _ _ fun e => h (congrArg _ e.symm))
    | blockSwitch j => exact block (·.switch) (by exact fun _ => rfl) e j
    | cancelPlunger j => exact block (·.cancel) (by exact fun _ => rfl) e j
    | lever j d | sensor j d => cases d <;> rfl
    | _ => rfl
  | cancelPlunger e =>
    cases y with
    | cancelPlunger j => exact congrArg BlockEnd.cancel (upd_ne _ _ fun e => h (congrArg _ e.symm))
    | blockSwitch j => exact block (·.switch) (by exact fun _ => rfl) e j
    | tosPlunger j => exact block (·.tos) (by exact fun _ => rfl) e j
    | lever j d | sensor j d => cases d <;> rfl
    | _ => rfl
  | keyIn =>
    cases y with
    | keyIn => exact absurd rfl h
    | lever j d | sensor j d => cases d <;> rfl
    | _ => rfl
  | keyOut =>
    cases y with
    | keyOut => exact absurd rfl h
    | lever j d | sensor j d => cases d <;> rfl
    | _ => rfl

theorem rawInputChange_sameButContacts (s : State) (x : FieldInput) (level : Bool) :
    SameButContacts s (s.rawInputChange x level) := by
  cases x with
  | lever i c =>
    refine ⟨rfl, fun j => ?_, fun _ => rfl, fun _ => rfl, fun _ => rfl, fun _ => rfl, rfl⟩
    exact upd_rel (R := fun a b => b = { a with n := b.n, r := b.r }) (f := Lever.takeRaw s.now c level) (fun _ => rfl)
      (fun _ => by cases c <;> rfl) s.levers i j
  | sensor h x =>
    refine ⟨rfl, fun _ => rfl, fun j => ?_, fun _ => rfl, fun _ => rfl, fun _ => rfl, rfl⟩
    exact upd_rel (R := fun a b => b = { a with a := b.a, b := b.b }) (f := Head.takeRaw s.now x level) (fun _ => rfl)
      (fun _ => by cases x <;> rfl) s.heads h j
  | resetKey c =>
    refine ⟨rfl, fun _ => rfl, fun _ => rfl, fun j => ?_, fun _ => rfl, fun _ => rfl, rfl⟩
    refine upd_rel (R := fun a b => b = { a with key := b.key }) (fun _ => rfl) ?_ s.sects c j
    exact fun _ => rfl
  | tapper e =>
    refine ⟨rfl, fun _ => rfl, fun _ => rfl, fun _ => rfl, fun j => ?_, fun _ => rfl, rfl⟩
    refine upd_rel (R := fun a b => b = { a with tapper := b.tapper }) (fun _ => rfl) ?_ s.bells e j
    exact fun _ => rfl
  | blockSwitch e | tosPlunger e | cancelPlunger e =>
    refine ⟨rfl, fun _ => rfl, fun _ => rfl, fun _ => rfl, fun _ => rfl, fun j => ?_, rfl⟩
    refine upd_rel (R := fun a b => b = { a with switch := b.switch, tos := b.tos, cancel := b.cancel }) (fun _ => rfl) ?_
      s.blocks e j
    exact fun _ => rfl
  | keyIn | keyOut => exact ⟨rfl, fun _ => rfl, fun _ => rfl, fun _ => rfl, fun _ => rfl, fun _ => rfl, rfl⟩

/-- Settles O8. -/
theorem rawChangeRestartsTheCount : Obligations.RawChangeRestartsTheCount := fun s x level =>
  ⟨_, rfl, rawInputChange_self s x level, fun _ h => rawInputChange_other s level h, rawInputChange_sameButContacts s x level⟩

/-! ### Readback supervision (R12, R13) -/

/-- The mismatch timer runs while a supervised lever's output and readback disagree (R12). -/
theorem watch_mismatchFrom (s : State) (i : LeverNo) (l : Lever) :
    (l.watch (s.active && !s.spare i) s.now).mismatchFrom =
      if s.active = true ∧ s.spare i = false ∧ l.lockFault = false ∧ l.output ≠ l.readback then some (l.mismatchFrom.getD s.now)
      else none := by
  simp only [Lever.watch]
  congr 1
  simp [and_assoc]

theorem faultPin_takeLockFault (s : State) (i : LeverNo) : (s.modLever i Lever.takeLockFault).faultPin = true :=
  faultPin_of_lockFault (i := i) (by simp [Lever.takeLockFault])

/-- Settles O13. -/
theorem readbackIsSupervised : Obligations.ReadbackIsSupervised := by
  intro s i hq
  refine ⟨fun made => ?_, fun h => ?_⟩
  · show Host.Outcome.next (s.readbackChange i made).settle = _
    rw [settle_quiet (by exact hq)]
    congr 1
    unfold State.readbackChange
    congr 1
    funext l
    exact congrArg (fun m => { l with readback := made, mismatchFrom := m }) (watch_mismatchFrom s i { l with readback := made })
  · have closed : (s.readbackMismatchExpiry i).settle = s.readbackMismatchExpiry i := settle_quiet (by
      rw [State.readbackMismatchExpiry, if_pos h]
      exact hq)
    refine ⟨_, rfl, ?_⟩
    rw [closed, State.readbackMismatchExpiry, if_pos h]
    exact ⟨rfl, faultPin_takeLockFault _ i⟩

/-! ### Decisions that arrive (R9, R14) -/

theorem onTheWay_of_nextHanded {v : Evaluator} {i : LeverNo} {k : EntryKind} {h : Handed} (hn : v.nextHanded i k = some h) :
    ∃ l, v.onTheWay i k = h :: l := by
  rw [nextHanded_eq] at hn
  exact List.head?_eq_some_iff.mp hn

/-- Settles O14. -/
theorem decisionArrivesAtTheScanner : Obligations.DecisionArrivesAtTheScanner := by
  intro s i k h hq hn
  obtain ⟨l, hl⟩ := onTheWay_of_nextHanded hn
  have hs : (s.lockDecisionArrival i k).settle = s.lockDecisionArrival i k := settle_quiet (by
    rw [lockDecisionArrival_some hl]
    exact hq)
  refine ⟨_, rfl, ?_⟩
  rw [hs, lockDecisionArrival_some hl]
  refine ⟨rfl, rfl, fun j hj => upd_ne _ _ hj.symm, ?_, ?_⟩
  · show (upd _ _ _)[i] = _
    rw [upd_self]
    cases k <;> rfl
  · show Lever.mismatchFrom (upd _ _ _)[i] = if _ ∧ _ ∧ _ ∧ Lever.output (upd _ _ _)[i] ≠ _ then _ else _
    rw [upd_self]
    cases k
    · exact watch_mismatchFrom s i { s.levers[i].keep .fromNormal h.holds with output := _ }
    · exact watch_mismatchFrom s i { s.levers[i].keep .fromReverse h.holds with output := _ }

/-! ### The state after reset (R178) -/

theorem lockLaw_reset : LockLaw State.reset := fun i => by simp [State.reset, State.isRunning]

theorem copiesLaw_reset : CopiesLaw State.reset := by
  refine ⟨?_, ?_, ?_, ?_, ?_, ?_, ?_⟩ <;> simp [State.reset, State.sectState, sectState, State.active, PartState.active]

theorem decisionLaw_reset : DecisionLaw State.reset := by
  refine ⟨fun i => ?_, ?_, fun _ => rfl⟩
  · simp [State.decisionAgrees, State.reset, Evaluator.lastHanded, Evaluator.onTheWay, Evaluator.decision, Lever.kept]
  · simp [State.reset, State.active, PartState.active]

theorem channelLaw_reset : ChannelLaw State.reset := fun c => by simp [State.reset, ChannelOk]

/-- No slot holds a frame after reset (R115). -/
theorem slots_reset (i : Fin 8) : State.reset.line.slots[i] = none := by simp [State.reset]

theorem slotLaw_reset : SlotLaw State.reset := fun i j _ => by simp only [slots_reset]; rfl

theorem numberLaw_reset : NumberLaw State.reset := fun i f hf => by cases (slots_reset i).symm.trans hf

theorem releaseLaw_reset : ReleaseLaw State.reset := fun e => by simp [State.reset]

theorem offerLaw_reset : OfferLaw State.reset := fun e => by simp [State.reset]

theorem endTimerLaw_reset : EndTimerLaw State.reset := fun e => by simp [State.reset]

theorem controllerLaw_reset : ControllerLaw State.reset :=
  ⟨.inl rfl, by simp [State.reset, SwitchState.isOut], fun _ => rfl, rfl⟩

theorem switchedOutLaw_reset : SwitchedOutLaw State.reset := fun h => by cases h

theorem queueLaw_reset : QueueLaw State.reset := ⟨.inl (by simp [State.reset]), by simp [State.reset], fun b h => by cases h⟩

/-- Settles O60. -/
theorem resetMeetsEveryLaw : Obligations.ResetMeetsEveryLaw :=
  ⟨lockLaw_reset, copiesLaw_reset, decisionLaw_reset, channelLaw_reset, slotLaw_reset, releaseLaw_reset, offerLaw_reset,
    endTimerLaw_reset, controllerLaw_reset, switchedOutLaw_reset, queueLaw_reset, numberLaw_reset⟩

end Sys2Proof.Machine
end

section
/-! PROOFS. The locking table (R18 to R24): over copies that agree with their owners, the evaluator's terms, alternatives and entries are those of
the blocks themselves, and so are its decisions and the locks they energise (O18). -/

namespace Sys2Proof.Machine

/-! ### Items by number -/

theorem item_eq_some {α : Type} {n : Nat} {v : Vector α n} {k : Nat} {x : α} :
    item v k = some x ↔ ∃ i : Fin n, k = i.val + 1 ∧ v[i] = x := by
  unfold item
  split
  · rename_i h
    refine ⟨fun e => ⟨⟨k - 1, by omega⟩, by simp; omega, by simpa using e⟩, fun ⟨i, hk, e⟩ => ?_⟩
    subst hk
    simpa using e
  · rename_i h
    exact ⟨nofun, fun ⟨i, hk, _⟩ => absurd ⟨by omega, by omega⟩ h⟩

/-- A copy's items are its owner's. -/
theorem item_copy {α β : Type} {n : Nat} {u : Vector β n} {v : Vector α n} {f : α → β} (h : ∀ i : Fin n, u[i] = f v[i]) (k : Nat) :
    item u k = (item v k).map f := by
  unfold item
  split
  · rename_i hk
    exact congrArg some (h ⟨k - 1, by omega⟩)
  · rfl

theorem item0_copy {α β : Type} {n : Nat} {u : Vector β n} {v : Vector α n} {f : α → β} (h : ∀ i : Fin n, u[i] = f v[i]) (k : Nat) :
    item0 u k = (item0 v k).map f := by
  unfold item0
  split
  · rename_i hk
    exact congrArg some (h ⟨k, hk⟩)
  · rfl

/-! ### Terms, alternatives and entries -/

/-- A term holds in the view just when it is true of the blocks themselves (R20 to R24). -/
theorem termHolds_iff {s : State} (h : CopiesLaw s) (k : Nat) (t : Term) : s.evaluator.termHolds k t = true ↔ s.termTrue k t := by
  obtain ⟨position, detection, ends, count, -⟩ := h
  cases t with
  | leverNormal n | leverReverse n => simp only [Evaluator.termHolds, State.termTrue, item_copy position, decide_eq_true_eq]
  | leverNormalFor n seconds =>
    simp only [Evaluator.termHolds, State.termTrue, item_copy position, Bool.and_eq_true, decide_eq_true_eq]
    cases (s.evaluator.timers[k]?).map (·.elapsed) <;> simp
  | detectionClear d | detectionOccupied d => simp only [Evaluator.termHolds, State.termTrue, item_copy detection, decide_eq_true_eq]
  | releaseUnused e => simp only [Evaluator.termHolds, State.termTrue, item0_copy fun e => (ends e).1, decide_eq_true_eq]
  | blockNormal e => simp only [Evaluator.termHolds, State.termTrue, item0_copy fun e => (ends e).2, decide_eq_true_eq]
  | countClear c =>
    simp only [Evaluator.termHolds, State.termTrue, decide_eq_true_eq, item_eq_some]
    exact exists_congr fun i => and_congr_right fun _ => by rw [(count i).1]
  | other kind op1 op2 => simp [Evaluator.termHolds, State.termTrue]

/-- An alternative holds just when every term of its run is true of the blocks themselves (R18). -/
theorem alternativeHolds_iff {s : State} (h : CopiesLaw s) (a : Alternative) :
    s.evaluator.alternativeHolds s.cfg.pool a = true ↔ s.alternativeTrue a := by
  simp only [Evaluator.alternativeHolds, State.alternativeTrue, List.all_eq_true, List.mem_range]
  refine forall₂_congr fun j _ => ?_
  cases s.cfg.pool[a.first + j]? <;> simp [termHolds_iff h]

/-- An entry holds just when it is satisfied by the blocks themselves (R19). -/
theorem entryHolds_iff {s : State} (h : CopiesLaw s) (l : List Alternative) :
    s.evaluator.entryHolds s.cfg.pool l = true ↔ s.entryTrue l := by
  simp [Evaluator.entryHolds, State.entryTrue, alternativeHolds_iff h]

theorem firstHolding_noAlternatives (v : Evaluator) (pool : List Term) (l : List Alternative) :
    v.firstHolding pool l = .noAlternatives ↔ l = [] := by
  unfold Evaluator.firstHolding
  cases l with
  | nil => simp
  | cons a l =>
    rw [if_neg (by simp)]
    split <;> simp

/-- The first-holding alternative is the lowest that is true (R19). -/
theorem firstHolding_alternative {s : State} (h : CopiesLaw s) (l : List Alternative) (n : Nat) :
    s.evaluator.firstHolding s.cfg.pool l = .alternative n ↔
      (∃ a, l[n]? = some a ∧ s.alternativeTrue a) ∧ ∀ m < n, ∀ a, l[m]? = some a → ¬s.alternativeTrue a := by
  have found : s.evaluator.firstHolding s.cfg.pool l = .alternative n ↔
      l.findIdx? (s.evaluator.alternativeHolds s.cfg.pool) = some n := by
    unfold Evaluator.firstHolding
    cases l with
    | nil => simp
    | cons a l =>
      rw [if_neg (by simp)]
      split <;> rename_i e <;> rw [e] <;> simp
  rw [found, List.findIdx?_eq_some_iff_getElem]
  simp only [alternativeHolds_iff h]
  constructor
  · rintro ⟨hn, ha, below⟩
    refine ⟨⟨l[n], by simp, ha⟩, fun m hm a e => ?_⟩
    obtain ⟨hl, rfl⟩ := List.getElem?_eq_some_iff.mp e
    exact below m hm
  · rintro ⟨⟨a, e, ha⟩, below⟩
    obtain ⟨hn, rfl⟩ := List.getElem?_eq_some_iff.mp e
    exact ⟨hn, ha, fun m hm => below m hm _ (List.getElem?_eq_getElem _)⟩

/-! ### Decisions (R26, R30, R31) -/

theorem newDecision_spare {g : Image} {i : LeverNo} (v : Evaluator) (h : g.roles[i] = .spare) :
    (v.newDecision g i).normal = false ∧ (v.newDecision g i).reverse = false := by
  simp [Evaluator.newDecision, h]

theorem DecisionLaw.judged {s : State} (h : DecisionLaw s) (ha : s.active = true) :
    (∀ i : LeverNo, s.evaluator.decisions[i] = s.evaluator.newDecision s.cfg i) ∧
      s.evaluator.altDecision = s.evaluator.judgeAlternative s.cfg := by
  obtain ⟨-, judged, -⟩ := h
  exact judged ha

/-- From the entry into RUNNING a decision on a lever that is not SPARE is that of its entry (R26). -/
theorem decision_eq_entryHolds {s : State} (h : DecisionLaw s) (ha : s.active = true) {i : LeverNo} (hi : s.cfg.roles[i] ≠ .spare)
    (k : EntryKind) : s.evaluator.decision i k = s.evaluator.entryHolds s.cfg.pool (s.entry i k) ∧
      s.evaluator.first i k = s.evaluator.firstHolding s.cfg.pool (s.entry i k) := by
  have hd : s.evaluator.decisions[i] = s.evaluator.judgeLever s.cfg i := by
    rw [(h.judged ha).1 i, Evaluator.newDecision, if_neg hi]
  cases k <;> simp only [Evaluator.decision, Evaluator.first, hd] <;> exact ⟨rfl, rfl⟩

theorem decision_spare {s : State} (h : DecisionLaw s) (ha : s.active = true) {i : LeverNo} (hi : s.cfg.roles[i] = .spare)
    (k : EntryKind) : s.evaluator.decision i k = false := by
  obtain ⟨hn, hr⟩ := newDecision_spare s.evaluator hi
  cases k
  · rw [Evaluator.decision, (h.judged ha).1 i, hn]
  · rw [Evaluator.decision, (h.judged ha).1 i, hr]

theorem altDecision_iff {s : State} (hc : CopiesLaw s) (hd : DecisionLaw s) (ha : s.active = true) :
    s.evaluator.altDecision = true ↔ s.cfg.switchable = true ∧ s.cfg.altNamed = true ∧ s.alternativeTrue s.cfg.alternative := by
  rw [(hd.judged ha).2]
  simp [Evaluator.judgeAlternative, alternativeHolds_iff hc, and_assoc]

/-! ### Locks (R9) -/

theorem lockOutput_true {running spare : Bool} {l : Lever} (h : lockOutput running spare l = true) :
    running = true ∧ spare = false ∧ l.lockFault = false := by
  simp only [lockOutput, Bool.and_eq_true, Bool.not_eq_eq_eq_not, Bool.not_true] at h
  obtain ⟨⟨⟨hr, hs⟩, hf⟩, -⟩ := h
  exact ⟨hr, hs, hf⟩

theorem active_of_isRunning {s : State} (h : s.isRunning = true) : s.active = true := by
  simp only [State.isRunning, Bool.and_eq_true, decide_eq_true_eq] at h
  simp [State.active, h.1, h.2, PartState.active]

/-- With nothing on its way the scanner keeps the evaluator's decisions (R26). -/
theorem kept_eq_decision {s : State} (h : DecisionLaw s) (hh : s.evaluator.handed = []) (i : LeverNo) (k : EntryKind) :
    s.levers[i].kept k = s.evaluator.decision i k := by
  have none : s.evaluator.lastHanded i k = Option.none := by simp [Evaluator.lastHanded, Evaluator.onTheWay, hh]
  have agrees : s.decisionAgrees i k := by
    cases k
    · exact (h.1 i).1
    · exact (h.1 i).2
  simpa [State.decisionAgrees, none] using agrees

/-- A lock whose output is the decision kept for an entry is energised just when it is permitted and the entry is satisfied. -/
theorem output_iff_entryTrue {s : State} (hc : CopiesLaw s) (hd : DecisionLaw s) (hl : LockLaw s) (hh : s.evaluator.handed = [])
    {i : LeverNo} {k : EntryKind}
    (hk : lockOutput s.isRunning (s.spare i) s.levers[i] =
      (s.isRunning && !s.spare i && !s.levers[i].lockFault && s.levers[i].kept k)) :
    s.levers[i].output = true ↔
      (s.isRunning = true ∧ s.cfg.roles[i] ≠ .spare ∧ s.levers[i].lockFault = false) ∧ s.entryTrue (s.entry i k) := by
  rw [hl i, hk, kept_eq_decision hd hh]
  simp only [Bool.and_eq_true, Bool.not_eq_eq_eq_not, Bool.not_true, State.spare, decide_eq_false_iff_not, and_assoc]
  refine and_congr_right fun hr => and_congr_right fun hs => and_congr_right fun _ => ?_
  rw [(decision_eq_entryHolds hd (active_of_isRunning hr) hs k).1, entryHolds_iff hc]

/-- Settles O18. -/
theorem energisedLockIsPermitted : Obligations.EnergisedLockIsPermitted := by
  intro s hc hd
  refine ⟨fun ha => ⟨fun i k hi => ?_, fun i k hi => decision_spare hd ha hi k, altDecision_iff hc hd ha⟩, fun hl hh i => ?_⟩
  · obtain ⟨decision, first⟩ := decision_eq_entryHolds hd ha hi k
    rw [decision, first]
    exact ⟨entryHolds_iff hc _, firstHolding_noAlternatives _ _ _, firstHolding_alternative hc _⟩
  · refine ⟨fun ho => ?_, fun hp => output_iff_entryTrue hc hd hl hh (k := .fromNormal) ?_,
      fun hp => output_iff_entryTrue hc hd hl hh (k := .fromReverse) ?_⟩
    · rw [hl i] at ho
      obtain ⟨hr, hs, hf⟩ := lockOutput_true ho
      exact ⟨hr, by simpa [State.spare] using hs, hf⟩
    · simp only [lockOutput, hp, Lever.kept]
    · simp only [lockOutput, hp, Lever.kept]

end Sys2Proof.Machine
end

section
/-! PROOFS. What the reports of an event leave behind: the records they append, and the lever positions and term timers of the evaluator's view,
which no report but a lever's own touches. -/

namespace Sys2Proof.Machine

/-- From `s` to `t` records may have been appended, and neither the view's lever positions nor the terms' timers have changed. -/
structure Aftermath (s t : State) : Prop where
  records : ∃ l, Recorded s t l
  position : t.evaluator.view.position = s.evaluator.view.position
  timers : t.evaluator.timers = s.evaluator.timers

theorem Aftermath.trans {s t u : State} (h : Aftermath s t) (h' : Aftermath t u) : Aftermath s u := by
  obtain ⟨l, hl⟩ := h.records
  obtain ⟨m, hm⟩ := h'.records
  exact ⟨⟨_, recorded_trans hl hm⟩, h'.position.trans h.position, h'.timers.trans h.timers⟩

theorem aftermath_of_eq {s t : State} (hp : t.port = s.port) (he : t.evaluator = s.evaluator) : Aftermath s t :=
  ⟨⟨[], recorded_refl hp⟩, by rw [he], by rw [he]⟩

/-- A change that comes before, and is neither a record nor the evaluator's. -/
theorem Aftermath.after {s t u : State} (h : Aftermath t u) (hp : t.port = s.port) (he : t.evaluator = s.evaluator) :
    Aftermath s u := (aftermath_of_eq hp he).trans h

theorem Aftermath.refl (s : State) : Aftermath s s := aftermath_of_eq rfl rfl

/-- A first record stays the first, whatever follows it. -/
theorem RecordedFirst.then {s t u : State} {r : Event} (h : RecordedFirst s t r) (h' : Aftermath t u) : RecordedFirst s u r := by
  obtain ⟨l, hl⟩ := h
  obtain ⟨m, hm⟩ := h'.records
  exact ⟨l ++ m, recorded_trans hl hm⟩

theorem foldl_aftermath {α : Type} (l : List α) (f : State → α → State) (h : ∀ s a, Aftermath s (f s a)) (s : State) :
    Aftermath s (l.foldl f s) := by
  induction l generalizing s with
  | nil => exact .refl s
  | cons a l ih => exact (h s a).trans (ih _)

/-! ### The evaluator -/

@[simp] theorem judgeEntries_view (v : Evaluator) (g : Image) : (v.judgeEntries g).view = v.view := by
  simp only [Evaluator.judgeEntries]

@[simp] theorem judgeEntries_timers (v : Evaluator) (g : Image) : (v.judgeEntries g).timers = v.timers := by
  simp only [Evaluator.judgeEntries]

/-- What a change of the view does to the evaluator: the change, and the judgement of every entry (R26). -/
theorem evaluate_evaluator (s : State) (f : Evaluator → Evaluator) :
    (s.evaluate f).evaluator = (f s.evaluator).judgeEntries s.cfg := by
  unfold State.evaluate
  dsimp only
  split <;> simp

theorem evaluate_aftermath (s : State) {f : Evaluator → Evaluator}
    (hf : (f s.evaluator).view.position = s.evaluator.view.position ∧ (f s.evaluator).timers = s.evaluator.timers) :
    Aftermath s (s.evaluate f) := by
  refine ⟨⟨[], recorded_refl (by simp)⟩, ?_, ?_⟩
  · rw [evaluate_evaluator, judgeEntries_view, hf.1]
  · rw [evaluate_evaluator, judgeEntries_timers, hf.2]

theorem reportDetection_aftermath (s : State) (d : DetNo) : Aftermath s (s.reportDetection d) := evaluate_aftermath s ⟨rfl, rfl⟩

theorem reportBlock_aftermath (s : State) (e : EndNo) : Aftermath s (s.reportBlock e) := evaluate_aftermath s ⟨rfl, rfl⟩

theorem reportCount_aftermath (s : State) (c : SectNo) : Aftermath s (s.reportCount c) := evaluate_aftermath s ⟨rfl, rfl⟩

/-! ### Records, the combiner, the block ends and the sections -/

theorem append_aftermath (s : State) (r : Event) : Aftermath s (s.append r) := ⟨⟨_, append_recorded s r⟩, by simp, by simp⟩

theorem judgeDetection_aftermath (s : State) (d : DetNo) : Aftermath s (s.judgeDetection d) := by
  have judged (f : Combiner → Combiner) : Aftermath s (s.modCombiner f) := aftermath_of_eq rfl rfl
  unfold State.judgeDetection
  dsimp only
  split
  · exact judged _
  · exact ((judged _).trans (append_aftermath _ _)).trans (reportDetection_aftermath _ d)

theorem reportCountToCombiner_aftermath (s : State) (c : SectNo) : Aftermath s (s.reportCountToCombiner c) := by
  have judged (u : State) (names : DetRecord → Bool) : Aftermath u (u.judgeDetections names) := by
    refine foldl_aftermath _ _ (fun u d => ?_) u
    split
    · exact judgeDetection_aftermath u d
    · exact .refl u
  exact (judged _ _).after rfl rfl

theorem blockRecord_aftermath (s : State) (e : EndNo) (old : BlockState) (cause : Cause) (op : Nat) :
    Aftermath s (s.blockRecord e old cause op) := append_aftermath ..

theorem reportEndChange_aftermath (s : State) (e : EndNo) (old : BlockState) (cause : Cause) :
    Aftermath s (s.reportEndChange e old cause) := by
  have reported := (blockRecord_aftermath s e old cause 0).trans (reportBlock_aftermath _ e)
  refine reported.trans (aftermath_of_eq ?_ ?_) <;> simp only [State.reportEndChange] <;> (repeat' split) <;> simp

theorem changeEnd_aftermath (s : State) (e : EndNo) (st : BlockState) (rel : Release) (cause : Cause) :
    Aftermath s (s.changeEnd e st rel cause) := by
  unfold State.changeEnd
  split
  · exact .refl s
  · exact (reportEndChange_aftermath ..).after rfl rfl

theorem trainEntry_aftermath (s : State) (e : EndNo) : Aftermath s (s.trainEntry e) := by
  unfold State.trainEntry
  split <;> first
    | exact changeEnd_aftermath ..
    | exact .refl s

theorem resetRecord_aftermath (s s0 : State) (c : SectNo) (o : ResetOutcome) : Aftermath s (s.resetRecord s0 c o) :=
  append_aftermath ..

theorem reportSect_aftermath (s s0 : State) (c : SectNo) : Aftermath s (s.reportSect s0 c) := by
  have state (r : Event) : Aftermath s (((s.append r).reportCountToCombiner c).reportCount c) :=
    ((append_aftermath s r).trans (reportCountToCombiner_aftermath _ c)).trans (reportCount_aftermath _ c)
  have entered {u : State} (h : Aftermath s u) : Aftermath s (match s.sectEnd c with
      | some e => if s0.indication c = .zero ∧ s.indication c = .nonzero then u.trainEntry e else u
      | none => u) := by
    split
    · split
      · exact h.trans (trainEntry_aftermath ..)
      · exact h
    · exact h
  refine entered ?_
  split
  · exact .refl s
  · exact state _

theorem changeSect_aftermath (s : State) (c : SectNo) (f : Sect → Sect) : Aftermath s (s.changeSect c f) :=
  (reportSect_aftermath (s.modSect c f) s c).after rfl rfl

/-! ### Requests and the close of an event -/

theorem requestUndelivered_aftermath (s : State) (e : EndNo) (n : Nat) : Aftermath s (s.requestUndelivered e n) := by
  unfold State.requestUndelivered
  split
  · split
    · exact (resetRecord_aftermath ..).after rfl rfl
    · exact .refl s
  · exact .refl s

theorem confirmUndelivered_aftermath (s : State) (e : EndNo) (n : Nat) : Aftermath s (s.confirmUndelivered e n) := by
  unfold State.confirmUndelivered
  split
  · split
    · exact (changeSect_aftermath s _ _).trans (resetRecord_aftermath ..)
    · exact .refl s
  · exact .refl s

theorem reportEvicted_aftermath (s : State) (f : Frame) : Aftermath s (s.reportEvicted f) := by
  unfold State.reportEvicted
  split
  case h_3 => exact requestUndelivered_aftermath ..
  case h_4 => exact confirmUndelivered_aftermath ..
  all_goals exact aftermath_of_eq rfl rfl

theorem request_aftermath (s : State) (k : FrameKind) (e : EndNo) (dest : Nat) (payload : List Byte) :
    Aftermath s (s.request k e dest payload) := by
  have line (u : State) (f : Line → Line) : Aftermath u (u.modLine f) := aftermath_of_eq rfl rfl
  unfold State.request
  dsimp only
  split
  · exact line ..
  · split
    · exact line ..
    · split
      · split
        · exact ((append_aftermath s _).trans (line _ _)).trans (reportEvicted_aftermath ..)
        · exact .refl s
      · exact .refl s

theorem switchRecord_aftermath (s : State) (k : Concern) (d : Nat) (o : SwitchOutcome) (r : Option SwitchReason)
    (c : Option SwitchCause) : Aftermath s (s.switchRecord k d o r c) := by
  unfold State.switchRecord
  cases k with
  | one e party => exact append_aftermath ..
  | both => exact (append_aftermath { s with freeCount := s.freeCount + 1 } _).after rfl rfl

theorem sendAbandon_aftermath (s : State) (d : Direction) (e : EndNo) (wanted : Bool) : Aftermath s (s.sendAbandon d e wanted) := by
  unfold State.sendAbandon
  split
  · exact request_aftermath ..
  · exact .refl s

theorem settle_aftermath (s : State) : Aftermath s s.settle := by
  have switching (u : State) (f : Switching → Switching) : Aftermath u (u.modSwitching f) := aftermath_of_eq rfl rfl
  unfold State.settle State.abandon
  split
  · split
    · exact ((((switching s _).trans (sendAbandon_aftermath ..)).trans (sendAbandon_aftermath ..)).trans (switching _ _)).trans
        (switchRecord_aftermath ..)
    · exact switching s _
  · exact .refl s

end Sys2Proof.Machine
end

section
/-! PROOFS. A lever's change of position (R2 to R5, R9, R10, R14 to R16, R21): what it does to the lever, the records and the evaluator's view, and
the two rows that bring it about, O12 and O10. -/

namespace Sys2Proof.Machine

/-! ### The record and the reports of a change -/

/-- The record of a lever that has taken a position (R16). -/
def positionEvent (s : State) (i : LeverNo) (old p : Position) (cause : FaultCause) (output : Bool) (length : Nat) : Event :=
  if p = .fault then
    { time := s.partTime, kind := .leverFault, subject := i.val + 1, old := old.code, new := 3, d1 := cause.code }
  else
    { time := s.partTime, kind := .leverMoved, subject := i.val + 1, old := old.code, new := p.code, d1 := bit output
      d3 := hi length, d4 := lo length }

theorem leverRecord_recorded (s : State) (i : LeverNo) (old : Position) (length : Nat) {p : Position} {cause : FaultCause}
    (hp : s.levers[i].position = p) (hc : s.levers[i].faultCause = if p = .fault then some cause else none) :
    Recorded s (s.leverRecord i old length) [positionEvent s i old p cause s.levers[i].output length] := by
  unfold State.leverRecord positionEvent
  dsimp only
  subst hp
  by_cases h : s.levers[i].position = .fault
  · rw [if_pos h] at hc
    simp only [h, hc]
    exact append_recorded ..
  · rw [if_neg h]
    split
    · contradiction
    · exact append_recorded ..

@[simp] theorem leverRecord_evaluator (s : State) (i : LeverNo) (old : Position) (length : Nat) :
    (s.leverRecord i old length).evaluator = s.evaluator := by
  unfold State.leverRecord
  dsimp only
  split <;> simp

theorem starterReport_aftermath (s : State) (i : LeverNo) (old : Position) : Aftermath s (s.starterReport i old) := by
  unfold State.starterReport State.starterLeft State.starterReturned
  (repeat' split) <;> first
    | exact changeEnd_aftermath ..
    | exact .refl s

/-- A lever's report puts its position in the view, and the expiries of its terms with it (R14, R21, R25). -/
theorem reportPosition_view (s : State) (i : LeverNo) :
    (s.reportPosition i).evaluator.view.position[i] = s.levers[i].position ∧
    timersFollow s.cfg.pool i
      (fun seconds => if s.levers[i].position = .normal then s.levers[i].lastNormal.map (· + 100 * seconds) else none)
      s.evaluator.timers (s.reportPosition i).evaluator.timers := by
  unfold State.reportPosition
  rw [evaluate_evaluator, judgeEntries_view, judgeEntries_timers]
  refine ⟨?_, takePosition_timers _ _ _ _ _⟩
  unfold Evaluator.takePosition
  dsimp only
  split <;> simp

/-! ### The change (R2 to R5, R10, R14) -/

/-- A lever as a change of position leaves it: the position with what goes with it, and the output it gives (R9). -/
def State.taken (s : State) (i : LeverNo) (p : Position) (cause : FaultCause) : Lever :=
  (s.levers[i].take s.now p cause).drive s.isRunning s.active (s.spare i) s.now

/-- The lever with its new position and output, before any record or report of the change (R14). -/
def State.moved (s : State) (i : LeverNo) (p : Position) (cause : FaultCause) : State := s.modLever i fun _ => s.taken i p cause

/-- A change of position is the move, its record, the starter's report and the position's, in turn. -/
theorem changePosition_eq (s : State) (i : LeverNo) (p : Position) (cause : FaultCause) :
    s.changePosition i p cause =
      (((s.moved i p cause).leverRecord i s.levers[i].position (s.levers[i].transitLength s.now)).starterReport i
        s.levers[i].position).reportPosition i := by
  unfold State.changePosition
  dsimp only
  rw [modLever_driveLever]
  rfl

theorem moved_self (s : State) (i : LeverNo) (p : Position) (cause : FaultCause) :
    (s.moved i p cause).levers[i] = s.taken i p cause := upd_self ..

theorem moved_other (s : State) {i j : LeverNo} (h : j ≠ i) (p : Position) (cause : FaultCause) :
    (s.moved i p cause).levers[j] = s.levers[j] := upd_ne _ _ h.symm

theorem changePosition_base (s : State) (i : LeverNo) (p : Position) (cause : FaultCause) :
    (s.changePosition i p cause).base = (s.moved i p cause).base := by
  rw [changePosition_eq]
  simp

/-- The reports before the lever's own leave the lever, the image, and the terms' timers. -/
theorem starterReport_frame (s : State) (i : LeverNo) (p : Position) (cause : FaultCause) (length : Nat) :
    let u := ((s.moved i p cause).leverRecord i s.levers[i].position length).starterReport i s.levers[i].position
    u.levers[i] = s.taken i p cause ∧ u.cfg = s.cfg ∧ u.evaluator.timers = s.evaluator.timers := by
  intro u
  obtain ⟨-, -, -, cfg, levers, -⟩ := State.base_eq (by simp [u] : u.base = (s.moved i p cause).base)
  refine ⟨?_, cfg, ?_⟩
  · exact (congrArg (·[i]) levers).trans (moved_self s i p cause)
  · rw [(starterReport_aftermath _ i _).timers, leverRecord_evaluator]
    rfl

theorem changePosition_view (s : State) (i : LeverNo) (p : Position) (cause : FaultCause) :
    (s.changePosition i p cause).evaluator.view.position[i] = p ∧
    timersFollow s.cfg.pool i (fun seconds => if p = .normal then some (unitsAt s.now + 100 * seconds) else none)
      s.evaluator.timers (s.changePosition i p cause).evaluator.timers := by
  obtain ⟨lever, cfg, timers⟩ := starterReport_frame s i p cause (s.levers[i].transitLength s.now)
  obtain ⟨position, follow⟩ := reportPosition_view
    (((s.moved i p cause).leverRecord i s.levers[i].position (s.levers[i].transitLength s.now)).starterReport i s.levers[i].position) i
  rw [lever] at position follow
  rw [cfg, timers] at follow
  rw [changePosition_eq]
  refine ⟨position, ?_⟩
  convert follow using 2 with seconds
  by_cases h : p = .normal
  · simp [State.taken, Lever.drive, Lever.watch, Lever.take, h]
  · simp [State.taken, Lever.drive, Lever.watch, Lever.take, h]

theorem changePosition_recordedFirst (s : State) (i : LeverNo) (p : Position) (cause : FaultCause) :
    RecordedFirst s (s.changePosition i p cause)
      (positionEvent s i s.levers[i].position p cause (s.taken i p cause).output (s.levers[i].transitLength s.now)) := by
  rw [changePosition_eq]
  have first : RecordedFirst (s.moved i p cause) ((s.moved i p cause).leverRecord i s.levers[i].position _) _ :=
    ⟨[], leverRecord_recorded (s.moved i p cause) i s.levers[i].position (s.levers[i].transitLength s.now) (p := p) (cause := cause)
      (by rw [moved_self]; rfl) (by rw [moved_self]; rfl)⟩
  rw [moved_self] at first
  obtain ⟨l, hl⟩ := (first.then (starterReport_aftermath _ i s.levers[i].position))
  refine ⟨l, ?_⟩
  unfold Recorded at hl ⊢
  rw [reportPosition_port]
  exact hl

/-- What a change of position and the close of its event do: the lever takes it, no other lever moves, and time, the image, the track and the
heads stay; the record comes first; and the view takes the position with its terms' expiries. -/
theorem changePosition_settle (s : State) (i : LeverNo) (p : Position) (cause : FaultCause) :
    let t := (s.changePosition i p cause).settle
    (s.sameFrame t ∧ t.track = s.track ∧ t.heads = s.heads ∧ ∀ j : LeverNo, j ≠ i → t.levers[j] = s.levers[j]) ∧
    t.levers[i] = s.taken i p cause ∧
    t.evaluator.view.position[i] = p ∧
    timersFollow s.cfg.pool i (fun seconds => if p = .normal then some (unitsAt s.now + 100 * seconds) else none)
      s.evaluator.timers t.evaluator.timers ∧
    RecordedFirst s t
      (positionEvent s i s.levers[i].position p cause (s.taken i p cause).output (s.levers[i].transitLength s.now)) := by
  intro t
  obtain ⟨now, underReset, loader, cfg, levers, track, heads, pending⟩ :=
    State.base_eq ((settle_base _).trans (changePosition_base s i p cause) : t.base = (s.moved i p cause).base)
  obtain ⟨position, follow⟩ := changePosition_view s i p cause
  have closed := settle_aftermath (s.changePosition i p cause)
  refine ⟨⟨⟨now, underReset, loader, cfg, pending⟩, track, heads, fun j hj => ?_⟩, ?_, ?_, ?_,
    (changePosition_recordedFirst s i p cause).then closed⟩
  · exact (congrArg (·[j]) levers).trans (moved_other s hj p cause)
  · exact (congrArg (·[i]) levers).trans (moved_self s i p cause)
  · rw [closed.position]
    exact position
  · rw [closed.timers]
    exact follow

/-! ### The transit limit (R3) -/

/-- Settles O12. -/
theorem transitLimitIsFault : Obligations.TransitLimitIsFault := by
  intro s i _ h
  have he : s.transitLimitExpiry i = s.changePosition i .fault .transitLimit := if_pos h
  obtain ⟨⟨frame, track, heads, others⟩, lever, position, follow, first⟩ := changePosition_settle s i .fault .transitLimit
  refine ⟨_, rfl, ?_⟩
  rw [he]
  refine ⟨frame, track, heads, others, ?_⟩
  rw [lever]
  refine ⟨rfl, rfl, rfl, ?_, rfl, rfl, rfl, rfl, position, follow, first⟩
  simp [State.taken, Lever.drive, Lever.watch, Lever.take, lockOutput]

/-! ### A change of the proving contacts (R1 to R5, R15) -/

/-- A lever with the change events of its contacts taken (R1). -/
def State.settled (s : State) (i : LeverNo) : Lever :=
  { s.levers[i] with n := s.levers[i].n.settle debounce50 s.now, r := s.levers[i].r.settle debounce50 s.now }

/-- The position that a lever's contacts derive with their change events taken (R2). -/
def State.derived (s : State) (i : LeverNo) : Position := derive (s.settled i).n.value (s.settled i).r.value

/-- Whether a contact change leaves a lever's position: none is derived before the entry into RUNNING, and a lever in FAULT does not leave it for
TRANSIT (R2, R4). -/
def State.keepsPosition (s : State) (i : LeverNo) : Prop :=
  s.active = false ∨ s.derived i = s.levers[i].position ∨ (s.levers[i].position = .fault ∧ s.derived i = .transit)

theorem settleContacts_eq (s : State) (i : LeverNo) : s.settleContacts i = s.modLever i fun _ => s.settled i := by
  simp only [State.settleContacts, State.modLever, upd, State.settled]

theorem settleContacts_self (s : State) (i : LeverNo) : (s.settleContacts i).levers[i] = s.settled i := by
  rw [settleContacts_eq]
  exact upd_self ..

theorem settleContacts_other (s : State) {i j : LeverNo} (h : j ≠ i) : (s.settleContacts i).levers[j] = s.levers[j] :=
  upd_ne _ _ h.symm

theorem settleContacts_withdrawn (s : State) (i : LeverNo) : (s.settleContacts i).withdrawn i = s.withdrawn i := by
  unfold State.withdrawn
  rw [settleContacts_self]
  rfl

theorem provingContactChange_eq {s : State} {i : LeverNo} (h : s.contactDue i = true) :
    s.provingContactChange i = if s.active then (s.settleContacts i).meetPosition i (s.derived i) else s.settleContacts i := by
  unfold State.provingContactChange
  rw [if_pos h]
  dsimp only
  rw [settleContacts_self]
  rfl

/-- A contact change that leaves the position takes the debounced values alone. -/
theorem provingContactChange_kept {s : State} {i : LeverNo} (h : s.contactDue i = true) (kept : s.keepsPosition i) :
    s.provingContactChange i = s.settleContacts i := by
  rw [provingContactChange_eq h]
  split
  · rename_i ha
    unfold State.meetPosition
    dsimp only
    rw [settleContacts_self]
    rcases kept with hn | hp | hf
    · exact absurd ha (by simp [hn])
    · exact if_pos hp.symm
    · exact (ite_congr rfl (fun _ => rfl) fun _ => if_pos hf).trans (ite_self _)
  · rfl

/-- A contact change that derives a new position: a withdrawal that has come before it is taken, and the lever changes position (R15). -/
theorem provingContactChange_moved {s : State} {i : LeverNo} (h : s.contactDue i = true) (moved : ¬s.keepsPosition i) :
    s.provingContactChange i = ((s.settleContacts i).takeWithdrawal i).changePosition i (s.derived i) .bothMade := by
  obtain ⟨ha, hp, hf⟩ := not_or.mp moved |>.imp_right not_or.mp
  rw [provingContactChange_eq h, if_pos (by simpa using ha)]
  unfold State.meetPosition
  dsimp only
  rw [settleContacts_self]
  exact (if_neg (Ne.symm hp)).trans (if_neg hf)

/-- The state in which a lever that has met its new position changes to it: its contacts have settled, and a withdrawal has been taken (R15). -/
theorem takeWithdrawal_settled (s : State) (i : LeverNo) : ∃ levers handed mismatch,
    (s.settleContacts i).takeWithdrawal i = { s with levers := levers, evaluator := { s.evaluator with handed := handed } } ∧
    (∀ j : LeverNo, j ≠ i → levers[j] = s.levers[j]) ∧
    levers[i] = { s.settled i with
      decNormal := !s.withdrawn i && s.levers[i].decNormal, output := !s.withdrawn i && s.levers[i].output
      mismatchFrom := mismatch } := by
  obtain ⟨rest, others, self, -⟩ := takeWithdrawal_eq (s.settleContacts i) i
  rw [settleContacts_self, settleContacts_withdrawn] at self
  exact ⟨_, _, _, rest, fun j hj => (others j hj).trans (settleContacts_other s hj), self⟩

/-- Settles O10. -/
theorem leverTakesDerivedPosition : Obligations.LeverTakesDerivedPosition := by
  intro s i hq h
  refine ⟨fun kept => ?_, fun moved => ⟨_, rfl, ?_⟩⟩
  · show Host.Outcome.next (s.provingContactChange i).settle = _
    rw [provingContactChange_kept h kept, settle_quiet (by exact hq), settleContacts_eq]
    rfl
  · rw [provingContactChange_moved h moved]
    obtain ⟨levers, handed, mismatch, state, others, self⟩ := takeWithdrawal_settled s i
    rw [state]
    let w : State := { s with levers := levers, evaluator := { s.evaluator with handed := handed } }
    obtain ⟨⟨frame, track, heads, still⟩, lever, position, follow, first⟩ := changePosition_settle w i (s.derived i) .bothMade
    have start : w.levers[i] = _ := self
    rw [start] at first
    unfold State.taken at lever first
    rw [start] at lever first
    refine ⟨frame, track, heads, fun j hj => (still j hj).trans (others j hj), ?_⟩
    rw [lever]
    refine ⟨rfl, rfl, rfl, rfl, fun hp => ?_, rfl, rfl, rfl, rfl, ?_, rfl, rfl, position, follow, ?_⟩
    · exact (if_pos hp).trans (Bool.and_comm _ _)
    · exact Bool.and_comm _ _
    · exact first

end Sys2Proof.Machine
end

section
/-! PROOFS. What the scanner and the axle counting unit report to the block controller (R15, R61, R64, R69, R145, R148): the starter's reports, a
train's entry, and the STATUS that a change of an end promises, which nothing takes back (O11). -/

namespace Sys2Proof.Machine

/-! ### A change of an end -/

theorem changeEnd_self (s : State) (e : EndNo) (st : BlockState) (rel : Release) (cause : Cause) :
    (s.changeEnd e st rel cause).blocks[e] = s.blocks[e].moved st rel := by
  simp only [changeEnd_blocks]
  split
  · rename_i h
    obtain ⟨rfl, rfl⟩ := h
    simp [BlockEnd.moved]
  · exact upd_self ..

theorem changeEnd_other (s : State) {e e' : EndNo} (h : e' ≠ e) (st : BlockState) (rel : Release) (cause : Cause) :
    (s.changeEnd e st rel cause).blocks[e'] = s.blocks[e'] := by
  simp only [changeEnd_blocks]
  split
  · rfl
  · exact upd_ne _ _ h.symm

@[simp] theorem BlockEnd.moved_state (b : BlockEnd) (st : BlockState) (rel : Release) : (b.moved st rel).state = st := by
  unfold BlockEnd.moved
  split
  · assumption
  · rfl

@[simp] theorem BlockEnd.moved_release (b : BlockEnd) (st : BlockState) (rel : Release) : (b.moved st rel).release = rel := by
  unfold BlockEnd.moved
  split <;> rfl

theorem BlockEnd.moved_cancelUntil {b : BlockEnd} {st : BlockState} (hb : b.state ≠ st) (hc : st ≠ .cancelling) (rel : Release) :
    (b.moved st rel).cancelUntil = none := by
  simp [BlockEnd.moved, hb, hc]

/-! ### The starter's reports (R15, R145) -/

/-- From `s` to `t` an end's release has become `r`, and no other end and no end's state has changed. -/
def ReleaseBecomes (s t : State) (e : EndNo) (r : Release) : Prop :=
  t.blocks[e].release = r ∧ t.blocks[e].state = s.blocks[e].state ∧ ∀ e', e' ≠ e → t.blocks[e'] = s.blocks[e']

theorem changeEnd_releaseBecomes (s : State) (e : EndNo) (r : Release) (cause : Cause) :
    ReleaseBecomes s (s.changeEnd e s.blocks[e].state r cause) e r := by
  refine ⟨?_, ?_, fun e' h => changeEnd_other s h ..⟩
  · rw [changeEnd_self, BlockEnd.moved_release]
  · rw [changeEnd_self, BlockEnd.moved_state]

theorem starterLeft_releaseBecomes (s : State) (e : EndNo) : ReleaseBecomes s (s.starterLeft e) e
    (if s.blocks[e].release = .unused ∨ s.blocks[e].release = .suspended then .taken else s.blocks[e].release) := by
  unfold State.starterLeft
  split
  · rename_i h
    rw [if_pos (.inl h)]
    exact changeEnd_releaseBecomes ..
  · rename_i h
    rw [if_pos (.inr h)]
    exact changeEnd_releaseBecomes ..
  · rename_i hu hs
    rw [if_neg (by simp_all)]
    exact ⟨rfl, rfl, fun _ _ => rfl⟩

theorem starterReturned_releaseBecomes (s : State) (e : EndNo) : ReleaseBecomes s (s.starterReturned e) e
    (if s.blocks[e].release = .taken then .spent else s.blocks[e].release) := by
  unfold State.starterReturned
  split
  · rename_i h
    rw [if_pos h]
    exact changeEnd_releaseBecomes ..
  · rename_i h
    rw [if_neg (by simp_all)]
    exact ⟨rfl, rfl, fun _ _ => rfl⟩

theorem endOf_val (e : EndNo) : endOf e.val = e := Fin.ofNat_val_eq_self e

theorem starterReport_starter {s : State} {i : LeverNo} {e : EndNo} (h : s.cfg.roles[i] = .starter e.val) (old : Position) :
    s.starterReport i old =
      if old = .normal ∧ s.levers[i].position ≠ .normal then s.starterLeft e
      else if old ≠ .normal ∧ s.levers[i].position = .normal then s.starterReturned e else s := by
  unfold State.starterReport
  rw [h]
  simp only [endOf_val]

@[simp] theorem leverRecord_blocks (s : State) (i : LeverNo) (old : Position) (length : Nat) :
    (s.leverRecord i old length).blocks = s.blocks := by
  unfold State.leverRecord
  dsimp only
  split <;> simp

/-- The blocks after a starter's change of position are those that its report leaves. -/
theorem changePosition_starter {s : State} {i : LeverNo} {e : EndNo} (role : s.cfg.roles[i] = .starter e.val) (p : Position)
    (cause : FaultCause) : ∃ u : State, u.blocks = s.blocks ∧
      (s.changePosition i p cause).blocks =
        (if s.levers[i].position = .normal ∧ p ≠ .normal then u.starterLeft e
          else if s.levers[i].position ≠ .normal ∧ p = .normal then u.starterReturned e else u).blocks := by
  let u := (s.moved i p cause).leverRecord i s.levers[i].position (s.levers[i].transitLength s.now)
  obtain ⟨-, -, -, cfg, lever, -⟩ := State.base_eq (by simp [u] : u.base = (s.moved i p cause).base)
  have position : u.levers[i].position = p :=
    congrArg Lever.position ((congrArg (·[i]) lever).trans (moved_self s i p cause))
  have role' : u.cfg.roles[i] = .starter e.val := (congrArg (·.roles[i]) cfg).trans role
  refine ⟨u, by simp [u, State.moved], ?_⟩
  rw [changePosition_eq, reportPosition_blocks]
  refine (congrArg State.blocks (starterReport_starter role' _)).trans ?_
  rw [position]

/-- The same after a contact change that moves the starter. -/
theorem provingContactChange_starter {s : State} {i : LeverNo} {e : EndNo} (h : s.contactDue i = true) (moved : ¬s.keepsPosition i)
    (role : s.cfg.roles[i] = .starter e.val) : ∃ u : State, u.blocks = s.blocks ∧
      (s.provingContactChange i).settle.blocks =
        (if s.levers[i].position = .normal ∧ s.derived i ≠ .normal then u.starterLeft e
          else if s.levers[i].position ≠ .normal ∧ s.derived i = .normal then u.starterReturned e else u).blocks := by
  rw [provingContactChange_moved h moved, settle_blocks]
  obtain ⟨levers, handed, mismatch, state, -, self⟩ := takeWithdrawal_settled s i
  rw [state]
  let w : State := { s with levers := levers, evaluator := { s.evaluator with handed := handed } }
  obtain ⟨u, hu, ht⟩ := changePosition_starter (s := w) role (s.derived i) .bothMade
  have old : w.levers[i].position = s.levers[i].position := by
    show levers[i].position = _
    rw [self]
    rfl
  rw [old] at ht
  exact ⟨u, hu, ht⟩

theorem not_keepsPosition {s : State} {i : LeverNo} (ha : s.active = true) (hp : s.derived i ≠ s.levers[i].position)
    (hf : s.levers[i].position = .normal ∨ s.derived i = .normal) : ¬s.keepsPosition i := by
  rintro (h | h | ⟨h, h'⟩)
  · simp [ha] at h
  · exact hp h
  · rcases hf with e | e
    · cases e.symm.trans h
    · cases e.symm.trans h'

/-- "Starter left NORMAL" (R15, R145): an UNUSED or SUSPENDED release is TAKEN. -/
theorem provingContactChange_left {s : State} {i : LeverNo} {e : EndNo} (ha : s.active = true) (h : s.contactDue i = true)
    (role : s.cfg.roles[i] = .starter e.val) (old : s.levers[i].position = .normal) (new : s.derived i ≠ .normal) :
    ReleaseBecomes s (s.provingContactChange i).settle e
      (if s.blocks[e].release = .unused ∨ s.blocks[e].release = .suspended then .taken else s.blocks[e].release) := by
  obtain ⟨u, hu, ht⟩ := provingContactChange_starter h (not_keepsPosition ha (by rwa [old]) (.inl old)) role
  rw [if_pos ⟨old, new⟩] at ht
  have := starterLeft_releaseBecomes u e
  unfold ReleaseBecomes at this ⊢
  rw [ht]
  simpa only [hu] using this

/-- "Starter returned to NORMAL" (R15, R145): a TAKEN release is SPENT. -/
theorem provingContactChange_returned {s : State} {i : LeverNo} {e : EndNo} (ha : s.active = true) (h : s.contactDue i = true)
    (role : s.cfg.roles[i] = .starter e.val) (old : s.levers[i].position ≠ .normal) (new : s.derived i = .normal) :
    ReleaseBecomes s (s.provingContactChange i).settle e (if s.blocks[e].release = .taken then .spent else s.blocks[e].release) := by
  obtain ⟨u, hu, ht⟩ := provingContactChange_starter h (not_keepsPosition ha (by rw [new]; exact old.symm) (.inr new)) role
  rw [if_neg fun h => old h.1, if_pos ⟨old, new⟩] at ht
  have := starterReturned_releaseBecomes u e
  unfold ReleaseBecomes at this ⊢
  rw [ht]
  simpa only [hu] using this

/-! ### A STATUS that has been promised (R111, R112) -/

/-- The line holds or owes a STATUS of an end. -/
def Line.promises (l : Line) (e : EndNo) : Prop :=
  (∃ i : Fin 8, ∃ f, l.slots[i] = some f ∧ f.kind = .status ∧ f.e = e) ∨ l.owed[e] = true

theorem statusPromised_iff (s : State) (e : EndNo) : s.statusPromised e ↔ s.line.promises e := Iff.rfl

/-- A slot's new contents keep a promise where they keep a STATUS that stood there. -/
theorem promises_set {l : Line} {e : EndNo} (h : l.promises e) (i : Fin 8) {x : Option Frame} {owed : Vector Bool 3}
    {n : Nat} (ho : ∀ e : EndNo, l.owed[e] = true → owed[e] = true)
    (hx : ∀ f, l.slots[i] = some f → f.kind = .status → (∃ g, x = some g ∧ g.kind = .status ∧ g.e = f.e) ∨ owed[f.e] = true) :
    ({ l with slots := l.slots.set i x, owed := owed, nextSeq := n } : Line).promises e := by
  rcases h with ⟨j, f, hf, hk, rfl⟩ | h
  · by_cases hj : i = j
    · subst hj
      rcases hx f hf hk with ⟨g, rfl, hg⟩ | hg
      · exact .inl ⟨i, g, by simp, hg⟩
      · exact .inr hg
    · refine .inl ⟨j, f, ?_, hk, rfl⟩
      simpa [Vector.getElem_set, Fin.val_ne_of_ne hj] using hf
  · exact .inr (ho e h)

theorem promises_coalesce {l : Line} {e : EndNo} (h : l.promises e) (i : Fin 8) : (l.modSlot i Frame.coalesce).promises e := by
  refine promises_set h i (x := l.slots[i].map Frame.coalesce) (fun _ => id) fun f hf hk => .inl ⟨f.coalesce, ?_, hk, rfl⟩
  rw [hf]
  rfl

/-- A frame that takes an empty slot takes no promise with it. -/
theorem promises_place {l : Line} {e : EndNo} (h : l.promises e) {i : Fin 8} (hi : l.slots[i] = none) (f : Frame) :
    (l.place i f).promises e :=
  promises_set h i (fun _ => id) fun g hg => by simp [hi] at hg

theorem promises_owe {l : Line} {e : EndNo} (h : l.promises e) (e' : EndNo) :
    ({ l with owed := l.owed.set e' true } : Line).promises e := by
  rcases h with h | h
  · exact .inl h
  · refine .inr ?_
    by_cases he : e' = e
    · simp [he]
    · simpa [Vector.getElem_set, Fin.val_ne_of_ne he] using h

theorem emptySlot_none {l : Line} {i : Fin 8} (h : l.emptySlot = some i) : l.slots[i] = none := by
  have := List.find?_some h
  simpa using this

theorem slotOf_some {l : Line} {k : FrameKind} {e : EndNo} {i : Fin 8} (h : l.slotOf k e = some i) :
    ∃ f, l.slots[i] = some f ∧ f.kind = k ∧ f.e = e := by
  have found := List.find?_some h
  dsimp only at found
  split at found
  · rename_i f hf
    exact ⟨f, hf, by simpa using found⟩
  · simp at found

/-! ### What keeps the contents of the sections and the promised STATUS frames -/

/-- From `s` to `t` the content indications stay, and no STATUS promised is taken back. -/
structure KeepsPromises (s t : State) : Prop where
  indication : ∀ c, t.indication c = s.indication c
  promised : ∀ e, s.statusPromised e → t.statusPromised e

theorem KeepsPromises.refl (s : State) : KeepsPromises s s := ⟨fun _ => rfl, fun _ => id⟩

theorem KeepsPromises.trans {s t u : State} (h : KeepsPromises s t) (h' : KeepsPromises t u) : KeepsPromises s u :=
  ⟨fun c => (h'.indication c).trans (h.indication c), fun e => h'.promised e ∘ h.promised e⟩

theorem indication_congr {s t : State} (hc : t.cfg = s.cfg) (hs : t.sects = s.sects) (c : SectNo) :
    t.indication c = s.indication c := by
  simp only [State.indication, hc, hs]

theorem cfg_of_base {s t : State} (h : t.base = s.base) : t.cfg = s.cfg := (State.sameFrame_of_base h).2.2.2.1

theorem keepsPromises_of {s t : State} (hb : t.base = s.base) (hs : t.sects = s.sects)
    (hl : ∀ e, s.line.promises e → t.line.promises e) : KeepsPromises s t :=
  ⟨indication_congr (cfg_of_base hb) hs, hl⟩

theorem keepsPromises_of_line {s t : State} (hb : t.base = s.base) (hs : t.sects = s.sects) (hl : t.line = s.line) :
    KeepsPromises s t := keepsPromises_of hb hs fun e h => by rwa [hl]

theorem foldl_keepsPromises {α : Type} (l : List α) (f : State → α → State) (h : ∀ s a, KeepsPromises s (f s a)) (s : State) :
    KeepsPromises s (l.foldl f s) := by
  induction l generalizing s with
  | nil => exact .refl s
  | cons a l ih => exact (h s a).trans (ih _)

theorem raiseStatus_keepsPromises (s : State) (e : EndNo) : KeepsPromises s (s.raiseStatus e) := by
  refine keepsPromises_of (by simp) (by simp) fun e' h => ?_
  unfold State.raiseStatus
  split
  · exact promises_coalesce h _
  · split
    · rename_i hi
      exact promises_place h (emptySlot_none hi) _
    · exact promises_owe h e

/-- A STATUS that is raised is promised. -/
theorem raiseStatus_promised (s : State) (e : EndNo) : (s.raiseStatus e).statusPromised e := by
  unfold State.raiseStatus
  split
  · rename_i i hi
    obtain ⟨f, hf⟩ := slotOf_some hi
    exact promises_coalesce (.inl ⟨i, f, hf⟩) i
  · split
    · rename_i i _
      exact .inl ⟨i, { kind := .status, e := e, dest := s.peerId e, seq := s.line.nextSeq }, by simp [Line.place], rfl, rfl⟩
    · exact .inr (by simp)

theorem reportEndChange_keepsPromises (s : State) (e : EndNo) (old : BlockState) (cause : Cause) :
    KeepsPromises s (s.reportEndChange e old cause) ∧ (s.reportEndChange e old cause).statusPromised e := by
  let u := (s.blockRecord e old cause 0).reportBlock e
  have before : KeepsPromises s u := keepsPromises_of_line (by simp [u]) (by simp [u]) (by simp [u])
  have after : KeepsPromises (u.raiseStatus e) (s.reportEndChange e old cause) := by
    refine keepsPromises_of_line ?_ ?_ ?_ <;> simp only [State.reportEndChange, u] <;> (repeat' split) <;> simp
  exact ⟨(before.trans (raiseStatus_keepsPromises u e)).trans after, after.promised e (raiseStatus_promised u e)⟩

theorem changeEnd_keepsPromises (s : State) (e : EndNo) (st : BlockState) (rel : Release) (cause : Cause) :
    KeepsPromises s (s.changeEnd e st rel cause) := by
  unfold State.changeEnd
  split
  · exact .refl s
  · exact .trans (keepsPromises_of_line (by simp) (by simp) (by simp)) (reportEndChange_keepsPromises ..).1

/-- A change of an end's state promises its STATUS (R111, R139). -/
theorem changeEnd_promised {s : State} {e : EndNo} {st : BlockState} (h : s.blocks[e].state ≠ st) (rel : Release) (cause : Cause) :
    (s.changeEnd e st rel cause).statusPromised e := by
  unfold State.changeEnd
  rw [if_neg fun e => h e.1]
  exact (reportEndChange_keepsPromises ..).2

/-! ### A train's entry (R148) -/

/-- An end as a train's entry leaves it. -/
def BlockEnd.entered (b : BlockEnd) : BlockEnd :=
  match b.state with
  | .clearOut | .cancelling => b.moved .occupiedOut .none
  | .clearIn => b.moved .occupiedIn b.release
  | _ => b

/-- Whether a train's entry moves an end. -/
def BlockEnd.admits (b : BlockEnd) : Prop := b.state = .clearOut ∨ b.state = .cancelling ∨ b.state = .clearIn

theorem BlockEnd.entered_out {b : BlockEnd} (h : b.state = .clearOut ∨ b.state = .cancelling) :
    b.entered.state = .occupiedOut ∧ b.entered.release = .none ∧ b.entered.cancelUntil = none := by
  have he : b.entered = b.moved .occupiedOut .none := by
    unfold BlockEnd.entered
    rcases h with h | h <;> rw [h]
  rw [he]
  exact ⟨BlockEnd.moved_state .., BlockEnd.moved_release .., BlockEnd.moved_cancelUntil (by rcases h with h | h <;> simp [h]) (by simp) _⟩

theorem BlockEnd.entered_in {b : BlockEnd} (h : b.state = .clearIn) : b.entered.state = .occupiedIn := by
  unfold BlockEnd.entered
  rw [h]
  exact BlockEnd.moved_state ..

theorem BlockEnd.entered_not {b : BlockEnd} (h : ¬b.admits) : b.entered = b := by
  unfold BlockEnd.admits at h
  unfold BlockEnd.entered
  split <;> simp_all

theorem trainEntry_self (s : State) (e : EndNo) : (s.trainEntry e).blocks[e] = s.blocks[e].entered := by
  unfold State.trainEntry BlockEnd.entered
  cases s.blocks[e].state with
  | clearOut => exact changeEnd_self ..
  | cancelling => exact changeEnd_self ..
  | clearIn => exact changeEnd_self ..
  | _ => rfl

theorem trainEntry_other (s : State) {e e' : EndNo} (h : e' ≠ e) : (s.trainEntry e).blocks[e'] = s.blocks[e'] := by
  unfold State.trainEntry
  split <;> first
    | exact changeEnd_other s h ..
    | rfl

theorem trainEntry_keepsPromises (s : State) (e : EndNo) : KeepsPromises s (s.trainEntry e) := by
  unfold State.trainEntry
  split <;> first
    | exact changeEnd_keepsPromises ..
    | exact .refl s

theorem trainEntry_promised {s : State} {e : EndNo} (h : s.blocks[e].admits) : (s.trainEntry e).statusPromised e := by
  unfold State.trainEntry
  rcases h with h | h | h <;> rw [h] <;> exact changeEnd_promised (fun e => by cases h.symm.trans e) ..

/-! ### A section's report (R69) -/

/-- Whether the report of a section, whose data were those of `s0`, is a train's entry at an end. -/
def State.entersAt (s s0 : State) (c : SectNo) (e : EndNo) : Prop :=
  s.sectEnd c = some e ∧ s0.indication c = .zero ∧ s.indication c = .nonzero

/-- What a section's report does before the end hears of it leaves the ends, the contents and the promises (R69). -/
theorem reportSect_eq (s s0 : State) (c : SectNo) : ∃ u : State, u.blocks = s.blocks ∧ KeepsPromises s u ∧
    s.reportSect s0 c = match s.sectEnd c with
      | some e => if s0.indication c = .zero ∧ s.indication c = .nonzero then u.trainEntry e else u
      | none => u := by
  refine ⟨_, ?_, ?_, rfl⟩
  · split
    · rfl
    · simp
  · split
    · exact .refl s
    · exact keepsPromises_of_line (by simp) (by simp) (by simp)

theorem reportSect_keepsPromises (s s0 : State) (c : SectNo) : KeepsPromises s (s.reportSect s0 c) := by
  obtain ⟨u, -, h, e⟩ := reportSect_eq s s0 c
  rw [e]
  split
  · split
    · exact h.trans (trainEntry_keepsPromises ..)
    · exact h
  · exact h

/-- From `s` to `t` a train's entry has moved an end and promised its STATUS, or it has stayed as it was. -/
structure EndAfter (s t : State) (e : EndNo) (entry : Prop) : Prop where
  entered : entry → t.blocks[e] = s.blocks[e].entered
  promised : entry → s.blocks[e].admits → t.statusPromised e
  stays : ¬entry → t.blocks[e] = s.blocks[e]

/-- The report of a section is a train's entry at its end, or moves no end (R69, R148). -/
theorem reportSect_endAfter (s s0 : State) (c : SectNo) (e : EndNo) : EndAfter s (s.reportSect s0 c) e (s.entersAt s0 c e) := by
  obtain ⟨u, hu, -, eq⟩ := reportSect_eq s s0 c
  have same (e : EndNo) : u.blocks[e] = s.blocks[e] := by rw [hu]
  have enters (h : s.entersAt s0 c e) : s.reportSect s0 c = u.trainEntry e := by
    rw [eq, h.1]
    exact if_pos h.2
  refine ⟨fun h => ?_, fun h ha => ?_, fun h => ?_⟩
  · rw [enters h, trainEntry_self, same]
  · rw [enters h]
    exact trainEntry_promised (by rwa [same])
  · rw [eq]
    split
    · rename_i e' he
      split
      · rename_i hi
        have hne : e ≠ e' := fun hee => h ⟨hee ▸ he, hi⟩
        rw [trainEntry_other u hne, same]
      · exact same e
    · exact same e

/-- What the obligations of a train's entry say of an end. -/
theorem EndAfter.clauses {s t : State} {e : EndNo} {entry : Prop} (h : EndAfter s t e entry) :
    (entry → s.blocks[e].state = .clearOut ∨ s.blocks[e].state = .cancelling →
      t.blocks[e].state = .occupiedOut ∧ t.blocks[e].release = .none ∧ t.blocks[e].cancelUntil = none ∧ t.statusPromised e) ∧
    (entry → s.blocks[e].state = .clearIn → t.blocks[e].state = .occupiedIn ∧ t.statusPromised e) ∧
    (¬entry ∨ ¬(s.blocks[e].state = .clearOut ∨ s.blocks[e].state = .cancelling ∨ s.blocks[e].state = .clearIn) →
      t.blocks[e] = s.blocks[e]) := by
  refine ⟨fun he hs => ?_, fun he hs => ?_, fun hn => ?_⟩
  · obtain ⟨state, release, until_⟩ := BlockEnd.entered_out hs
    have admits : s.blocks[e].admits := hs.imp_right .inl
    rw [h.entered he]
    exact ⟨state, release, until_, h.promised he admits⟩
  · rw [h.entered he]
    exact ⟨BlockEnd.entered_in hs, h.promised he (.inr (.inr hs))⟩
  · by_cases he : entry
    · rw [h.entered he]
      exact BlockEnd.entered_not (hn.resolve_left (not_not_intro he))
    · exact h.stays he

/-- What follows an entry without moving the end, or taking a promise back. -/
theorem EndAfter.then {s t u : State} {e : EndNo} {entry : Prop} (h : EndAfter s t e entry) (hk : KeepsPromises t u)
    (hb : u.blocks[e] = t.blocks[e]) : EndAfter s u e entry :=
  ⟨fun he => hb.trans (h.entered he), fun he ha => hk.promised e (h.promised he ha), fun he => hb.trans (h.stays he)⟩

/-- What comes before an entry, and leaves the end as it was. -/
theorem EndAfter.after {s t u : State} {e : EndNo} {entry : Prop} (h : EndAfter t u e entry) (hb : t.blocks[e] = s.blocks[e]) :
    EndAfter s u e entry := by
  constructor
  · rw [← hb]
    exact h.entered
  · rw [← hb]
    exact h.promised
  · rw [← hb]
    exact h.stays

/-! ### A head's sections, one after the other (R69) -/

theorem reportSect_sectEnd (s s0 : State) (c c' : SectNo) : (s.reportSect s0 c).sectEnd c' = s.sectEnd c' := by
  simp only [State.sectEnd, cfg_of_base (reportSect_base s s0 c)]

/-- Of the sections reported, one alone is of an end: the end is as that section's report leaves it. -/
theorem foldl_reportSect_endAfter (l : List SectNo) (hl : l.Nodup) (s s0 : State) {c : SectNo} {e : EndNo} (he : s.sectEnd c = some e)
    (unique : ∀ c' ∈ l, s.sectEnd c' = some e → c' = c) :
    EndAfter s (l.foldl (fun s c => s.reportSect s0 c) s) e (c ∈ l ∧ s0.indication c = .zero ∧ s.indication c = .nonzero) := by
  induction l generalizing s with
  | nil => exact ⟨fun h => absurd h.1 (by simp), fun h => absurd h.1 (by simp), fun _ => rfl⟩
  | cons c' l ih =>
    obtain ⟨hc', hl⟩ := List.nodup_cons.mp hl
    have first := reportSect_endAfter s s0 c' e
    have keeps := reportSect_keepsPromises s s0 c'
    have rest := ih hl (s.reportSect s0 c') ((reportSect_sectEnd ..).trans he)
      fun d hd h => unique d (List.mem_cons_of_mem _ hd) ((reportSect_sectEnd ..).symm.trans h)
    rw [keeps.indication] at rest
    rw [List.foldl_cons]
    by_cases h : c' = c
    · subst h
      have quiet := rest.stays fun h => hc' h.1
      have entry : (c' ∈ c' :: l ∧ s0.indication c' = .zero ∧ s.indication c' = .nonzero) ↔ s.entersAt s0 c' e :=
        and_congr_left fun _ => by simp [he]
      rw [propext entry]
      exact first.then (foldl_keepsPromises l _ (fun u d => reportSect_keepsPromises u s0 d) _) quiet
    · have other : ¬s.entersAt s0 c' e := fun ⟨h', _⟩ => h (unique c' List.mem_cons_self h')
      have := rest.after (first.stays other)
      simpa [Ne.symm h] using this

/-! ### Requests and the close of an event take no promise back (R110) -/

/-- A change of a section's data that does not touch its nets leaves every content. -/
theorem modSect_indication (s : State) (c c' : SectNo) {f : Sect → Sect}
    (hf : (f s.sects[c]).localNet = s.sects[c].localNet ∧ (f s.sects[c]).remote = s.sects[c].remote) :
    (s.modSect c f).indication c' = s.indication c' := by
  show indication s.cfg.sects[c'].type (upd s.sects c f)[c'] = indication s.cfg.sects[c'].type s.sects[c']
  by_cases h : c = c'
  · subst h
    rw [upd_self]
    unfold indication content
    rw [hf.1, hf.2]
  · rw [upd_ne _ _ h]

theorem modSect_keepsPromises (s : State) (c : SectNo) {f : Sect → Sect}
    (hf : (f s.sects[c]).localNet = s.sects[c].localNet ∧ (f s.sects[c]).remote = s.sects[c].remote) :
    KeepsPromises s (s.modSect c f) := ⟨fun c' => modSect_indication s c c' hf, fun _ => id⟩

theorem changeSect_keepsPromises (s : State) (c : SectNo) {f : Sect → Sect}
    (hf : (f s.sects[c]).localNet = s.sects[c].localNet ∧ (f s.sects[c]).remote = s.sects[c].remote) :
    KeepsPromises s (s.changeSect c f) := (modSect_keepsPromises s c hf).trans (reportSect_keepsPromises ..)

theorem resetRecord_keepsPromises (s s0 : State) (c : SectNo) (o : ResetOutcome) : KeepsPromises s (s.resetRecord s0 c o) :=
  keepsPromises_of_line (by simp) (by simp) (by simp)

theorem requestUndelivered_keepsPromises (s : State) (e : EndNo) (n : Nat) : KeepsPromises s (s.requestUndelivered e n) := by
  unfold State.requestUndelivered
  split
  · split
    · exact (modSect_keepsPromises s _ (f := fun x => { x with pending := none }) ⟨rfl, rfl⟩).trans (resetRecord_keepsPromises ..)
    · exact .refl s
  · exact .refl s

theorem confirmUndelivered_keepsPromises (s : State) (e : EndNo) (n : Nat) : KeepsPromises s (s.confirmUndelivered e n) := by
  unfold State.confirmUndelivered
  split
  · split
    · exact (changeSect_keepsPromises s _ (f := fun x => { x.disturb with confirming := none }) ⟨rfl, rfl⟩).trans
        (resetRecord_keepsPromises ..)
    · exact .refl s
  · exact .refl s

theorem reportEvicted_indication (s : State) (f : Frame) (c : SectNo) : (s.reportEvicted f).indication c = s.indication c := by
  unfold State.reportEvicted
  split
  case h_3 => exact (requestUndelivered_keepsPromises ..).indication c
  case h_4 => exact (confirmUndelivered_keepsPromises ..).indication c
  all_goals rfl

/-- A frame that takes the slot of an evicted one: an evicted STATUS is owed (R110, R112). -/
theorem promises_evict {l : Line} {e : EndNo} (h : l.promises e) {i : Fin 8} {f : Frame} (hf : l.slots[i] = some f) (g : Frame) :
    (if f.kind = .status then { (l.place i g) with owed := (l.place i g).owed.set f.e true } else l.place i g).promises e := by
  split
  · refine promises_set h i (fun e he => ?_) fun f' hf' _ => .inr ?_
    · by_cases hee : f.e = e
      · simp [Line.place, hee]
      · simpa [Line.place, Vector.getElem_set, Fin.val_ne_of_ne hee] using he
    · cases hf.symm.trans hf'
      simp [Line.place]
  · rename_i hk
    exact promises_set h i (fun _ => id) fun f' hf' hk' => by
      cases hf.symm.trans hf'
      exact absurd hk' hk

theorem request_keepsPromises (s : State) (k : FrameKind) (e : EndNo) (dest : Nat) (payload : List Byte) :
    KeepsPromises s (s.request k e dest payload) := by
  have line {f : Line → Line} (hf : ∀ e, s.line.promises e → (f s.line).promises e) : KeepsPromises s (s.modLine f) :=
    keepsPromises_of rfl rfl hf
  unfold State.request
  dsimp only
  split
  · exact line fun e h => promises_coalesce h _
  · split
    · rename_i hi
      exact line fun e h => promises_place h (emptySlot_none hi) _
    · split
      · split
        · rename_i i _ f hf
          refine ⟨fun c => ?_, fun e h => ?_⟩
          · rw [reportEvicted_indication]
            exact indication_congr (cfg_of_base (by simp)) (by simp) c
          · rw [statusPromised_iff, reportEvicted_line]
            simpa using promises_evict h hf _
        · exact .refl s
      · exact .refl s

theorem queueCount_keepsPromises (s : State) (c : SectNo) : KeepsPromises s (s.queueCount c) := by
  unfold State.queueCount
  split
  · split
    · exact .refl s
    · exact request_keepsPromises ..
  · exact .refl s

theorem sendAbandon_keepsPromises (s : State) (d : Direction) (e : EndNo) (wanted : Bool) :
    KeepsPromises s (s.sendAbandon d e wanted) := by
  unfold State.sendAbandon
  split
  · exact request_keepsPromises ..
  · exact .refl s

theorem settle_keepsPromises (s : State) : KeepsPromises s s.settle := by
  have switching (u : State) (f : Switching → Switching) : KeepsPromises u (u.modSwitching f) := keepsPromises_of_line rfl rfl rfl
  have recorded (u : State) (k : Concern) (d : Nat) (o : SwitchOutcome) (r : Option SwitchReason) (c : Option SwitchCause) :
      KeepsPromises u (u.switchRecord k d o r c) := keepsPromises_of_line (by simp) (by simp) (by simp)
  unfold State.settle State.abandon
  split
  · split
    · exact ((((switching s _).trans (sendAbandon_keepsPromises ..)).trans (sendAbandon_keepsPromises ..)).trans
        (switching _ _)).trans (recorded ..)
    · exact switching s _
  · exact .refl s

/-! ### HEAD_STEP at the part's own head (R61, R62, R64, R69) -/

/-- From `s` to `t` an end is as the entry into a section leaves it, where the section's content has become nonzero, and as it was where not. -/
def FollowsContent (s t : State) (c : SectNo) (e : EndNo) : Prop :=
  EndAfter s t e (s.indication c = .zero ∧ t.indication c = .nonzero)

/-- What follows without touching the contents, the end or its promised STATUS. -/
theorem FollowsContent.then {s t u : State} {c : SectNo} {e : EndNo} (h : FollowsContent s t c e) (hk : KeepsPromises t u)
    (hb : u.blocks[e] = t.blocks[e]) : FollowsContent s u c e := by
  unfold FollowsContent
  rw [hk.indication]
  exact EndAfter.then h hk hb

/-- What comes before without touching the contents or the end. -/
theorem FollowsContent.after {s t u : State} {c : SectNo} {e : EndNo} (h : FollowsContent t u c e)
    (hi : t.indication c = s.indication c) (hb : t.blocks[e] = s.blocks[e]) : FollowsContent s u c e := by
  unfold FollowsContent
  rw [← hi]
  exact EndAfter.after h hb

theorem FollowsContent.refl (s : State) (c : SectNo) (e : EndNo) : FollowsContent s s c e :=
  have never : ¬(s.indication c = .zero ∧ s.indication c = .nonzero) := fun ⟨h, h'⟩ => by cases h.symm.trans h'
  ⟨fun h => absurd h never, fun h => absurd h never, fun _ => rfl⟩

/-- The head bounds the section of the end, and no other section of that end. -/
structure State.OnlySection (s : State) (h : HeadNo) (c : SectNo) (e : EndNo) : Prop where
  bounds : s.cfg.sects[c].boundaryAt h ≠ none
  ofEnd : s.sectEnd c = some e
  unique : ∀ c', s.cfg.sects[c'].boundaryAt h ≠ none → s.sectEnd c' = some e → c' = c

theorem State.OnlySection.congr {s t : State} {h : HeadNo} {c : SectNo} {e : EndNo} (hs : s.OnlySection h c e) (hc : t.cfg = s.cfg) :
    t.OnlySection h c e := by
  obtain ⟨bounds, ofEnd, unique⟩ := hs
  unfold State.sectEnd at ofEnd unique
  constructor <;> simpa only [State.sectEnd, hc]

theorem mem_boundedBy (s : State) (h : HeadNo) (c : SectNo) : c ∈ s.boundedBy h ↔ s.cfg.sects[c].boundaryAt h ≠ none := by
  simp [State.boundedBy, State.bounds, Option.isSome_iff_ne_none]

theorem boundedBy_nodup (s : State) (h : HeadNo) : (s.boundedBy h).Nodup := (List.nodup_finRange 6).filter _

/-- The sections of a head move together and report: the end of one alone hears of its content. -/
theorem moveSects_followsContent {s : State} {h : HeadNo} {c : SectNo} {e : EndNo} (only : s.OnlySection h c e) (f : SectNo → Sect → Sect) :
    FollowsContent s ((s.moveSects h f).reportSects s h) c e := by
  have reported := foldl_reportSect_endAfter (s.boundedBy h) (boundedBy_nodup s h) (s.moveSects h f) s (c := c) (e := e) only.ofEnd
    fun c' hc => only.unique c' ((mem_boundedBy s h c').mp hc)
  have keeps : KeepsPromises (s.moveSects h f) ((s.moveSects h f).reportSects s h) :=
    foldl_keepsPromises _ _ (fun u d => reportSect_keepsPromises u s d) _
  simp only [(mem_boundedBy s h c).mpr only.bounds, true_and] at reported
  unfold FollowsContent
  rw [keeps.indication]
  exact reported.after rfl

theorem applyWheel_followsContent {s : State} {h : HeadNo} {c : SectNo} {e : EndNo} (only : s.OnlySection h c e) (up : Bool) :
    FollowsContent s (s.applyWheel h up) c e :=
  (moveSects_followsContent only _).then (foldl_keepsPromises _ _ queueCount_keepsPromises _)
    (congrArg (·[e]) (foldl_blocks _ _ queueCount_blocks _))

theorem takeStep_followsContent {s : State} {h : HeadNo} {c : SectNo} {e : EndNo} (only : s.OnlySection h c e) (old new : Pattern) :
    FollowsContent s (s.takeStep h old new) c e := by
  have stepped : (s.modHead h (Head.step old new)).OnlySection h c e := only.congr rfl
  unfold State.takeStep
  dsimp only
  split
  · exact (FollowsContent.refl (s.modHead h _) c e).after rfl rfl
  · exact (applyWheel_followsContent stepped _).after rfl rfl
  · rename_i entry _
    have recorded : ((s.modHead h (Head.step old new)).headErrorRecord h old new entry).OnlySection h c e := stepped.congr rfl
    exact (moveSects_followsContent recorded _).after rfl rfl
  · exact (moveSects_followsContent stepped _).after rfl rfl

theorem headStep_followsContent {s : State} {h : HeadNo} {c : SectNo} {e : EndNo} (only : s.OnlySection h c e) :
    FollowsContent s (s.headStep h) c e := by
  unfold State.headStep
  dsimp only
  split
  · split
    · exact (takeStep_followsContent (s := s.modHead h _) (only.congr rfl) _ _).after rfl rfl
    · exact (FollowsContent.refl (s.modHead h _) c e).after rfl rfl
  · exact .refl s c e

/-! ### What the scanner and the axle counting unit report to the block controller -/

/-- A change of a section that is an entry at its end, or moves no end at all (R69, R148). -/
theorem changeSect_endAfter {s : State} {c : SectNo} {e : EndNo} (f : Sect → Sect) (he : s.sectEnd c = some e) :
    EndAfter s (s.changeSect c f) e (s.indication c = .zero ∧ (s.modSect c f).indication c = .nonzero) ∧
      ∀ e', e' ≠ e → (s.changeSect c f).blocks[e'] = s.blocks[e'] := by
  have reported (e' : EndNo) := reportSect_endAfter (s.modSect c f) s c e'
  have here : (s.modSect c f).entersAt s c e ↔ s.indication c = .zero ∧ (s.modSect c f).indication c = .nonzero := and_iff_right he
  refine ⟨?_, fun e' hne => (reported e').stays fun ⟨he', _⟩ => hne (Option.some.inj (he'.symm.trans he))⟩
  rw [← here]
  exact (reported e).after rfl

/-- Settles O11: the starter's reports give the release its new value; a change of content is handed to the end as a train's entry or as nothing,
and nothing that follows it in the event takes back the STATUS it promised. -/
theorem reportsMoveTheEnd : Obligations.ReportsMoveTheEnd := by
  intro s e
  refine ⟨fun i _ ha due role => ⟨fun old new => ⟨_, rfl, provingContactChange_left ha due role old new⟩,
    fun old new => ⟨_, rfl, provingContactChange_returned ha due role old new⟩⟩, fun c f he => ?_, fun h c _ _ _ bounds he unique => ?_⟩
  · obtain ⟨here, others⟩ := changeSect_endAfter f he
    obtain ⟨out, in_, still⟩ := here.clauses
    refine ⟨out, in_, fun hn => Vector.ext fun k hk => ?_⟩
    by_cases hke : (⟨k, hk⟩ : EndNo) = e
    · subst hke
      exact still hn
    · exact others ⟨k, hk⟩ hke
  · have followed : FollowsContent s (s.headStep h).settle c e :=
      (headStep_followsContent ⟨bounds, he, unique⟩).then (settle_keepsPromises _) (congrArg (·[e]) (settle_blocks _))
    exact ⟨_, rfl, followed.clauses⟩

end Sys2Proof.Machine
end

section
/-! PROOFS. One channel of the track circuit unit (R40 to R48): what the completion of a cycle, a sample and the expiry of the minimum-occupied
timer make of it, and the arithmetic of a cycle, O20. -/

namespace Sys2Proof.Machine

/-! ### The completion of a cycle (R40 to R48) -/

theorem differential_le {son : Nat} (h : son ≤ 1023) (soff : Nat) : differential son soff ≤ 1023 := by
  unfold differential
  omega

theorem differential_eq (son soff : Nat) : differential son soff = if soff < son then son - soff else 0 := by
  unfold differential
  split
  · rfl
  · omega

theorem filtered_le {f d : Nat} (hf : f ≤ 1023) (hd : d ≤ 1023) : filtered f d ≤ 1023 := by
  unfold filtered
  omega

theorem drops_iff (r : ChannelRecord) (son soff : Nat) :
    r.drops son soff = true ↔ differential son soff < r.tDrop ∨ r.strayLimit < soff := by
  simp [ChannelRecord.drops, ChannelRecord.interferes]

theorem p_pos (r : ChannelRecord) : 0 < r.p := by
  unfold ChannelRecord.p
  split <;> omega

theorem clears_iff (r : ChannelRecord) (clear : Bool) (count : Nat) (expired : Bool) :
    r.clears clear count expired = true ↔ clear = true ∨ (r.p ≤ count ∧ expired = true) := by
  simp [ChannelRecord.clears]

/-- What the completion of a cycle makes of a channel `x` (R38, R40 to R48): what every cycle keeps, what a drop cycle does (R43, R44), and what any
other does (R45 to R48). -/
structure CycleCompleted (r : ChannelRecord) (now : Time) (son soff : Nat) (x y : Channel) : Prop where
  pendingOn : y.pendingOn = none
  lastOn : y.lastOn = son
  lastOff : y.lastOff = soff
  lastD : y.lastD = differential son soff
  f : y.f = filtered x.f (differential son soff)
  interference : y.interference = r.interferes soff
  drop : r.drops son soff = true → y.count = 0 ∧ y.clear = false ∧ y.marginLow = false ∧ y.minUntil = r.startMin now
  kept : ¬r.drops son soff = true →
    y.count = (if r.tPick ≤ y.f then min 15 (x.count + 1) else 0) ∧ y.minUntil = x.minUntil ∧
      (y.clear = true ↔ x.clear = true ∨ (r.p ≤ y.count ∧ x.minUntil = none)) ∧
      (y.marginLow = true ↔ y.clear = true ∧ y.f < r.tWarn)

theorem complete_completed (r : ChannelRecord) (now : Time) (son soff : Nat) (x : Channel) :
    CycleCompleted r now son soff x (x.complete r now son soff) := by
  unfold Channel.complete
  dsimp only
  split
  · rename_i h
    exact ⟨rfl, rfl, rfl, rfl, rfl, rfl, fun _ => ⟨rfl, rfl, rfl, rfl⟩, absurd h⟩
  · rename_i h
    refine ⟨rfl, rfl, rfl, rfl, rfl, rfl, (absurd · h), fun _ => ⟨rfl, rfl, ?_, ?_⟩⟩
    · simp [clears_iff]
    · simp

theorem complete_sense (r : ChannelRecord) (now : Time) (son soff : Nat) (x : Channel) :
    (x.complete r now son soff).sense = x.sense := by
  unfold Channel.complete
  dsimp only
  split <;> rfl

/-- A sound channel stays sound through a cycle: a drop cycle makes it OCCUPIED with its count at 0, and one that becomes CLEAR has no
minimum-occupied timer running. -/
theorem complete_ok {x : Channel} (hx : ChannelOk x) (r : ChannelRecord) (now : Time) {son soff : Nat} (hon : son ≤ 1023)
    (hoff : soff ≤ 1023) : ChannelOk (x.complete r now son soff) := by
  obtain ⟨f, -, -, -, -, -, timer, -, -⟩ := hx
  obtain ⟨pendingOn', lastOn', lastOff', lastD', f', interference', drop, kept⟩ := complete_completed r now son soff x
  have d := differential_le hon soff
  unfold ChannelOk
  rw [pendingOn', lastOn', lastOff', lastD', f', interference']
  refine ⟨filtered_le f d, ?_⟩
  by_cases h : r.drops son soff = true
  · obtain ⟨count, clear, margin, -⟩ := drop h
    simp [count, clear, margin, hon, hoff, d]
  · obtain ⟨count', timer', clear', margin'⟩ := kept h
    refine ⟨?_, hon, hoff, d, Nat.zero_le _, fun c => ?_, fun m => (margin'.mp m).1, fun i => ?_⟩
    · rw [count']
      split <;> omega
    · rw [timer']
      exact (clear'.mp c).elim timer And.right
    · exact absurd ((drops_iff ..).mpr (.inr (of_decide_eq_true i))) h

/-- Settles O20. -/
theorem cycleArithmetic : Obligations.CycleArithmetic := by
  refine ⟨fun c => by simp [State.reset], fun r now son soff x hon hoff hf => ?_⟩
  obtain ⟨-, lastOn, lastOff, lastD, f, -, -, kept⟩ := complete_completed r now son soff x
  have d := differential_le hon soff
  refine ⟨lastOn, lastOff, lastD ▸ d, ?_, ?_, by rw [f, lastD]; rfl, f ▸ filtered_le hf d, ?_, ?_⟩
  · rw [lastD]
    exact fun h => Nat.sub_add_cancel h.le
  · rw [lastD]
    exact Nat.sub_eq_zero_of_le
  · rw [lastD, f]
    intro hf hd
    rw [hf, hd]
    rfl
  · rw [lastD]
    intro hd hs
    obtain ⟨count, -, -, margin⟩ := kept (by rw [drops_iff]; omega)
    exact ⟨count, margin⟩

/-! ### Samples and the minimum-occupied timer (R38, R46) -/

/-- A channel as the boundary that ends a half-period leaves it, but for its feed (R38): the end of an on half, and the end of an off half with
and without a pending S_on. -/
def Channel.sampled (r : ChannelRecord) (number : Nat) (now : Time) (x : Channel) : Channel :=
  if r.enabled = false then x
  else if r.feedOn number then { x with pendingOn := some x.sense.val }
  else match x.pendingOn with
    | some son => x.complete r now son x.sense.val
    | none => x

theorem sampled_disabled {r : ChannelRecord} (h : r.enabled = false) (number : Nat) (now : Time) (x : Channel) :
    x.sampled r number now = x := if_pos h

theorem sampled_on {r : ChannelRecord} {number : Nat} (h : r.feedOn number = true) (now : Time) (x : Channel) :
    x.sampled r number now = { x with pendingOn := some x.sense.val } := by
  have he : r.enabled = true := (Bool.and_eq_true_iff.mp h).1
  simp [Channel.sampled, he, h]

theorem sampled_off {r : ChannelRecord} {number : Nat} (he : r.enabled = true) (h : r.feedOn number = false) (now : Time) {x : Channel}
    (hx : x.pendingOn = none) : x.sampled r number now = x := by
  simp [Channel.sampled, he, h, hx]

theorem sampled_complete {r : ChannelRecord} {number : Nat} (he : r.enabled = true) (h : r.feedOn number = false) (now : Time)
    {x : Channel} {son : Nat} (hx : x.pendingOn = some son) : x.sampled r number now = x.complete r now son x.sense.val := by
  simp [Channel.sampled, he, h, hx]

theorem sampled_sense (r : ChannelRecord) (number : Nat) (now : Time) (x : Channel) : (x.sampled r number now).sense = x.sense := by
  unfold Channel.sampled
  repeat' split
  case h_1 => exact complete_sense ..
  all_goals rfl

/-- The feed of an enabled channel is on in one half of its cycle (R37): odd-numbered half-periods are the first halves. -/
theorem feedOn_eq (r : ChannelRecord) (number : Nat) :
    r.feedOn number = (r.enabled && decide (number % 2 = if r.phase = 0 then 1 else 0)) := by
  unfold ChannelRecord.feedOn
  split <;> rfl

theorem sampled_ok {x : Channel} (hx : ChannelOk x) (r : ChannelRecord) (number : Nat) (now : Time) :
    ChannelOk (x.sampled r number now) := by
  have sense : x.sense.val ≤ 1023 := by omega
  obtain ⟨f, count, lastOn, lastOff, lastD, pendingOn, flags⟩ := hx
  unfold Channel.sampled
  split
  · exact ⟨f, count, lastOn, lastOff, lastD, pendingOn, flags⟩
  · split
    · exact ⟨f, count, lastOn, lastOff, lastD, sense, flags⟩
    · split
      · rename_i son hs
        rw [hs] at pendingOn
        exact complete_ok ⟨f, count, lastOn, lastOff, lastD, by rwa [hs], flags⟩ r now pendingOn sense
      · exact ⟨f, count, lastOn, lastOff, lastD, pendingOn, flags⟩

theorem expire_eq (r : ChannelRecord) (x : Channel) :
    x.expire r = { x with
      minUntil := none, clear := x.clear || decide (r.p ≤ x.count)
      marginLow := if x.clear then x.marginLow else decide (r.p ≤ x.count) && decide (x.f < r.tWarn) } := by
  unfold Channel.expire ChannelRecord.clears
  cases x.clear <;> simp

/-- A sound channel stays sound through the expiry of its timer: one under interference has a count of 0, below P, and stays OCCUPIED. -/
theorem expire_ok {x : Channel} (hx : ChannelOk x) (r : ChannelRecord) : ChannelOk (x.expire r) := by
  obtain ⟨f, count, lastOn, lastOff, lastD, pendingOn, -, margin, interference⟩ := hx
  rw [expire_eq]
  refine ⟨f, count, lastOn, lastOff, lastD, pendingOn, fun _ => rfl, ?_, fun h => ?_⟩
  · show (if x.clear then _ else _) = true → (x.clear || _) = true
    cases x.clear <;> simp_all
  · obtain ⟨occupied, zero⟩ := interference h
    refine ⟨?_, zero⟩
    show (x.clear || decide (r.p ≤ x.count)) = false
    simp [occupied, zero, (p_pos r).ne']

end Sys2Proof.Machine
end

section
/-! PROOFS. What the reports of an event can record, and what the combiner holds of the channels meanwhile: no report and no close of an event
appends a record of the track circuits, or has the combiner hold another state of a channel (R56, R84). -/

namespace Sys2Proof.Machine

/-- Whether a record is of a kind that reports and the close of an event append (R80, R89, R110, R161, R176, R193). -/
def EventKind.ofReport : EventKind → Bool
  | .detectionChanged | .countStateChanged | .countReset | .blockStateChanged | .frameUndelivered | .switching => true
  | _ => false

/-- From `s` to `t` there have been reports alone: the records are theirs, and what the combiner holds of the channels stands. -/
structure Reported (s t : State) : Prop where
  records : ∃ l, Recorded s t l ∧ ∀ r ∈ l, r.kind.ofReport = true
  clear : t.combiner.channelClear = s.combiner.channelClear
  interference : t.combiner.interference = s.combiner.interference

theorem reported_of_eq {s t : State} (hp : t.port = s.port) (hc : t.combiner.channelClear = s.combiner.channelClear)
    (hi : t.combiner.interference = s.combiner.interference) : Reported s t := ⟨⟨[], recorded_refl hp, by simp⟩, hc, hi⟩

theorem reported_of_combiner {s t : State} (hp : t.port = s.port) (hc : t.combiner = s.combiner) : Reported s t :=
  reported_of_eq hp (by rw [hc]) (by rw [hc])

theorem Reported.refl (s : State) : Reported s s := reported_of_combiner rfl rfl

theorem Reported.trans {s t u : State} (h : Reported s t) (h' : Reported t u) : Reported s u := by
  obtain ⟨l, hl, kl⟩ := h.records
  obtain ⟨m, hm, km⟩ := h'.records
  exact ⟨⟨l ++ m, recorded_trans hl hm, fun r hr => (List.mem_append.mp hr).elim (kl r) (km r)⟩, h'.clear.trans h.clear,
    h'.interference.trans h.interference⟩

theorem foldl_reported {α : Type} (l : List α) (f : State → α → State) (h : ∀ s a, Reported s (f s a)) (s : State) :
    Reported s (l.foldl f s) := by
  induction l generalizing s with
  | nil => exact .refl s
  | cons a l ih => exact (h s a).trans (ih _)

theorem append_reported (s : State) {r : Event} (h : r.kind.ofReport = true) : Reported s (s.append r) :=
  ⟨⟨_, append_recorded s r, by simpa using h⟩, by rw [append_combiner], by rw [append_combiner]⟩

/-! ### The combiner, the block ends and the sections -/

theorem reportDetection_reported (s : State) (d : DetNo) : Reported s (s.reportDetection d) :=
  reported_of_combiner (by simp) (by simp)

theorem judgeDetection_reported (s : State) (d : DetNo) : Reported s (s.judgeDetection d) := by
  have judged : Reported s (s.modCombiner fun b => { b with sects := b.sects.set d (b.judged s.cfg.detections[d]) }) :=
    reported_of_eq rfl rfl rfl
  unfold State.judgeDetection
  dsimp only
  split
  · exact judged
  · refine (judged.trans ?_).trans (reportDetection_reported _ d)
    exact append_reported _ rfl

theorem judgeDetections_reported (s : State) (names : DetRecord → Bool) : Reported s (s.judgeDetections names) :=
  foldl_reported _ _ (fun u d => by
    split
    · exact judgeDetection_reported u d
    · exact .refl u) s

theorem reportCountToCombiner_reported (s : State) (c : SectNo) : Reported s (s.reportCountToCombiner c) :=
  .trans (t := s.modCombiner fun b => { b with count := b.count.set c (s.sectState c) }) (reported_of_eq rfl rfl rfl)
    (judgeDetections_reported _ _)

theorem reportEndChange_reported (s : State) (e : EndNo) (old : BlockState) (cause : Cause) :
    Reported s (s.reportEndChange e old cause) := by
  have record : Reported s (s.blockRecord e old cause 0) := append_reported s rfl
  refine record.trans (reported_of_combiner ?_ ?_) <;> simp only [State.reportEndChange] <;> (repeat' split) <;> simp

theorem changeEnd_reported (s : State) (e : EndNo) (st : BlockState) (rel : Release) (cause : Cause) :
    Reported s (s.changeEnd e st rel cause) := by
  unfold State.changeEnd
  split
  · exact .refl s
  · exact .trans (t := s.modBlock e (·.moved st rel)) (reported_of_combiner rfl rfl) (reportEndChange_reported ..)

theorem trainEntry_reported (s : State) (e : EndNo) : Reported s (s.trainEntry e) := by
  unfold State.trainEntry
  split
  case h_4 => exact .refl s
  all_goals exact changeEnd_reported ..

theorem reportSect_reported (s s0 : State) (c : SectNo) : Reported s (s.reportSect s0 c) := by
  have changed (p : Prop) [Decidable p] (r : Event) (h : r.kind.ofReport = true) :
      Reported s (if p then s else ((s.append r).reportCountToCombiner c).reportCount c) := by
    split
    · exact .refl s
    · exact ((append_reported s h).trans (reportCountToCombiner_reported _ c)).trans (reported_of_combiner (by simp) (by simp))
  unfold State.reportSect
  dsimp only
  split
  · split
    · exact (changed _ _ rfl).trans (trainEntry_reported ..)
    · exact changed _ _ rfl
  · exact changed _ _ rfl

/-! ### Requests and the close of an event (R110, R165, R170) -/

theorem modSect_reported (s : State) (c : SectNo) (f : Sect → Sect) : Reported s (s.modSect c f) := reported_of_combiner rfl rfl

theorem modLine_reported (s : State) (f : Line → Line) : Reported s (s.modLine f) := reported_of_combiner rfl rfl

theorem modSwitching_reported (s : State) (f : Switching → Switching) : Reported s (s.modSwitching f) := reported_of_combiner rfl rfl

theorem resetRecord_reported (s s0 : State) (c : SectNo) (o : ResetOutcome) : Reported s (s.resetRecord s0 c o) :=
  append_reported s rfl

theorem requestUndelivered_reported (s : State) (e : EndNo) (n : Nat) : Reported s (s.requestUndelivered e n) := by
  unfold State.requestUndelivered
  split
  · split
    · exact (modSect_reported s _ _).trans (resetRecord_reported ..)
    · exact .refl s
  · exact .refl s

theorem confirmUndelivered_reported (s : State) (e : EndNo) (n : Nat) : Reported s (s.confirmUndelivered e n) := by
  unfold State.confirmUndelivered State.changeSect
  split
  · split
    · exact ((modSect_reported s _ _).trans (reportSect_reported ..)).trans (resetRecord_reported ..)
    · exact .refl s
  · exact .refl s

theorem reportEvicted_reported (s : State) (f : Frame) : Reported s (s.reportEvicted f) := by
  unfold State.reportEvicted
  split
  case h_3 => exact requestUndelivered_reported ..
  case h_4 => exact confirmUndelivered_reported ..
  all_goals exact reported_of_combiner rfl rfl

theorem request_reported (s : State) (k : FrameKind) (e : EndNo) (dest : Nat) (payload : List Byte) :
    Reported s (s.request k e dest payload) := by
  unfold State.request
  dsimp only
  split
  · exact modLine_reported ..
  · split
    · exact modLine_reported ..
    · split
      · split
        · exact ((append_reported s rfl).trans (modLine_reported _ _)).trans (reportEvicted_reported ..)
        · exact .refl s
      · exact .refl s

theorem sendAbandon_reported (s : State) (d : Direction) (e : EndNo) (wanted : Bool) : Reported s (s.sendAbandon d e wanted) := by
  unfold State.sendAbandon
  split
  · exact request_reported ..
  · exact .refl s

theorem switchRecord_reported (s : State) (k : Concern) (d : Nat) (o : SwitchOutcome) (r : Option SwitchReason)
    (c : Option SwitchCause) : Reported s (s.switchRecord k d o r c) := by
  unfold State.switchRecord
  cases k with
  | one e party => exact append_reported s rfl
  | both =>
    have counted : Reported s { s with freeCount := s.freeCount + 1 } := reported_of_combiner rfl rfl
    exact counted.trans (append_reported _ rfl)

theorem settle_reported (s : State) : Reported s s.settle := by
  unfold State.settle State.abandon
  split
  · split
    · exact ((((modSwitching_reported s _).trans (sendAbandon_reported ..)).trans (sendAbandon_reported ..)).trans
        (modSwitching_reported _ _)).trans (switchRecord_reported ..)
    · exact modSwitching_reported s _
  · exact .refl s

end Sys2Proof.Machine
end

section
/-! PROOFS. A channel that takes new data (R50, R51, R56) and the two rows that bring it about: HALF_PERIOD_BOUNDARY, O21 and O22, and
MIN_OCCUPIED_EXPIRY, O23. -/

namespace Sys2Proof.Machine

/-! ### The records of the track circuits (R48, R50, R56) -/

/-- Whether a record is of a kind that the track circuit unit appends (R56). -/
def EventKind.ofTrack (k : EventKind) : Bool := decide (k = .trackInterference) || decide (k = .trackMarginLow)

theorem ofTrack_of_ofReport {k : EventKind} (h : k.ofReport = true) : k.ofTrack = false := by
  revert h
  cases k <;> decide

/-- The record of a channel that has gone from `old` to `new`, where that begins a run of interference (R50, R56). -/
def interferenceRecords (time : Nat) (c : ChannelNo) (old new : Channel) : List Event :=
  if new.interference && !old.interference then
    [{ time := time, kind := .trackInterference, subject := c.val + 1, old := bit old.clear, new := bit new.clear
       d1 := hi new.lastOff, d2 := lo new.lastOff, d3 := hi new.lastOn, d4 := lo new.lastOn }]
  else []

/-- The record of a channel that has gone from `old` to `new`, where that sets its MARGIN_LOW flag (R48, R56). -/
def marginRecords (time tWarn : Nat) (c : ChannelNo) (old new : Channel) : List Event :=
  if new.marginLow && !old.marginLow then
    [{ time := time, kind := .trackMarginLow, subject := c.val + 1, old := bit (!old.clear), new := 1
       d1 := hi new.f, d2 := lo new.f, d3 := hi tWarn, d4 := lo tWarn }]
  else []

/-- The records of a channel that has gone from `old` to `new` (R56). -/
def channelRecords (time : Nat) (r : ChannelRecord) (c : ChannelNo) (old new : Channel) : List Event :=
  interferenceRecords time c old new ++ marginRecords time r.tWarn c old new

theorem recordInterference_recorded (s : State) (c : ChannelNo) (old : Channel) :
    Recorded s (s.recordInterference c old) (interferenceRecords s.partTime c old s.track.channels[c]) := by
  unfold State.recordInterference interferenceRecords
  dsimp only
  split
  · exact append_recorded ..
  · exact recorded_refl rfl

theorem recordMargin_recorded (s : State) (c : ChannelNo) (old : Channel) :
    Recorded s (s.recordMargin c old) (marginRecords s.partTime s.cfg.channels[c].tWarn c old s.track.channels[c]) := by
  unfold State.recordMargin marginRecords
  dsimp only
  split
  · exact append_recorded ..
  · exact recorded_refl rfl

theorem ofTrack_of_mem_channelRecords {time : Nat} {r : ChannelRecord} {c : ChannelNo} {old new : Channel} {e : Event}
    (h : e ∈ channelRecords time r c old new) : e.kind.ofTrack = true ∧ e.subject = c.val + 1 := by
  unfold channelRecords interferenceRecords marginRecords at h
  rcases List.mem_append.mp h with h | h
  all_goals
    split at h
    · rw [List.mem_singleton.mp h]
      exact ⟨rfl, rfl⟩
    · cases h

/-- From `s` to `t` records have arrived, and those of them that are of the track circuits are `l`. -/
def TrackRecorded (s t : State) (l : List Event) : Prop := ∃ m, Recorded s t m ∧ m.filter (·.kind.ofTrack) = l

theorem trackRecorded_of_port {s t : State} (h : t.port = s.port) : TrackRecorded s t [] := ⟨[], recorded_refl h, rfl⟩

theorem TrackRecorded.trans {s t u : State} {l m : List Event} (h : TrackRecorded s t l) (h' : TrackRecorded t u m) :
    TrackRecorded s u (l ++ m) := by
  obtain ⟨a, ha, rfl⟩ := h
  obtain ⟨b, hb, rfl⟩ := h'
  exact ⟨a ++ b, recorded_trans ha hb, List.filter_append ..⟩

/-- Reports, which are no records of the track circuits. -/
theorem Reported.trackRecorded {s t : State} (h : Reported s t) : TrackRecorded s t [] := by
  obtain ⟨l, hl, kinds⟩ := h.records
  exact ⟨l, hl, List.filter_eq_nil_iff.mpr fun r hr => by simp [ofTrack_of_ofReport (kinds r hr)]⟩

theorem TrackRecorded.then {s t u : State} {l : List Event} (h : TrackRecorded s t l) (h' : Reported t u) : TrackRecorded s u l := by
  simpa using h.trans h'.trackRecorded

/-! ### A channel takes new data (R51) -/

/-- From `s` to `t` the channels have become those given, and nothing else of what the blocks share has changed. -/
structure ChannelsBecome (s t : State) (f : ChannelNo → Channel) : Prop where
  frame : s.sameFrame t
  levers : t.levers = s.levers
  heads : t.heads = s.heads
  feedTimer : t.track.feedTimer = s.track.feedTimer
  channels : ∀ c : ChannelNo, t.track.channels[c] = f c

theorem partTime_of_now {s t : State} (h : t.now = s.now) : t.partTime = s.partTime := congrArg (wrap32 <| unitsAt ·) h

theorem sameFrame_trans {s t u : State} (h : s.sameFrame t) (h' : t.sameFrame u) : s.sameFrame u := by
  obtain ⟨now, underReset, loader, cfg, pending⟩ := h
  obtain ⟨now', underReset', loader', cfg', pending'⟩ := h'
  exact ⟨now'.trans now, underReset'.trans underReset, loader'.trans loader, cfg'.trans cfg, pending'.trans pending⟩

theorem ChannelsBecome.trans {s t u : State} {f g : ChannelNo → Channel} (h : ChannelsBecome s t f) (h' : ChannelsBecome t u g) :
    ChannelsBecome s u g :=
  ⟨sameFrame_trans h.frame h'.frame, h'.levers.trans h.levers, h'.heads.trans h.heads, h'.feedTimer.trans h.feedTimer, h'.channels⟩

theorem channelsBecome_of_base {s t : State} (h : t.base = s.base) : ChannelsBecome s t fun c => s.track.channels[c] := by
  obtain ⟨-, -, -, -, levers, track, heads, -⟩ := State.base_eq h
  exact ⟨State.sameFrame_of_base h, levers, heads, by rw [track], fun c => by rw [track]⟩

theorem ChannelsBecome.then {s t u : State} {f : ChannelNo → Channel} (h : ChannelsBecome s t f) (h' : u.base = t.base) :
    ChannelsBecome s u f := by
  have same := channelsBecome_of_base h'
  obtain ⟨frame, levers, heads, feedTimer, -⟩ := h.trans same
  exact ⟨frame, levers, heads, feedTimer, fun c => (same.channels c).trans (h.channels c)⟩

theorem modTrack_becomes (s : State) (f : Vector Channel 12 → Vector Channel 12) :
    ChannelsBecome s (s.modTrack fun t => { t with channels := f t.channels }) fun c => (f s.track.channels)[c] :=
  ⟨⟨rfl, rfl, rfl, rfl, rfl⟩, rfl, rfl, rfl, fun _ => rfl⟩

/-- A change of a channel is told by what it makes of the channel as it stands. -/
theorem changeChannel_congr (s : State) (c : ChannelNo) {f g : Channel → Channel} (h : f s.track.channels[c] = g s.track.channels[c]) :
    s.changeChannel c f = s.changeChannel c g := by
  have same : upd s.track.channels c f = upd s.track.channels c g := congrArg (s.track.channels.set c ·) h
  unfold State.changeChannel
  simp only [State.modTrack, same, h]

theorem recordInterference_same (s : State) (c : ChannelNo) : s.recordInterference c s.track.channels[c] = s := by
  simp [State.recordInterference]

theorem recordMargin_same (s : State) (c : ChannelNo) : s.recordMargin c s.track.channels[c] = s := by
  simp [State.recordMargin]

/-- A change that makes nothing new of the channel is none. -/
theorem changeChannel_same (s : State) (c : ChannelNo) {f : Channel → Channel} (h : f s.track.channels[c] = s.track.channels[c]) :
    s.changeChannel c f = s := by
  unfold State.changeChannel
  simp only [State.modTrack, upd_same _ _ _ h, h]
  rw [recordInterference_same, recordMargin_same, if_pos ⟨trivial, trivial⟩]

theorem changeChannel_becomes (s : State) (c : ChannelNo) (f : Channel → Channel) :
    ChannelsBecome s (s.changeChannel c f) fun c' => if c = c' then f s.track.channels[c'] else s.track.channels[c'] := by
  have taken : ChannelsBecome s (s.modTrack fun t => { t with channels := upd t.channels c f })
      fun c' => if c = c' then f s.track.channels[c'] else s.track.channels[c'] := by
    obtain ⟨frame, levers, heads, feedTimer, channels⟩ := modTrack_becomes s fun v => upd v c f
    refine ⟨frame, levers, heads, feedTimer, fun c' => (channels c').trans ?_⟩
    simp [Fin.ext_iff]
  refine taken.then ?_
  unfold State.changeChannel
  dsimp only
  split <;> simp

theorem reportChannel_clear (s : State) (c : ChannelNo) :
    (s.reportChannel c).combiner.channelClear[c] = s.track.channels[c].clear := by
  unfold State.reportChannel
  rw [(judgeDetections_reported _ _).clear]
  simp

theorem reportChannel_trackRecorded (s : State) (c : ChannelNo) : TrackRecorded s (s.reportChannel c) [] :=
  (trackRecorded_of_port rfl : TrackRecorded s (s.modCombiner _) []).then (judgeDetections_reported _ _)

/-- The records and the report of a channel that has gone from `old` to `new` in `s`, which stand after its change. -/
theorem changeChannel_trackRecorded (s : State) (c : ChannelNo) (f : Channel → Channel) :
    TrackRecorded s (s.changeChannel c f)
      (channelRecords s.partTime s.cfg.channels[c] c s.track.channels[c] (f s.track.channels[c])) := by
  let s1 := s.modTrack fun t => { t with channels := upd t.channels c f }
  have self : s1.track.channels[c] = f s.track.channels[c] := upd_self ..
  have interference := recordInterference_recorded s1 c s.track.channels[c]
  obtain ⟨now, -, -, cfg, -, track, -⟩ := State.base_eq (recordInterference_base s1 c s.track.channels[c])
  have margin := recordMargin_recorded (s1.recordInterference c s.track.channels[c]) c s.track.channels[c]
  rw [partTime_of_now now, cfg, track, self] at margin
  rw [self] at interference
  have recorded : TrackRecorded s ((s1.recordInterference c s.track.channels[c]).recordMargin c s.track.channels[c])
      (channelRecords s.partTime s.cfg.channels[c] c s.track.channels[c] (f s.track.channels[c])) :=
    ⟨_, recorded_trans interference margin, List.filter_eq_self.mpr fun e he => (ofTrack_of_mem_channelRecords he).1⟩
  unfold State.changeChannel
  dsimp only
  split
  · exact recorded
  · simpa using recorded.trans (reportChannel_trackRecorded _ c)

/-- The combiner holds the new state of a channel whose state has changed (R51, R84). -/
theorem changeChannel_held (s : State) (c : ChannelNo) {f : Channel → Channel}
    (h : (f s.track.channels[c]).clear ≠ s.track.channels[c].clear) :
    (s.changeChannel c f).combiner.channelClear[c] = (f s.track.channels[c]).clear := by
  have self := (changeChannel_becomes s c f).channels c
  rw [if_pos rfl] at self
  unfold State.changeChannel at self ⊢
  dsimp only at self ⊢
  rw [if_neg fun e => h e.1] at self ⊢
  obtain ⟨-, -, -, -, -, track, -⟩ := State.base_eq (reportChannel_base _ c)
  rw [reportChannel_clear, ← self, track]

/-! ### The samples of a boundary (R38) -/

/-- A channel's part in a boundary is its change to the sampled channel. -/
theorem sampleChannel_eq (s : State) (number : Nat) (c : ChannelNo) :
    s.sampleChannel number c = s.changeChannel c (Channel.sampled s.cfg.channels[c] number s.now) := by
  unfold State.sampleChannel
  dsimp only
  split
  · rename_i h
    exact (changeChannel_same s c (sampled_disabled (by simpa using h) ..)).symm
  · rename_i he
    have he : s.cfg.channels[c].enabled = true := by simpa using he
    split
    · rename_i h
      exact changeChannel_congr s c (sampled_on h ..).symm
    · rename_i h
      have h : s.cfg.channels[c].feedOn number = false := by simpa using h
      split
      · rename_i hp
        exact changeChannel_congr s c (sampled_complete he h _ hp).symm
      · rename_i hp
        exact (changeChannel_same s c (sampled_off he h _ hp)).symm

/-- The channel that the sample of a boundary makes of a channel as it stands. -/
def State.sampledChannel (s : State) (number : Nat) (c : ChannelNo) : Channel :=
  s.track.channels[c].sampled s.cfg.channels[c] number s.now

/-- The records that the sample of a boundary makes of a channel as it stands. -/
def State.sampledRecords (s : State) (number : Nat) (c : ChannelNo) : List Event :=
  channelRecords s.partTime s.cfg.channels[c] c s.track.channels[c] (s.sampledChannel number c)

/-- The samples of some channels change those channels, each from what it was, and their records are those of each in turn. -/
theorem foldl_sampleChannel (number : Nat) (cs : List ChannelNo) (hc : cs.Nodup) (s : State) :
    let t := cs.foldl (State.sampleChannel number) s
    (ChannelsBecome s t fun c => if c ∈ cs then s.sampledChannel number c else s.track.channels[c]) ∧
      TrackRecorded s t (cs.flatMap (s.sampledRecords number)) := by
  induction cs generalizing s with
  | nil => exact ⟨channelsBecome_of_base rfl, trackRecorded_of_port rfl⟩
  | cons a cs ih =>
    obtain ⟨ha, hc⟩ := List.nodup_cons.mp hc
    have first := changeChannel_becomes s a (Channel.sampled s.cfg.channels[a] number s.now)
    have records := changeChannel_trackRecorded s a (Channel.sampled s.cfg.channels[a] number s.now)
    rw [← sampleChannel_eq] at first records
    obtain ⟨rest, restRecords⟩ := ih hc (s.sampleChannel number a)
    obtain ⟨now, -, -, cfg, -⟩ := first.frame
    have other {c : ChannelNo} (h : a ≠ c) : (s.sampleChannel number a).track.channels[c] = s.track.channels[c] := by
      rw [first.channels, if_neg h]
    refine ⟨?_, ?_⟩
    · obtain ⟨frame, levers, heads, feedTimer, -⟩ := first.trans rest
      refine ⟨frame, levers, heads, feedTimer, fun c => (rest.channels c).trans ?_⟩
      by_cases h : a = c
      · subst h
        rw [if_neg ha, if_pos List.mem_cons_self, first.channels, if_pos rfl]
        rfl
      · simp only [State.sampledChannel, other h, cfg, now, List.mem_cons, Ne.symm h, false_or]
    · have same : cs.flatMap ((s.sampleChannel number a).sampledRecords number) = cs.flatMap (s.sampledRecords number) := by
        refine List.flatMap_congr fun c hcs => ?_
        have h : a ≠ c := fun e => ha (e ▸ hcs)
        simp only [State.sampledRecords, State.sampledChannel, other h, cfg, now, partTime_of_now now]
      rw [same] at restRecords
      exact records.trans restRecords

/-! ### HALF_PERIOD_BOUNDARY (R36 to R38, R40 to R48, R52) -/

/-- A channel as the boundary that ends a half-period finds it: its sense input has taken a value. -/
def State.sensed (s : State) (sense : Vector Sense 12) (c : ChannelNo) : Channel := { s.track.channels[c] with sense := sense[c] }

/-- A channel as the boundary that ends half-period `number` leaves it: sampled, and with the next half-period's feed. -/
def State.afterBoundary (s : State) (sense : Vector Sense 12) (number : Nat) (c : ChannelNo) : Channel :=
  { (s.sensed sense c).sampled s.cfg.channels[c] number s.now with feed := s.cfg.channels[c].feedOn (number + 1) }

theorem takeSense_becomes (s : State) (sense : Vector Sense 12) : ChannelsBecome s (s.takeSense sense) (s.sensed sense) := by
  obtain ⟨frame, levers, heads, feedTimer, channels⟩ :=
    modTrack_becomes s fun v => Vector.ofFn fun c => { v[c] with sense := sense[c] }
  exact ⟨frame, levers, heads, feedTimer, fun c => (channels c).trans (by simp [State.sensed])⟩

theorem driveFeeds_becomes (s : State) (number : Nat) :
    ChannelsBecome s (s.driveFeeds number) fun c => { s.track.channels[c] with feed := s.cfg.channels[c].feedOn number } := by
  obtain ⟨frame, levers, heads, feedTimer, channels⟩ :=
    modTrack_becomes s fun v => Vector.ofFn fun c => { v[c] with feed := s.cfg.channels[c].feedOn number }
  exact ⟨frame, levers, heads, feedTimer, fun c => (channels c).trans (by simp)⟩

/-- HALF_PERIOD_BOUNDARY: the next half-period, and every channel sampled and fed. -/
structure BoundaryTaken (s t : State) (sense : Vector Sense 12) (ft : FeedTimer) : Prop where
  frame : s.sameFrame t
  levers : t.levers = s.levers
  heads : t.heads = s.heads
  feedTimer : t.track.feedTimer = some { number := ft.number + 1, until_ := ft.until_ + units s.cfg.halfUnits }
  channels : ∀ c : ChannelNo, t.track.channels[c] = s.afterBoundary sense ft.number c
  records : TrackRecorded s t ((List.finRange 12).flatMap fun c =>
    channelRecords s.partTime s.cfg.channels[c] c s.track.channels[c] (s.afterBoundary sense ft.number c))

theorem BoundaryTaken.settle {s t : State} {sense : Vector Sense 12} {ft : FeedTimer} (h : BoundaryTaken s t sense ft) :
    BoundaryTaken s t.settle sense ft := by
  obtain ⟨frame, levers, heads, feedTimer, channels, records⟩ := h
  obtain ⟨-, -, -, -, levers', track, heads', -⟩ := State.base_eq (settle_base t)
  exact ⟨sameFrame_trans frame (State.sameFrame_of_base (settle_base t)), levers'.trans levers, heads'.trans heads,
    by rw [track, feedTimer], fun c => by rw [track, channels], records.then (settle_reported t)⟩

theorem sampledChannel_takeSense (s : State) (sense : Vector Sense 12) (number : Nat) (c : ChannelNo) :
    (s.takeSense sense).sampledChannel number c = (s.sensed sense c).sampled s.cfg.channels[c] number s.now := by
  unfold State.sampledChannel
  rw [(takeSense_becomes s sense).channels]
  rfl

/-- A sample's records look neither at the sense value nor at the feed. -/
theorem sampledRecords_takeSense (s : State) (sense : Vector Sense 12) (number : Nat) (c : ChannelNo) :
    (s.takeSense sense).sampledRecords number c =
      channelRecords s.partTime s.cfg.channels[c] c s.track.channels[c] (s.afterBoundary sense number c) := by
  unfold State.sampledRecords
  rw [sampledChannel_takeSense, (takeSense_becomes s sense).channels]
  rfl

/-- The feeds and the feed timer follow the samples of a boundary. -/
theorem boundaryTaken_of_samples {s u : State} {sense : Vector Sense 12} {ft : FeedTimer}
    (samples : ChannelsBecome s u fun c => (s.sensed sense c).sampled s.cfg.channels[c] ft.number s.now)
    (records : TrackRecorded s u ((List.finRange 12).flatMap fun c =>
      channelRecords s.partTime s.cfg.channels[c] c s.track.channels[c] (s.afterBoundary sense ft.number c))) :
    BoundaryTaken s ((u.driveFeeds (ft.number + 1)).modTrack fun x =>
      { x with feedTimer := some { number := ft.number + 1, until_ := ft.until_ + units s.cfg.halfUnits } }) sense ft := by
  have fed := driveFeeds_becomes u (ft.number + 1)
  obtain ⟨-, -, -, cfg, -⟩ := samples.frame
  obtain ⟨frame, levers, heads, -, -⟩ := samples.trans fed
  refine ⟨frame, levers, heads, rfl, fun c => (fed.channels c).trans ?_, records⟩
  rw [samples.channels, cfg]
  rfl

theorem halfPeriodBoundary_taken {s : State} {ft : FeedTimer} (h : s.boundaryDue = some ft) (sense : Vector Sense 12) :
    BoundaryTaken s (s.halfPeriodBoundary sense) sense ft := by
  obtain ⟨samples, records⟩ := foldl_sampleChannel ft.number _ (List.nodup_finRange 12) (s.takeSense sense)
  simp only [List.mem_finRange, if_true, sampledChannel_takeSense] at samples
  rw [List.flatMap_congr fun c _ => sampledRecords_takeSense s sense ft.number c] at records
  unfold State.halfPeriodBoundary
  rw [h]
  exact boundaryTaken_of_samples ((takeSense_becomes s sense).trans samples) records

/-- Settles O21. -/
theorem boundarySamplesAndFeeds : Obligations.BoundarySamplesAndFeeds := by
  intro s sense ft _ h
  obtain ⟨frame, levers, heads, feedTimer, channels, -⟩ := (halfPeriodBoundary_taken h sense).settle
  refine ⟨_, rfl, frame, levers, heads, feedTimer, fun c => ?_⟩
  dsimp only
  rw [channels, ← feedOn_eq, ← feedOn_eq]
  unfold State.afterBoundary
  refine ⟨rfl, sampled_sense .., fun he => ?_, fun _ on => ?_, fun he off idle => ?_⟩
  · rw [sampled_disabled he, feedOn_eq, he]
    rfl
  · rw [sampled_on on]
    rfl
  · rw [sampled_off he off _ (show (s.sensed sense c).pendingOn = none from idle)]
    rfl

/-! ### The records of one channel -/

theorem filter_interference (time : Nat) (r : ChannelRecord) (c : ChannelNo) (old new : Channel) :
    ((channelRecords time r c old new).filter fun e => decide (e.kind = .trackInterference) && decide (e.subject = c.val + 1)) =
      interferenceRecords time c old new := by
  unfold channelRecords interferenceRecords marginRecords
  rw [List.filter_append]
  split <;> split <;> simp

theorem filter_margin (time : Nat) (r : ChannelRecord) (c : ChannelNo) (old new : Channel) :
    ((channelRecords time r c old new).filter fun e => decide (e.kind = .trackMarginLow) && decide (e.subject = c.val + 1)) =
      marginRecords time r.tWarn c old new := by
  unfold channelRecords interferenceRecords marginRecords
  rw [List.filter_append]
  split <;> split <;> simp

/-- Of the records of all channels in turn, those of one channel are that channel's. -/
theorem flatMap_filter_channel {g : ChannelNo → List Event} (hg : ∀ c, ∀ e ∈ g c, e.subject = c.val + 1) {c : ChannelNo}
    {p : Event → Bool} (hp : ∀ e, p e = true → e.subject = c.val + 1) (cs : List ChannelNo) (hc : cs.Nodup) :
    (cs.flatMap g).filter p = if c ∈ cs then (g c).filter p else [] := by
  induction cs with
  | nil => rfl
  | cons a cs ih =>
    obtain ⟨ha, hc⟩ := List.nodup_cons.mp hc
    rw [List.flatMap_cons, List.filter_append, ih hc]
    by_cases h : c = a
    · subst h
      simp [ha]
    · have others : (g a).filter p = [] := List.filter_eq_nil_iff.mpr fun e he hpe =>
        h (Fin.ext (Nat.succ.inj ((hp e hpe).symm.trans (hg a e he))))
      simp [others, h]

/-- The records of a boundary that are of one channel. -/
theorem BoundaryTaken.recordsOf {s t : State} {sense : Vector Sense 12} {ft : FeedTimer} (h : BoundaryTaken s t sense ft)
    (c : ChannelNo) : ∃ l, Recorded s t l ∧
      (l.filter fun e => decide (e.kind = .trackInterference) && decide (e.subject = c.val + 1)) =
        interferenceRecords s.partTime c s.track.channels[c] t.track.channels[c] ∧
      (l.filter fun e => decide (e.kind = .trackMarginLow) && decide (e.subject = c.val + 1)) =
        marginRecords s.partTime s.cfg.channels[c].tWarn c s.track.channels[c] t.track.channels[c] := by
  obtain ⟨l, hl, kinds⟩ := h.records
  have of_channel (p : Event → Bool) (hp : ∀ e, p e = true → e.kind.ofTrack = true ∧ e.subject = c.val + 1) :
      l.filter p = (channelRecords s.partTime s.cfg.channels[c] c s.track.channels[c] t.track.channels[c]).filter p := by
    have track : l.filter p = (l.filter (·.kind.ofTrack)).filter p := by
      rw [List.filter_filter]
      refine List.filter_congr fun e _ => ?_
      cases hpe : p e
      · rfl
      · exact (hp e hpe).1.symm
    rw [track, kinds, flatMap_filter_channel (fun c e he => (ofTrack_of_mem_channelRecords he).2) (fun e he => (hp e he).2) _
      (List.nodup_finRange 12), if_pos (List.mem_finRange c), h.channels]
  refine ⟨l, hl, ?_, ?_⟩
  · rw [of_channel _ fun e he => ?_, filter_interference]
    simp_all [EventKind.ofTrack]
  · rw [of_channel _ fun e he => ?_, filter_margin]
    simp_all [EventKind.ofTrack]

/-- A cycle under interference is a drop cycle, so that its record shows the channel OCCUPIED. -/
theorem interferenceRecords_of_cycle {r : ChannelRecord} {now : Time} {son soff : Nat} {x y : Channel}
    (h : CycleCompleted r now son soff x y) (time : Nat) (c : ChannelNo) :
    interferenceRecords time c x y =
      if r.strayLimit < soff ∧ x.interference = false then
        [{ time := time, kind := .trackInterference, subject := c.val + 1, old := bit x.clear, new := 0
           d1 := hi soff, d2 := lo soff, d3 := hi son, d4 := lo son }]
      else [] := by
  unfold interferenceRecords
  rw [h.interference, h.lastOn, h.lastOff]
  by_cases hs : r.strayLimit < soff
  · obtain ⟨-, clear, -⟩ := h.drop ((drops_iff ..).mpr (.inr hs))
    simp [ChannelRecord.interferes, hs, clear, bit]
  · simp [ChannelRecord.interferes, hs]

/-- Settles O22. -/
theorem cycleCompletes : Obligations.CycleCompletes := by
  intro s sense ft c son _ h he off pending
  have taken := (halfPeriodBoundary_taken h sense).settle
  refine ⟨_, rfl, ?_⟩
  generalize (s.halfPeriodBoundary sense).settle = t at taken
  obtain ⟨l, hl, interferences, margins⟩ := taken.recordsOf c
  have feed : s.cfg.channels[c].feedOn ft.number = false := by
    rw [feedOn_eq, he, Bool.true_and, decide_eq_false off]
  have completed : CycleCompleted s.cfg.channels[c] s.now son sense[c].val s.track.channels[c] t.track.channels[c] := by
    obtain ⟨pendingOn, lastOn, lastOff, lastD, f, interference, drop, kept⟩ :=
      complete_completed s.cfg.channels[c] s.now son sense[c].val (s.sensed sense c)
    rw [taken.channels]
    unfold State.afterBoundary
    rw [sampled_complete he feed _ (show (s.sensed sense c).pendingOn = some son from pending)]
    exact ⟨pendingOn, lastOn, lastOff, lastD, f, interference, drop, kept⟩
  rw [interferenceRecords_of_cycle completed] at interferences
  obtain ⟨pendingOn, lastOn, lastOff, lastD, f, interference, drop, kept⟩ := completed
  rw [f] at kept
  dsimp only
  rw [← differential_eq, ← drops_iff]
  refine ⟨pendingOn, lastOn, lastOff, lastD, f, interference, drop, kept, l, hl, interferences, margins.trans ?_⟩
  unfold marginRecords
  simp only [f, Bool.and_eq_true, Bool.not_eq_true']
  rfl

/-! ### MIN_OCCUPIED_EXPIRY (R46, R48, R51) -/

theorem minOccupiedExpiry_due {s : State} {c : ChannelNo} (h : s.minOccupiedDue c = true) :
    s.minOccupiedExpiry c = s.changeChannel c (Channel.expire s.cfg.channels[c]) := if_pos h

/-- The expiry of the timer begins no run of interference, and its MARGIN_LOW record shows a channel that has just become CLEAR. -/
theorem channelRecords_expire (time : Nat) (r : ChannelRecord) (c : ChannelNo) (x : Channel) :
    channelRecords time r c x (x.expire r) =
      if x.clear = false ∧ r.p ≤ x.count ∧ x.f < r.tWarn ∧ x.marginLow = false then
        [{ time := time, kind := .trackMarginLow, subject := c.val + 1, old := 1, new := 1
           d1 := hi x.f, d2 := lo x.f, d3 := hi r.tWarn, d4 := lo r.tWarn }]
      else [] := by
  have interference : interferenceRecords time c x (x.expire r) = [] := by
    rw [expire_eq]
    simp [interferenceRecords]
  unfold channelRecords
  rw [interference, List.nil_append, marginRecords, expire_eq]
  cases x.clear <;> simp [and_assoc, bit]

/-- Settles O23. -/
theorem minOccupiedExpiryMayClear : Obligations.MinOccupiedExpiryMayClear := by
  intro s c _ h
  refine ⟨_, rfl, ?_⟩
  rw [minOccupiedExpiry_due h]
  have changed := changeChannel_becomes s c (Channel.expire s.cfg.channels[c])
  have records := changeChannel_trackRecorded s c (Channel.expire s.cfg.channels[c])
  have held := changeChannel_held s c (f := Channel.expire s.cfg.channels[c])
  generalize s.changeChannel c (Channel.expire s.cfg.channels[c]) = u at changed records held
  obtain ⟨frame, levers, heads, feedTimer, channels⟩ := changed.then (settle_base u)
  rw [channelRecords_expire] at records
  refine ⟨frame, levers, heads, feedTimer, fun c' h => ?_, ?_, fun occupied reached => ?_, records.then (settle_reported u)⟩
  · rw [channels, if_neg h.symm]
  · rw [channels, if_pos rfl, expire_eq]
  · have clear : (Channel.expire s.cfg.channels[c] s.track.channels[c]).clear = true := by
      rw [expire_eq]
      exact Bool.or_eq_true_iff.mpr (.inr (decide_eq_true reached))
    rw [(settle_reported u).clear, held (by rw [clear, occupied]; decide), clear]

end Sys2Proof.Machine
end

section
/-! PROOFS. The law of the channels (R41 to R48, R53): the rows that change no channel and end no RUNNING, the entry into RUNNING, and the two
rows of the track circuit unit, and O19, that every step keeps it. -/

namespace Sys2Proof.Machine

/-! ### What changes no channel -/

/-- From `s` to `t` the track circuit unit has not changed, and the part is active if it was. -/
structure KeepsTrack (s t : State) : Prop where
  track : t.track = s.track
  active : s.active = true → t.active = true

/-- A channel of a part that has become active may be CLEAR; one of a part that was not active is OCCUPIED. -/
theorem KeepsTrack.law {s t : State} (h : KeepsTrack s t) (hs : ChannelLaw s) : ChannelLaw t := fun c => by
  obtain ⟨ok, occupied⟩ := hs c
  rw [h.track]
  refine ⟨ok, fun ht => occupied ?_⟩
  cases hs' : s.active
  · rfl
  · rw [h.active hs'] at ht
    cases ht

theorem KeepsTrack.refl (s : State) : KeepsTrack s s := ⟨rfl, id⟩

theorem KeepsTrack.trans {s t u : State} (h : KeepsTrack s t) (h' : KeepsTrack t u) : KeepsTrack s u :=
  ⟨h'.track.trans h.track, h'.active ∘ h.active⟩

theorem active_congr {s t : State} (hu : t.underReset = s.underReset) (hl : t.loader = s.loader) : t.active = s.active := by
  simp only [State.active, hu, hl]

theorem keepsTrack_of_eq {s t : State} (ht : t.track = s.track) (hu : t.underReset = s.underReset) (hl : t.loader = s.loader) :
    KeepsTrack s t := ⟨ht, fun h => (active_congr hu hl).trans h⟩

theorem keepsTrack_of_base {s t : State} (h : t.base = s.base) : KeepsTrack s t := by
  obtain ⟨-, hu, hl, -, -, ht, -⟩ := State.base_eq h
  exact keepsTrack_of_eq ht hu hl

theorem keepsTrack_of_inactive {s t : State} (h : s.active = false) (ht : t.track = s.track) : KeepsTrack s t :=
  ⟨ht, fun h' => by rw [h] at h'; cases h'⟩

theorem KeepsTrack.then {s t u : State} (h : KeepsTrack s t) (h' : u.base = t.base) : KeepsTrack s u :=
  h.trans (keepsTrack_of_base h')

theorem KeepsTrack.after {s t u : State} (h : KeepsTrack t u) (h' : t.base = s.base) : KeepsTrack s u :=
  (keepsTrack_of_base h').trans h

theorem foldl_keepsTrack {α : Type} (l : List α) (f : State → α → State) (h : ∀ s a, KeepsTrack s (f s a)) (s : State) :
    KeepsTrack s (l.foldl f s) := by
  induction l generalizing s with
  | nil => exact .refl s
  | cons a l ih => exact (h s a).trans (ih _)

theorem modLever_keepsTrack (s : State) (i : LeverNo) (f : Lever → Lever) : KeepsTrack s (s.modLever i f) :=
  keepsTrack_of_eq rfl rfl rfl

theorem modHead_keepsTrack (s : State) (h : HeadNo) (f : Head → Head) : KeepsTrack s (s.modHead h f) :=
  keepsTrack_of_eq rfl rfl rfl

/-! ### The part state (R169, R173, R179) -/

theorem setPartState_keepsTrack (s : State) {p : PartState} (hp : p.active = true) : KeepsTrack s (s.setPartState p) := by
  refine ⟨rfl, fun h => ?_⟩
  have out : s.underReset = false := by simp_all [State.active]
  show (!s.underReset && p.active) = true
  rw [out, hp]
  rfl

theorem enterOut_keepsTrack (s : State) (o : SwitchOutcome) (k : Concern) : KeepsTrack s (s.enterOut o k) :=
  (setPartState_keepsTrack s rfl).then (enterOut_base s o k)

theorem returnIn_keepsTrack (s : State) (o : SwitchOutcome) (k : Concern) : KeepsTrack s (s.returnIn o k) :=
  (setPartState_keepsTrack s rfl).then (returnIn_base s o k)

theorem completeCommit_keepsTrack (s : State) (d : Direction) : KeepsTrack s (s.completeCommit d) := by
  cases d
  · exact enterOut_keepsTrack ..
  · exact returnIn_keepsTrack ..

theorem commitDelivered_keepsTrack (s : State) (n : Nat) : KeepsTrack s (s.commitDelivered n) := by
  have mark (f : Switching → Switching) : KeepsTrack s (s.modSwitching f) := keepsTrack_of_base rfl
  unfold State.commitDelivered
  dsimp only
  split
  · split
    · split
      · exact (mark _).trans (completeCommit_keepsTrack ..)
      · exact mark _
    · exact mark _
  · exact .refl s

theorem overhearOut_keepsTrack (s : State) (f : RxFrame) (delivered : Bool) : KeepsTrack s (s.overhearOut f delivered) := by
  unfold State.overhearOut
  split
  · split
    · exact returnIn_keepsTrack ..
    · exact keepsTrack_of_base (by simp)
  · exact keepsTrack_of_base (by simp)

theorem overhearAtStart_keepsTrack (s : State) (f : RxFrame) : KeepsTrack s (s.overhearAtStart f) := by
  unfold State.overhearAtStart
  split
  · split
    · exact enterOut_keepsTrack ..
    · split
      · exact enterOut_keepsTrack ..
      · exact .refl s
  · exact .refl s

theorem overhear_keepsTrack (s : State) (f : RxFrame) (delivered : Bool) : KeepsTrack s (s.overhear f delivered) := by
  have revert : KeepsTrack s (s.revertFarDirect f) := keepsTrack_of_base (by simp)
  unfold State.overhear State.statusOverheard
  dsimp only
  split
  · split
    · split
      · exact revert.trans (overhearAtStart_keepsTrack ..)
      · exact revert
      · exact revert.trans (overhearOut_keepsTrack ..)
      · exact revert.then (by simp)
    · exact revert
  · exact keepsTrack_of_base (by simp)

theorem reportDelivered_keepsTrack (s : State) (f : Frame) : KeepsTrack s (s.reportDelivered f) := by
  unfold State.reportDelivered
  split
  case h_6 => exact commitDelivered_keepsTrack ..
  all_goals exact keepsTrack_of_base (by simp)

theorem attemptEnd_keepsTrack (s : State) (slot : Option Byte) : KeepsTrack s (s.attemptEnd slot) := by
  have reported (u : State) (g : Line → Line) (f : Frame) : KeepsTrack u ((u.modLine g).reportDelivered f) :=
    (reportDelivered_keepsTrack _ f).after (modLine_base u g)
  have delivered (u : State) (i : Fin 8) (f : Frame) : KeepsTrack u (u.deliverAttempt i f) := by
    unfold State.deliverAttempt
    split
    · exact reported ..
    · exact (reported u (·.clearSlot i) f).then (by simp)
  unfold State.attemptEnd
  split
  · split
    · dsimp only
      split
      · exact (delivered _ _ _).after (modLine_base s _)
      · exact keepsTrack_of_base (by simp)
    · exact .refl s
  · exact .refl s

theorem frameTaking_keepsTrack (s : State) : KeepsTrack s s.frameTaking := by
  have ended : KeepsTrack s (s.modLine fun l => l.endFrame s.now) := keepsTrack_of_base rfl
  have taken (u : State) (f : RxFrame) : KeepsTrack u (u.take f) :=
    .trans (t := ((u.modLine fun l => { l with framesTaken := countUp l.framesTaken }).hear f |>.deliverMapped f).1)
      (keepsTrack_of_base (by simp)) (overhear_keepsTrack ..)
  unfold State.frameTaking
  split
  · split
    · dsimp only
      split
      · exact ended.then (by simp)
      · exact ended.trans (taken _ _)
    · exact ended
    · exact .refl s
    · exact .refl s
  · exact .refl s

/-! ### Levers and heads -/

theorem driveLever_keepsTrack (s : State) (i : LeverNo) : KeepsTrack s (s.driveLever i) := modLever_keepsTrack ..

theorem readbackMismatchExpiry_keepsTrack (s : State) (i : LeverNo) : KeepsTrack s (s.readbackMismatchExpiry i) := by
  unfold State.readbackMismatchExpiry
  split
  · exact (modLever_keepsTrack _ i _).after (by simp)
  · exact .refl s

theorem lockDecisionArrival_keepsTrack (s : State) (i : LeverNo) (k : EntryKind) : KeepsTrack s (s.lockDecisionArrival i k) := by
  unfold State.lockDecisionArrival
  split
  · exact ((modLever_keepsTrack _ i _).trans (driveLever_keepsTrack _ i)).after (by simp)
  · exact .refl s

theorem changePosition_keepsTrack (s : State) (i : LeverNo) (p : Position) (cause : FaultCause) :
    KeepsTrack s (s.changePosition i p cause) := (modLever_keepsTrack s i _).then (changePosition_base s i p cause)

theorem transitLimitExpiry_keepsTrack (s : State) (i : LeverNo) : KeepsTrack s (s.transitLimitExpiry i) := by
  unfold State.transitLimitExpiry
  split
  · exact changePosition_keepsTrack ..
  · exact .refl s

theorem provingContactChange_keepsTrack (s : State) (i : LeverNo) : KeepsTrack s (s.provingContactChange i) := by
  have withdrawal (u : State) : KeepsTrack u (u.takeWithdrawal i) := by
    unfold State.takeWithdrawal
    split
    · exact foldl_keepsTrack _ _ (fun u _ => lockDecisionArrival_keepsTrack u i _) u
    · exact .refl u
  have meet (u : State) (p : Position) : KeepsTrack u (u.meetPosition i p) := by
    unfold State.meetPosition
    dsimp only
    split
    · exact .refl u
    · split
      · exact .refl u
      · exact (withdrawal u).trans (changePosition_keepsTrack ..)
  have contacts : KeepsTrack s (s.settleContacts i) := modLever_keepsTrack s i _
  unfold State.provingContactChange
  split
  · dsimp only
    split
    · exact contacts.trans (meet _ _)
    · exact contacts
  · exact .refl s

theorem headStep_keepsTrack (s : State) (h : HeadNo) : KeepsTrack s (s.headStep h) := by
  have step (u : State) (old new : Pattern) : KeepsTrack u (u.takeStep h old new) := by
    have head : KeepsTrack u (u.modHead h (Head.step old new)) := modHead_keepsTrack ..
    unfold State.takeStep
    dsimp only
    split
    · exact head
    · exact head.then (by simp)
    · exact head.then (by simp [State.headErrorRecord])
    · exact head.then (by simp)
  unfold State.headStep
  dsimp only
  split
  · split
    · exact (modHead_keepsTrack ..).trans (step ..)
    · exact modHead_keepsTrack ..
  · exact .refl s

theorem rawInputChange_keepsTrack (s : State) (x : FieldInput) (level : Bool) : KeepsTrack s (s.rawInputChange x level) := by
  cases x <;> exact keepsTrack_of_eq rfl rfl rfl

/-! ### The loader (R178 to R186) -/

theorem inactive_of_reading {s : State} (h : s.reading = true) : s.active = false := by
  simp only [State.reading, Bool.and_eq_true, decide_eq_true_eq] at h
  simp [State.active, h.2, PartState.active]

theorem endOfReset_keepsTrack (s : State) : KeepsTrack s s.endOfReset := by
  unfold State.endOfReset
  split
  · rename_i h
    exact keepsTrack_of_inactive (by simp [State.active, h]) rfl
  · exact .refl s

theorem readAttemptFailed_keepsTrack (s : State) : KeepsTrack s s.readAttemptFailed := by
  unfold State.readAttemptFailed
  split
  · rename_i h
    dsimp only
    split
    all_goals exact keepsTrack_of_inactive (inactive_of_reading h.1) rfl
  · exact .refl s

theorem readRetryExpiry_keepsTrack (s : State) : KeepsTrack s s.readRetryExpiry := by
  unfold State.readRetryExpiry
  split
  · exact ⟨rfl, id⟩
  · exact .refl s

theorem headerReadComplete_keepsTrack (s : State) (header : List Byte) : KeepsTrack s (s.headerReadComplete header) := by
  unfold State.headerReadComplete
  split
  · rename_i h
    split
    all_goals exact keepsTrack_of_inactive (inactive_of_reading h.1) rfl
  · exact .refl s

/-! ### The entry into RUNNING (R36, R54, R186) -/

/-- Every channel is sound and OCCUPIED, as the law has it of a part that is not active. -/
def AllOccupied (s : State) : Prop := ∀ c : ChannelNo, ChannelOk s.track.channels[c] ∧ s.track.channels[c].clear = false

theorem allOccupied_of_inactive {s : State} (h : ChannelLaw s) (hi : s.active = false) : AllOccupied s :=
  fun c => ⟨(h c).1, (h c).2 hi⟩

theorem AllOccupied.law {s : State} (h : AllOccupied s) : ChannelLaw s := fun c => ⟨(h c).1, fun _ => (h c).2⟩

theorem AllOccupied.congr {s t : State} (h : AllOccupied s) (ht : t.track = s.track) : AllOccupied t := fun c => by
  rw [ht]
  exact h c

/-- An OCCUPIED channel stays sound whatever its timer and its feed. -/
theorem ChannelOk.withTimer {x : Channel} (h : ChannelOk x) (occupied : x.clear = false) (timer : Option Time) (feed : Bool) :
    ChannelOk { x with minUntil := timer, feed := feed } := by
  obtain ⟨f, count, lastOn, lastOff, lastD, pendingOn, -, flags⟩ := h
  exact ⟨f, count, lastOn, lastOff, lastD, pendingOn, fun h => absurd (occupied.symm.trans h) (by decide), flags⟩

/-- The start of the track circuit unit gives every channel its feed, and the enabled ones a running timer (R36, R54). -/
theorem startTrack_channel (s : State) (c : ChannelNo) :
    s.startTrack.track.channels[c] = { s.track.channels[c] with
      minUntil := if s.cfg.channels[c].enabled then s.cfg.channels[c].startMin s.now else s.track.channels[c].minUntil
      feed := s.cfg.channels[c].feedOn 1 } := by
  unfold State.startTrack
  refine ((driveFeeds_becomes _ 1).channels c).trans ?_
  simp only [State.modTrack_track, State.modTrack_cfg, Fin.getElem_fin, Vector.getElem_ofFn]
  cases h : s.cfg.channels[c.val].enabled <;> simp

theorem startTrack_allOccupied {s : State} (h : AllOccupied s) : AllOccupied s.startTrack := fun c => by
  obtain ⟨ok, occupied⟩ := h c
  rw [startTrack_channel]
  exact ⟨ok.withTimer occupied _ _, occupied⟩

theorem startScanner_track (s : State) : s.startScanner.track = s.track := by
  refine (foldl_keepsTrack _ _ (fun u i => ?_) s).track
  obtain ⟨f, hb, -⟩ := firstPosition_lever u i
  exact (modLever_keepsTrack u i f).then hb

theorem enterRunning_allOccupied {s : State} (h : AllOccupied s) (g : Image) : AllOccupied (s.enterRunning g) := by
  have image : (s.handImage g).partStarted.track = s.track := rfl
  have before : AllOccupied (s.handImage g).partStarted.startScanner.startEvaluator :=
    h.congr (((keepsTrack_of_base (startEvaluator_base _)).track.trans (startScanner_track _)).trans image)
  have after (u : State) : u.startHeads.startCombiner.startLine.startBells.startBlocks.startSwitching.track = u.track :=
    (keepsTrack_of_base (by simp) : KeepsTrack u.startHeads _).track
  exact (startTrack_allOccupied before).congr (after _)

theorem takeImage_allOccupied {s : State} (h : AllOccupied s) (bytes : List Byte) : AllOccupied (s.takeImage bytes) := by
  have held (f : Loader → Loader) : AllOccupied (s.modLoader f) := h.congr rfl
  unfold State.takeImage
  dsimp only
  split
  · exact h.congr rfl
  · exact enterRunning_allOccupied (held _) _

theorem imageReadComplete_law {s : State} (h : ChannelLaw s) (rest : List Byte) : ChannelLaw (s.imageReadComplete rest) := by
  unfold State.imageReadComplete
  split
  · split
    · rename_i hr
      exact (takeImage_allOccupied (allOccupied_of_inactive h (inactive_of_reading hr.1)) _).law
    · exact h
  · exact h

/-! ### The rows of the track circuit unit -/

/-- Sound channels taken by a part that is as active as before. -/
theorem channelLaw_of_sound {s t : State} (frame : s.sameFrame t) (hs : s.active = true)
    (sound : ∀ c : ChannelNo, ChannelOk t.track.channels[c]) : ChannelLaw t := fun c => by
  obtain ⟨-, hu, hl, -⟩ := frame
  refine ⟨sound c, fun h => ?_⟩
  rw [active_congr hu hl, hs] at h
  cases h

theorem active_of_boundaryDue {s : State} {ft : FeedTimer} (h : s.boundaryDue = some ft) : s.active = true := by
  unfold State.boundaryDue at h
  split at h
  · assumption
  · cases h

theorem halfPeriodBoundary_law {s : State} (h : ChannelLaw s) (sense : Vector Sense 12) : ChannelLaw (s.halfPeriodBoundary sense) := by
  cases hd : s.boundaryDue with
  | none =>
    unfold State.halfPeriodBoundary
    rw [hd]
    exact h
  | some ft =>
    have taken := halfPeriodBoundary_taken hd sense
    refine channelLaw_of_sound taken.frame (active_of_boundaryDue hd) fun c => ?_
    rw [taken.channels]
    exact sampled_ok (x := s.sensed sense c) (h c).1 _ _ _

theorem minOccupiedExpiry_law {s : State} (h : ChannelLaw s) (c : ChannelNo) : ChannelLaw (s.minOccupiedExpiry c) := by
  by_cases hd : s.minOccupiedDue c = true
  · rw [minOccupiedExpiry_due hd]
    have changed := changeChannel_becomes s c (Channel.expire s.cfg.channels[c])
    refine channelLaw_of_sound changed.frame (Bool.and_eq_true_iff.mp hd).1 fun c' => ?_
    rw [changed.channels]
    split
    · exact expire_ok (h c').1 _
    · exact (h c').1
  · unfold State.minOccupiedExpiry
    rw [if_neg hd]
    exact h

theorem resetAsserted_law (s : State) : ChannelLaw s.resetAsserted := fun c => by
  simp [State.resetAsserted, Channel.reset, ChannelOk]

/-! ### Every command, and every step -/

theorem exec_channelLaw {i : Instr} {s t : State} (hs : ChannelLaw s) (h : exec i s = .next t) : ChannelLaw t := by
  have closed {u : State} (h : ChannelLaw u) : ChannelLaw u.settle := (keepsTrack_of_base (settle_base u)).law h
  cases i
  case resetAsserted => cases h; exact resetAsserted_law s
  case endOfReset => cases h; exact (endOfReset_keepsTrack s).law hs
  case readAttemptFailed => cases h; exact (readAttemptFailed_keepsTrack s).law hs
  case readRetryExpiry => cases h; exact (readRetryExpiry_keepsTrack s).law hs
  case headerReadComplete => cases h; exact (headerReadComplete_keepsTrack s _).law hs
  case imageReadComplete => cases h; exact closed (imageReadComplete_law hs _)
  case rawInputChange => cases h; exact (rawInputChange_keepsTrack s _ _).law hs
  case provingContactChange => cases h; exact closed ((provingContactChange_keepsTrack s _).law hs)
  case transitLimitExpiry => cases h; exact closed ((transitLimitExpiry_keepsTrack s _).law hs)
  case readbackChange => cases h; exact closed ((modLever_keepsTrack s _ _).law hs)
  case readbackMismatchExpiry => cases h; exact closed ((readbackMismatchExpiry_keepsTrack s _).law hs)
  case lockDecisionArrival => cases h; exact closed ((lockDecisionArrival_keepsTrack s _ _).law hs)
  case halfPeriodBoundary => cases h; exact closed (halfPeriodBoundary_law hs _)
  case minOccupiedExpiry => cases h; exact closed (minOccupiedExpiry_law hs _)
  case headStep => cases h; exact closed ((headStep_keepsTrack s _).law hs)
  case attemptEnd => cases h; exact closed ((attemptEnd_keepsTrack s _).law hs)
  case frameTaking => cases h; exact closed ((frameTaking_keepsTrack s).law hs)
  all_goals
    cases h
    exact (keepsTrack_of_base (by simp)).law hs

theorem tick_keepsTrack (s : State) : KeepsTrack s s.tick := by
  unfold State.tick
  split
  · exact .refl s
  · rw [formReply_eq]
    exact ⟨rfl, id⟩

/-- Settles O19: every command keeps the law, those of the track circuit unit channel by channel, and so does a quantum of time. -/
theorem channelLawKeptByStep : Obligations.ChannelLawKeptByStep := by
  intro s t hs h
  unfold step at h
  split at h
  · rename_i c rest _
    exact exec_channelLaw (s := { s with pending := rest }) hs h
  · unfold stepIdle at h
    split at h
    · exact exec_channelLaw hs h
    · cases h
      exact (tick_keepsTrack s).law hs

end Sys2Proof.Machine
end

section
/-! PROOFS. The elementary acts that the reports and requests of an event are made of. Every shared operation is a run of such acts, shown once for
each; what a run can do to the line, the sections, the bells, the switching controller and the event queue is then read off the acts. -/

namespace Sys2Proof.Machine

/-! ### The acts -/

/-- What a run of acts may do beyond what every report may: the ends whose record or bell it may change, the frames it may ask for, and whether
it may change the standing proposal. -/
structure Scope where
  moves : EndNo → Prop
  asks : FrameKind → EndNo → Prop
  closes : Prop

/-- The scope of a report that moves no end, asks for no frame and leaves the proposal. -/
def Scope.quiet : Scope := ⟨fun _ => False, fun _ _ => False, False⟩

/-- The scope of a change of one end: its STATUS is raised. -/
def Scope.ofEnd (e : EndNo) : Scope := ⟨(· = e), fun k e' => k = .status ∧ e' = e, False⟩

/-- The scope of a frame that is asked for. -/
def Scope.asking (k : FrameKind) (e : EndNo) : Scope := ⟨fun _ => False, fun k' e' => k' = k ∧ e' = e, False⟩

/-- The scope of the close of an event: the abandonment of a proposal, and its frames. -/
def Scope.closing : Scope := ⟨fun _ => False, fun k _ => k = .switchAbandon, True⟩

/-- The records that a run of acts may append. -/
def Scope.tells (σ : Scope) (r : Event) : Prop :=
  match r.kind with
  | .detectionChanged | .countStateChanged | .countReset => True
  | .frameUndelivered => r.new = 2
  | .blockStateChanged | .codeSent => ∃ e, σ.moves e
  | .switching => σ.closes
  | _ => False

/-- One scope within another. -/
structure Scope.Within (σ τ : Scope) : Prop where
  moves : ∀ e, σ.moves e → τ.moves e
  asks : ∀ k e, σ.asks k e → τ.asks k e
  closes : σ.closes → τ.closes

theorem Scope.quiet_within (σ : Scope) : Scope.quiet.Within σ := ⟨fun _ h => h.elim, fun _ _ h => h.elim, fun h => h.elim⟩

theorem Scope.Within.tells {σ τ : Scope} (h : σ.Within τ) {r : Event} (hr : σ.tells r) : τ.tells r := by
  unfold Scope.tells at hr ⊢
  split at hr
  case h_5 => exact hr.imp h.moves
  case h_6 => exact hr.imp h.moves
  case h_7 => exact h.closes hr
  all_goals simp_all

/-- One change of the line: a frame takes an empty slot, or that of a frame that gives way, whose STATUS is then owed (R110, R112); a request is merged
(R109); a STATUS is owed, or its mark cleared where one waits (R112). -/
inductive LineAct (σ : Scope) : Line → Line → Prop
  | place {l : Line} {i : Fin 8} {f : Frame} : l.slots[i] = none → f.attempts = 0 → σ.asks f.kind f.e → LineAct σ l (l.place i f)
  | evict {l : Line} {i : Fin 8} {f g : Frame} : l.slots[i] = some g → g.onLine = false → f.kind.cls < g.kind.cls →
      (g.kind = .status → l.owed[g.e] = true) → f.attempts = 0 → σ.asks f.kind f.e → LineAct σ l (l.place i f)
  | coalesce {l : Line} {i : Fin 8} {f : Frame} : l.slots[i] = some f → f.kind.composed = true → σ.asks f.kind f.e →
      LineAct σ l (l.modSlot i Frame.coalesce)
  | owe {l : Line} {e : EndNo} : LineAct σ l { l with owed := l.owed.set e true }
  | serve {l : Line} {e : EndNo} {i : Fin 8} {f : Frame} : l.slots[i] = some f → f.kind = .status → f.e = e →
      LineAct σ l { l with owed := l.owed.set e false }

/-- What an evicted or undelivered frame of the reset procedure can end at a section: a pending request, or a confirmation, with the section then
DISTURBED (R77, R78). -/
structure Sect.Undone (x y : Sect) : Prop where
  rest : y = { x with pending := y.pending, confirming := y.confirming, latch := y.latch }
  pending : y.pending = x.pending ∨ y.pending = none
  latch : y.latch = x.latch ∨ y.latch = .disturbed
  confirming : x.confirming = none → y.confirming = none ∧ y.latch = x.latch

/-- One elementary act of a report or request. -/
inductive Act (σ : Scope) : State → State → Prop
  | record {s : State} {r : Event} : σ.tells r → Act σ s (s.append r)
  | free {s : State} {n : Nat} : Act σ s { s with freeCount := n }
  | evaluator {s : State} {f : Evaluator → Evaluator} : Act σ s (s.modEvaluator f)
  | combiner {s : State} {f : Combiner → Combiner} : Act σ s (s.modCombiner f)
  | judge {s : State} : Act σ s s.judgeProposal
  | line {s : State} {f : Line → Line} : LineAct σ s.line (f s.line) → Act σ s (s.modLine f)
  | sect {s : State} {c : SectNo} {e : EndNo} {f : Sect → Sect} : s.sectOf e = some c → s.sects[c].Undone (f s.sects[c]) →
      Act σ s (s.modSect c f)
  | unsent {s : State} {e : EndNo} {n : Nat} : Act σ s (s.modBell e (Bell.codeUndelivered n))
  | bell {s : State} {e : EndNo} {f : Bell → Bell} : σ.moves e → (s.bells[e].offer = none → (f s.bells[e]).offer = none) →
      (s.bells[e].playout = [] → (f s.bells[e]).playout = []) → Act σ s (s.modBell e f)
  | block {s : State} {e : EndNo} {f : BlockEnd → BlockEnd} : σ.moves e → Act σ s (s.modBlock e f)
  | watch {s : State} {e : EndNo} : σ.moves e → Act σ s (s.modSwitching fun w => { w with startWatch := false })
  | proposal {s : State} {f : Switching → Switching} : σ.closes → (f s.switching).hold = s.switching.hold → Act σ s (s.modSwitching f)

/-- A run of changes of the line. -/
def LineActs (σ : Scope) : Line → Line → Prop := Relation.ReflTransGen (LineAct σ)

/-- A run of acts. -/
def Acts (σ : Scope) : State → State → Prop := Relation.ReflTransGen (Act σ)

section
variable {σ τ : Scope}

theorem LineAct.mono (h : σ.Within τ) {l m : Line} (ha : LineAct σ l m) : LineAct τ l m := by
  cases ha with
  | place hi h0 hk => exact .place hi h0 (h.asks _ _ hk)
  | evict hi off cls owed h0 hk => exact .evict hi off cls owed h0 (h.asks _ _ hk)
  | coalesce hi hc hk => exact .coalesce hi hc (h.asks _ _ hk)
  | owe => exact .owe
  | serve hi hk he => exact .serve hi hk he

theorem Act.mono (h : σ.Within τ) {s t : State} (ha : Act σ s t) : Act τ s t := by
  cases ha with
  | record hr => exact .record (h.tells hr)
  | free => exact .free
  | evaluator => exact .evaluator
  | combiner => exact .combiner
  | judge => exact .judge
  | line hl => exact .line (hl.mono h)
  | sect hc hu => exact .sect hc hu
  | unsent => exact .unsent
  | bell hm ho hp => exact .bell (h.moves _ hm) ho hp
  | block hm => exact .block (h.moves _ hm)
  | watch hm => exact .watch (h.moves _ hm)
  | proposal hc hf => exact .proposal (h.closes hc) hf

theorem Acts.refl (s : State) : Acts σ s s := Relation.ReflTransGen.refl

theorem Acts.trans {s t u : State} (h : Acts σ s t) (h' : Acts σ t u) : Acts σ s u := Relation.ReflTransGen.trans h h'

theorem Act.acts {s t : State} (h : Act σ s t) : Acts σ s t := Relation.ReflTransGen.single h

theorem foldl_acts {α : Type} (l : List α) (f : State → α → State) (h : ∀ s, ∀ a ∈ l, Acts σ s (f s a)) (s : State) :
    Acts σ s (l.foldl f s) := by
  induction l generalizing s with
  | nil => exact .refl s
  | cons a l ih => exact (h s a List.mem_cons_self).trans (ih (fun s b hb => h s b (List.mem_cons_of_mem a hb)) _)

/-- What every act does, a run of acts does, where it may be done again and again. -/
theorem Acts.carries {R : State → State → Prop} (refl : ∀ s, R s s) (trans : ∀ s t u, R s t → R t u → R s u)
    (act : ∀ s t, Act σ s t → R s t) {s t : State} (h : Acts σ s t) : R s t := by
  induction h with
  | refl => exact refl s
  | tail _ ha ih => exact trans _ _ _ ih (act _ _ ha)

theorem Acts.mono (h : σ.Within τ) {s t : State} (ha : Acts σ s t) : Acts τ s t :=
  ha.carries .refl (fun _ _ _ => .trans) fun _ _ ha => (ha.mono h).acts

theorem LineActs.carries {R : Line → Line → Prop} (refl : ∀ l, R l l) (trans : ∀ l m n, R l m → R m n → R l n)
    (act : ∀ l m, LineAct σ l m → R l m) {l m : Line} (h : LineActs σ l m) : R l m := by
  induction h with
  | refl => exact refl l
  | tail _ ha ih => exact trans _ _ _ ih (act _ _ ha)

/-! ### What a run of acts leaves and keeps -/

theorem judgeProposal_eq (s : State) :
    s.judgeProposal = s.modSwitching fun w => if w.state = .proposingOut ∧ w.failing = none then { w with failing := s.standingConditions } else w := by
  unfold State.judgeProposal
  split
  · rename_i h
    simp only [State.modSwitching, if_pos h]
  · rename_i h
    simp only [State.modSwitching, if_neg h]

theorem Acts.base {s t : State} (h : Acts σ s t) : t.base = s.base := by
  refine h.carries (R := fun s t => t.base = s.base) (fun _ => rfl) (fun _ _ _ h h' => h'.trans h) fun s t ha => ?_
  cases ha <;> simp

theorem Acts.cfg {s t : State} (h : Acts σ s t) : t.cfg = s.cfg := cfg_of_base h.base

theorem Acts.sectOf {s t : State} (h : Acts σ s t) (e : EndNo) : t.sectOf e = s.sectOf e := by
  simp only [State.sectOf, h.cfg]

theorem Acts.sectEnd {s t : State} (h : Acts σ s t) (c : SectNo) : t.sectEnd c = s.sectEnd c := by
  simp only [State.sectEnd, h.cfg]

theorem Acts.partTime {s t : State} (h : Acts σ s t) : t.partTime = s.partTime := by
  simp only [State.partTime, (State.base_eq h.base).1]

theorem Acts.records {s t : State} (h : Acts σ s t) : ∃ l, Recorded s t l ∧ ∀ r ∈ l, σ.tells r := by
  refine h.carries (R := fun s t => ∃ l, Recorded s t l ∧ ∀ r ∈ l, σ.tells r) (fun _ => ⟨[], recorded_refl rfl, by simp⟩) ?_ ?_
  · rintro s t u ⟨l, hl, tl⟩ ⟨m, hm, tm⟩
    exact ⟨_, recorded_trans hl hm, fun r hr => (List.mem_append.mp hr).elim (tl r) (tm r)⟩
  · intro s t ha
    cases ha with
    | record hr => exact ⟨_, append_recorded .., fun r h => by rw [List.mem_singleton.mp h]; exact hr⟩
    | judge => exact ⟨[], recorded_refl (by simp), by simp⟩
    | _ => exact ⟨[], recorded_refl rfl, by simp⟩

theorem Acts.line {s t : State} (h : Acts σ s t) : LineActs σ s.line t.line := by
  refine h.carries (R := fun s t => LineActs σ s.line t.line) (fun _ => .refl) (fun _ _ _ h h' => h.trans h') fun s t ha => ?_
  cases ha with
  | line hl => exact .single hl
  | record => rw [append_line]; exact .refl
  | judge => rw [judgeProposal_line]; exact .refl
  | _ => exact .refl

theorem Acts.blocks {s t : State} (h : Acts σ s t) {e : EndNo} (he : ¬σ.moves e) : t.blocks[e] = s.blocks[e] := by
  refine h.carries (R := fun s t => t.blocks[e] = s.blocks[e]) (fun _ => rfl) (fun _ _ _ h h' => h'.trans h) fun s t ha => ?_
  cases ha with
  | block hm => exact upd_ne _ _ fun h => he (h ▸ hm)
  | record => simp
  | judge => simp
  | _ => rfl

theorem Sect.Undone.refl (x : Sect) : x.Undone x := ⟨rfl, .inl rfl, .inl rfl, fun h => ⟨h, rfl⟩⟩

theorem Sect.Undone.trans {x y z : Sect} (h : x.Undone y) (h' : y.Undone z) : x.Undone z where
  rest := by rw [h'.rest, h.rest]
  pending := by
    rcases h'.pending with e | e
    · rw [e]; exact h.pending
    · exact .inr e
  latch := by
    rcases h'.latch with e | e
    · rw [e]; exact h.latch
    · exact .inr e
  confirming hn := by
    obtain ⟨hc, hl⟩ := h.confirming hn
    exact ⟨(h'.confirming hc).1, (h'.confirming hc).2.trans hl⟩

/-- A section that has nothing left to undo stays as it is. -/
theorem Sect.Undone.eq {x y : Sect} (h : x.Undone y) (hp : x.pending = none) (hc : x.confirming = none) : y = x := by
  have pending : y.pending = none := h.pending.elim (·.trans hp) id
  obtain ⟨confirming, latch⟩ := h.confirming hc
  rw [h.rest, pending, confirming, latch]
  cases x
  simp_all

theorem Acts.sect {s t : State} (h : Acts σ s t) (c : SectNo) : s.sects[c].Undone t.sects[c] := by
  refine h.carries (R := fun s t => s.sects[c].Undone t.sects[c]) (fun _ => .refl _) (fun _ _ _ => .trans) fun s t ha => ?_
  cases ha with
  | @sect c' _ f _ hu =>
    by_cases hc : c' = c
    · subst hc
      rw [State.modSect_sects, upd_self]
      exact hu
    · rw [State.modSect_sects, upd_ne _ _ hc]
      exact .refl _
  | record => rw [append_sects]; exact .refl _
  | judge => rw [judgeProposal_sects]; exact .refl _
  | _ => exact .refl _

/-- The section of no end takes no part. -/
theorem Acts.sect_local {s t : State} (h : Acts σ s t) {c : SectNo} (hc : ∀ e, s.sectOf e ≠ some c) : t.sects[c] = s.sects[c] := by
  refine (h.carries (R := fun s t => (∀ e, t.sectOf e = s.sectOf e) ∧ ((∀ e, s.sectOf e ≠ some c) → t.sects[c] = s.sects[c]))
    (fun _ => ⟨fun _ => rfl, fun _ => rfl⟩) ?_ ?_).2 hc
  · rintro s t u ⟨ho, hs⟩ ⟨ho', hs'⟩
    exact ⟨fun e => (ho' e).trans (ho e), fun hc => (hs' fun e => ho e ▸ hc e).trans (hs hc)⟩
  · intro s t ha
    refine ⟨ha.acts.sectOf, fun hc => ?_⟩
    cases ha with
    | sect he _ => exact upd_ne _ _ fun h => hc _ (h ▸ he)
    | record => simp
    | judge => simp
    | _ => rfl

/-- What becomes of the bell of an end that is not moved: its last outbound record may be marked not sent, and stays so (R126). -/
structure Bell.Kept (x y : Bell) : Prop where
  rest : y = { x with lastOut := y.lastOut }
  unsent : ∀ r, x.lastOut = some r → r.notSent = true → y.lastOut = some r

theorem Acts.bell {s t : State} (h : Acts σ s t) {e : EndNo} (he : ¬σ.moves e) : s.bells[e].Kept t.bells[e] := by
  refine h.carries (R := fun s t => s.bells[e].Kept t.bells[e]) (fun _ => ⟨rfl, fun _ h _ => h⟩) ?_ ?_
  · intro s t u h h'
    exact ⟨by rw [h'.rest, h.rest], fun r hr hn => h'.unsent r (h.unsent r hr hn) hn⟩
  · intro s t ha
    cases ha with
    | @unsent e' n =>
      by_cases hee : e' = e
      · subst hee
        rw [State.modBell_bells, upd_self]
        refine ⟨rfl, fun r hr hn => ?_⟩
        simp only [Bell.codeUndelivered, hr, Option.map_some]
        split
        · cases r; simp_all
        · rfl
      · rw [State.modBell_bells, upd_ne _ _ hee]
        exact ⟨rfl, fun _ h _ => h⟩
    | @bell e' f hm _ _ =>
      have hne : e' ≠ e := fun h => he (h ▸ hm)
      rw [State.modBell_bells, upd_ne _ _ hne]
      exact ⟨rfl, fun _ h _ => h⟩
    | record => rw [append_bells]; exact ⟨rfl, fun _ h _ => h⟩
    | judge => rw [judgeProposal_bells]; exact ⟨rfl, fun _ h _ => h⟩
    | _ => exact ⟨rfl, fun _ h _ => h⟩

/-- No act gives an end an offer, or a beat to play. -/
theorem Acts.bell_empty {s t : State} (h : Acts σ s t) (e : EndNo) :
    (s.bells[e].offer = none → t.bells[e].offer = none) ∧ (s.bells[e].playout = [] → t.bells[e].playout = []) := by
  refine h.carries (R := fun s t => (s.bells[e].offer = none → t.bells[e].offer = none) ∧
    (s.bells[e].playout = [] → t.bells[e].playout = [])) (fun _ => ⟨id, id⟩) ?_ ?_
  · intro s t u h h'
    exact ⟨h'.1 ∘ h.1, h'.2 ∘ h.2⟩
  · intro s t ha
    cases ha with
    | @unsent e' n =>
      by_cases hee : e' = e
      · subst hee
        rw [State.modBell_bells, upd_self]
        exact ⟨id, id⟩
      · rw [State.modBell_bells, upd_ne _ _ hee]
        exact ⟨id, id⟩
    | @bell e' f _ ho hp =>
      by_cases hee : e' = e
      · subst hee
        rw [State.modBell_bells, upd_self]
        exact ⟨ho, hp⟩
      · rw [State.modBell_bells, upd_ne _ _ hee]
        exact ⟨id, id⟩
    | record => rw [append_bells]; exact ⟨id, id⟩
    | judge => rw [judgeProposal_bells]; exact ⟨id, id⟩
    | _ => exact ⟨id, id⟩

/-- What becomes of the switching controller while the proposal stands: a judgement may be left waiting in PROPOSING_OUT (R165), and a change of an end
may clear the start watch (R175). -/
structure Switching.Kept (moved : Prop) (x y : Switching) : Prop where
  rest : y = { x with startWatch := y.startWatch, failing := y.failing }
  failing : x.state ≠ .proposingOut → y.failing = x.failing
  watch : y.startWatch = x.startWatch ∨ (moved ∧ y.startWatch = false)

theorem Switching.Kept.refl (moved : Prop) (x : Switching) : Switching.Kept moved x x := ⟨rfl, fun _ => rfl, .inl rfl⟩

theorem Switching.Kept.state {moved : Prop} {x y : Switching} (h : Switching.Kept moved x y) : y.state = x.state := by rw [h.rest]

theorem Switching.Kept.agreement {moved : Prop} {x y : Switching} (h : Switching.Kept moved x y) : y.agreement = x.agreement := by
  rw [h.rest]

theorem Switching.Kept.trans {moved : Prop} {x y z : Switching} (h : Switching.Kept moved x y) (h' : Switching.Kept moved y z) :
    Switching.Kept moved x z where
  rest := by rw [h'.rest, h.rest]
  failing hs := (h'.failing (by rwa [h.state])).trans (h.failing hs)
  watch := by
    rcases h'.watch with e | e
    · rw [e]; exact h.watch
    · exact .inr e

theorem Acts.switching {s t : State} (h : Acts σ s t) (hσ : ¬σ.closes) : Switching.Kept (∃ e, σ.moves e) s.switching t.switching := by
  refine h.carries (R := fun s t => Switching.Kept (∃ e, σ.moves e) s.switching t.switching) (fun _ => .refl _ _)
    (fun _ _ _ => .trans) fun s t ha => ?_
  cases ha with
  | judge =>
    rw [judgeProposal_eq, State.modSwitching_switching]
    split
    · rename_i hj
      exact ⟨rfl, fun hs => absurd hj.1 hs, .inl rfl⟩
    · exact .refl _ _
  | watch hm => exact ⟨rfl, fun _ => rfl, .inr ⟨⟨_, hm⟩, rfl⟩⟩
  | proposal hc _ => exact absurd hc hσ
  | record => rw [append_switching]; exact .refl _ _
  | _ => exact .refl _ _

theorem Acts.hold {s t : State} (h : Acts σ s t) : t.switching.hold = s.switching.hold := by
  refine h.carries (R := fun s t => t.switching.hold = s.switching.hold) (fun _ => rfl) (fun _ _ _ h h' => h'.trans h) fun s t ha => ?_
  cases ha with
  | judge =>
    rw [judgeProposal_eq, State.modSwitching_switching]
    split <;> rfl
  | proposal _ hf => exact hf
  | record => rw [append_switching]
  | _ => rfl

/-- Outside PROPOSING_OUT no judgement is left waiting, and the close of the event has nothing to do (R165). -/
theorem Acts.settle_eq {s t : State} (h : Acts σ s t) (hσ : ¬σ.closes) (hq : s.quiet) (hs : s.switching.state ≠ .proposingOut) :
    t.settle = t := settle_quiet (((h.switching hσ).failing hs).trans hq)

/-! ### What a run of changes of the line leaves and keeps -/

/-- The slots, the numbers and the STATUS owed apart, the line is as it was. -/
theorem LineActs.rest {l m : Line} (h : LineActs σ l m) : m = { l with slots := m.slots, nextSeq := m.nextSeq, owed := m.owed } := by
  refine h.carries (R := fun l m : Line => m = { l with slots := m.slots, nextSeq := m.nextSeq, owed := m.owed })
    (fun _ => rfl) (fun l m n h h' => by rw [h', h]) fun l m ha => ?_
  cases ha <;> rfl

theorem LineActs.link {l m : Line} (h : LineActs σ l m) : m.link = l.link := by rw [h.rest]

theorem slot_set_ne {α : Type} {n : Nat} (v : Vector α n) {i j : Fin n} (x : α) (h : i ≠ j) : (v.set i x)[j] = v[j] := by
  simp [Fin.val_ne_of_ne h]

theorem slot_set_self {α : Type} {n : Nat} (v : Vector α n) (i : Fin n) (x : α) : (v.set i x)[i] = x := by simp

/-- A frame of the most urgent class gives way to none, and none is merged into it (R109, R110). -/
theorem LineActs.urgent {l m : Line} (h : LineActs σ l m) {i : Fin 8} {f : Frame} (hi : l.slots[i] = some f) (h0 : f.kind.cls = 0) :
    m.slots[i] = some f := by
  refine h.carries (R := fun l m : Line => l.slots[i] = some f → m.slots[i] = some f) (fun _ => id) (fun _ _ _ h h' => h' ∘ h)
    (fun l m ha => ?_) hi
  intro hf
  cases ha with
  | @place j g hj _ _ =>
    by_cases e : j = i
    · subst e; cases hj.symm.trans hf
    · exact (slot_set_ne _ _ e).trans hf
  | @evict j g x hj _ cls _ _ _ =>
    by_cases e : j = i
    · subst e
      cases hj.symm.trans hf
      omega
    · exact (slot_set_ne _ _ e).trans hf
  | @coalesce j g hj hc _ =>
    by_cases e : j = i
    · subst e
      cases hj.symm.trans hf
      cases hk : f.kind <;> simp_all [FrameKind.composed, FrameKind.cls]
    · rw [modSlot_some _ _ hj]
      exact (slot_set_ne _ _ e).trans hf
  | _ => exact hf

/-- A frame of a kind and end that are not asked for has stood in its slot from the beginning. -/
theorem LineActs.unasked {l m : Line} (h : LineActs σ l m) {i : Fin 8} {f : Frame} (hf : m.slots[i] = some f)
    (hk : ¬σ.asks f.kind f.e) : l.slots[i] = some f := by
  refine h.carries (R := fun l m : Line => m.slots[i] = some f → l.slots[i] = some f) (fun _ => id) (fun _ _ _ h h' => h ∘ h')
    (fun l m ha => ?_) hf
  intro hf
  cases ha with
  | @place j g _ _ ha =>
    by_cases e : j = i
    · subst e
      cases (slot_set_self _ _ _).symm.trans hf
      exact absurd ha hk
    · exact (slot_set_ne _ _ e).symm.trans hf
  | @evict j g x _ _ _ _ _ ha =>
    by_cases e : j = i
    · subst e
      cases (slot_set_self _ _ _).symm.trans hf
      exact absurd ha hk
    · exact (slot_set_ne _ _ e).symm.trans hf
  | @coalesce j g hj _ ha =>
    rw [modSlot_some _ _ hj] at hf
    by_cases e : j = i
    · subst e
      cases (slot_set_self _ _ _).symm.trans hf
      exact absurd ha hk
    · exact (slot_set_ne _ _ e).symm.trans hf
  | _ => exact hf

theorem LineActs.gone {l m : Line} (h : LineActs σ l m) {n : Nat} (hn : l.gone n) : m.gone n := by
  refine h.carries (R := fun l m : Line => l.gone n → m.gone n) (fun _ => id) (fun _ _ _ h h' => h' ∘ h) (fun l m ha hn => ?_) hn
  cases ha with
  | place => exact gone_place hn _ _
  | evict => exact gone_place hn _ _
  | coalesce => exact gone_coalesce _ hn
  | _ => exact hn

/-- A STATUS that waits or is owed goes on waiting or being owed (R110 to R112). -/
theorem LineActs.promises {l m : Line} (h : LineActs σ l m) {e : EndNo} (hp : l.promises e) : m.promises e := by
  refine h.carries (R := fun l m : Line => l.promises e → m.promises e) (fun _ => id) (fun _ _ _ h h' => h' ∘ h) (fun l m ha hp => ?_) hp
  cases ha with
  | place hi => exact promises_place hp hi _
  | @evict i f g hi _ _ owed =>
    exact promises_set hp i (fun _ => id) fun f' hf' hk => by
      cases hi.symm.trans hf'
      exact .inr (owed hk)
  | coalesce => exact promises_coalesce hp _
  | owe => exact promises_owe hp _
  | @serve e' i f hi hk he =>
    by_cases hee : e' = e
    · exact .inl ⟨i, f, hi, hk, he.trans hee⟩
    · refine hp.imp_right fun ho => ?_
      exact (slot_set_ne _ _ hee).trans ho

theorem Acts.promised {s t : State} (h : Acts σ s t) {e : EndNo} (hp : s.statusPromised e) : t.statusPromised e := h.line.promises hp

end

end Sys2Proof.Machine
end

section
/-! PROOFS. Every shared operation as a run of acts: the reports to the combiner, the evaluator and the switching controller, a change of an end, a
section's report, the requests with what they evict, and the close of an event. -/

namespace Sys2Proof.Machine

variable {σ : Scope}

/-! ### Reports to the evaluator, the combiner and the event queue -/

theorem evaluate_acts (s : State) (f : Evaluator → Evaluator) : Acts σ s (s.evaluate f) := by
  unfold State.evaluate
  dsimp only
  split
  · exact Act.evaluator.acts
  · exact Act.evaluator.acts.trans Act.judge.acts

theorem reportBlock_acts (s : State) (e : EndNo) : Acts σ s (s.reportBlock e) := evaluate_acts ..

theorem reportCount_acts (s : State) (c : SectNo) : Acts σ s (s.reportCount c) := evaluate_acts ..

theorem judgeDetection_acts (s : State) (d : DetNo) : Acts σ s (s.judgeDetection d) := by
  unfold State.judgeDetection
  dsimp only
  split
  · exact Act.combiner.acts
  · exact (Act.combiner.acts.trans (Act.record (by exact trivial)).acts).trans (evaluate_acts ..)

theorem judgeDetections_acts (s : State) (names : DetRecord → Bool) : Acts σ s (s.judgeDetections names) :=
  foldl_acts _ _ (fun s d _ => by
    split
    · exact judgeDetection_acts s d
    · exact .refl s) s

theorem reportCountToCombiner_acts (s : State) (c : SectNo) : Acts σ s (s.reportCountToCombiner c) :=
  Act.combiner.acts.trans (judgeDetections_acts ..)

/-! ### STATUS (R111, R112) -/

theorem raiseStatus_acts (s : State) {e : EndNo} (he : σ.asks .status e) : Acts σ s (s.raiseStatus e) := by
  unfold State.raiseStatus
  split
  · rename_i i hi
    obtain ⟨f, hf, hk, rfl⟩ := slotOf_some hi
    exact (Act.line (.coalesce hf (by rw [hk]; rfl) (hk ▸ he))).acts
  · split
    · rename_i i hi
      exact (Act.line (.place (emptySlot_none hi) rfl he)).acts
    · exact (Act.line .owe).acts

/-- The owed STATUS of an end is raised, and then its mark is cleared where it has found a slot (R112). -/
theorem serveOwed_acts (s : State) {e : EndNo} (he : σ.asks .status e) : Acts σ s (s.serveOwed e) := by
  unfold State.serveOwed State.raiseStatus
  split
  · rename_i i hi
    obtain ⟨f, hf, hk, rfl⟩ := slotOf_some hi
    replace hf : s.line.slots[i] = some f := hf
    refine Acts.trans (t := s.modLine fun l => l.modSlot i Frame.coalesce)
      (Act.line (.coalesce hf (by rw [hk]; rfl) (hk ▸ he))).acts ?_
    refine (Act.line (f := fun l => { l with owed := l.owed.set f.e false }) (.serve (i := i) (f := f.coalesce) ?_ hk rfl)).acts
    rw [State.modLine_line, modSlot_some _ _ hf]
    exact slot_set_self ..
  · split
    · rename_i i hi
      replace hi : s.line.emptySlot = some i := hi
      let g : Frame := { kind := .status, e := e, dest := s.peerId e }
      refine Acts.trans (t := s.modLine fun l => l.place i g) (Act.line (.place (emptySlot_none hi) rfl he)).acts ?_
      exact (Act.line (f := fun l => { l with owed := l.owed.set e false })
        (.serve (i := i) (f := { g with seq := s.line.nextSeq }) (slot_set_self ..) rfl rfl)).acts
    · have same : ((s.modLine fun l => { l with owed := l.owed.set e false }).modLine fun l => { l with owed := l.owed.set e true }) =
          s.modLine fun l => { l with owed := l.owed.set e true } := by simp [State.modLine]
      rw [same]
      exact (Act.line .owe).acts

theorem serveFirstOwed_acts (s : State) (h : ∀ e, σ.asks .status e) : Acts σ s s.serveFirstOwed := by
  unfold State.serveFirstOwed
  split
  · exact serveOwed_acts s (h _)
  · exact .refl s

/-! ### A change of an end (R139) -/

theorem clearOffer_acts (s : State) {e : EndNo} (he : σ.moves e) : Acts σ s (s.clearOffer e) :=
  (Act.bell he (fun _ => rfl) fun h => h).acts

theorem flushPlayout_acts (s : State) {e : EndNo} (he : σ.moves e) : Acts σ s (s.flushPlayout e) :=
  (Act.bell he (fun h => h) fun _ => rfl).acts

theorem reportStateToSwitching_acts (s : State) {e : EndNo} (he : σ.moves e) : Acts σ s (s.reportStateToSwitching e) := by
  have judged (u : State) (b : Bool) : Acts σ u (if b = true then u.judgeProposal else u) := by
    split
    · exact Act.judge.acts
    · exact .refl u
  unfold State.reportStateToSwitching
  refine Acts.trans ?_ (judged _ _)
  split
  · exact (Act.watch he).acts
  · exact .refl s

theorem reportEndChange_acts (s : State) {e : EndNo} (hm : σ.moves e) (ha : σ.asks .status e) (old : BlockState) (cause : Cause) :
    Acts σ s (s.reportEndChange e old cause) := by
  have recorded : Acts σ s (s.blockRecord e old cause 0) := (Act.record (by exact ⟨e, hm⟩)).acts
  have raised := (recorded.trans (reportBlock_acts _ e)).trans (raiseStatus_acts _ ha)
  unfold State.reportEndChange
  dsimp only
  split
  · exact raised
  · split
    · exact (raised.trans (clearOffer_acts _ hm)).trans (reportStateToSwitching_acts _ hm)
    · exact raised.trans (reportStateToSwitching_acts _ hm)

theorem changeEnd_acts (s : State) {e : EndNo} (hm : σ.moves e) (ha : σ.asks .status e) (st : BlockState) (rel : Release) (cause : Cause) :
    Acts σ s (s.changeEnd e st rel cause) := by
  unfold State.changeEnd
  split
  · exact .refl s
  · exact (Act.block hm).acts.trans (reportEndChange_acts _ hm ha _ _)

theorem trainEntry_acts (s : State) {e : EndNo} (hm : σ.moves e) (ha : σ.asks .status e) : Acts σ s (s.trainEntry e) := by
  unfold State.trainEntry
  split <;> first
    | exact changeEnd_acts s hm ha ..
    | exact .refl s

/-! ### A section's change and its report (R69, R80) -/

theorem reportSect_acts (s s0 : State) (c : SectNo) (h : ∀ e, s.entersAt s0 c e → σ.moves e ∧ σ.asks .status e) :
    Acts σ s (s.reportSect s0 c) := by
  have reported (r : Event) (hr : r.kind = .countStateChanged) : Acts σ s (((s.append r).reportCountToCombiner c).reportCount c) :=
    ((Act.record (by simp [Scope.tells, hr])).acts.trans (reportCountToCombiner_acts _ c)).trans (reportCount_acts _ c)
  have entered {u : State} (hu : Acts σ s u) : Acts σ s (match s.sectEnd c with
      | some e => if s0.indication c = .zero ∧ s.indication c = .nonzero then u.trainEntry e else u
      | none => u) := by
    split
    · rename_i e he
      split
      · rename_i hi
        obtain ⟨hm, ha⟩ := h e ⟨he, hi⟩
        exact hu.trans (trainEntry_acts u hm ha)
      · exact hu
    · exact hu
  refine entered ?_
  split
  · exact .refl s
  · exact reported _ rfl

/-- After a section's data have changed, its reports are a run of acts. -/
theorem changeSect_acts (s : State) (c : SectNo) (f : Sect → Sect)
    (h : ∀ e, (s.modSect c f).entersAt s c e → σ.moves e ∧ σ.asks .status e) : Acts σ (s.modSect c f) (s.changeSect c f) :=
  reportSect_acts _ _ _ h

theorem modSect_self (s : State) (c : SectNo) (f : Sect → Sect) : (s.modSect c f).sects[c] = f s.sects[c] := upd_self ..

/-- A section whose content does not become nonzero has no train enter it. -/
theorem not_entersAt {s s0 : State} {c : SectNo} (h : s0.indication c = .zero → s.indication c ≠ .nonzero) (e : EndNo) :
    ¬s.entersAt s0 c e := fun h' => h h'.2.1 h'.2.2

/-- A BLOCK section without a remote net has no train enter it (R66, R69). -/
theorem not_entersAt_of_remote {s s0 : State} {c : SectNo} (h : s.sects[c].remote = none) (e : EndNo) : ¬s.entersAt s0 c e := by
  rintro ⟨he, -, hn⟩
  have block : s.cfg.sects[c].type = .block := by
    unfold State.sectEnd at he
    split at he
    · assumption
    · cases he
  simp only [State.indication, indication, content, block, h, Option.map_none, reduceCtorEq] at hn

theorem resetRecord_acts (s s0 : State) (c : SectNo) (o : ResetOutcome) : Acts σ s (s.resetRecord s0 c o) :=
  (Act.record (by exact trivial)).acts

theorem endPending_acts (s s0 : State) (c : SectNo) (o : ResetOutcome) : Acts σ s (s.endPending s0 c o) := by
  unfold State.endPending
  split
  · exact resetRecord_acts ..
  · exact .refl s

theorem requestUndelivered_acts (s : State) (e : EndNo) (n : Nat) : Acts σ s (s.requestUndelivered e n) := by
  unfold State.requestUndelivered
  split
  · rename_i c hc
    split
    · exact (Act.sect hc ⟨rfl, .inr rfl, .inl rfl, fun h => ⟨h, rfl⟩⟩).acts.trans (resetRecord_acts ..)
    · exact .refl s
  · exact .refl s

theorem confirmUndelivered_acts (s : State) (e : EndNo) (n : Nat) : Acts σ s (s.confirmUndelivered e n) := by
  unfold State.confirmUndelivered
  split
  · rename_i c hc
    split
    · rename_i hn
      have undone : s.sects[c].Undone { s.sects[c].disturb with confirming := none } :=
        ⟨rfl, .inl rfl, .inr rfl, fun h => by cases h.symm.trans hn⟩
      refine ((Act.sect hc undone).acts.trans (changeSect_acts s c _ fun e h => ?_)).trans (resetRecord_acts ..)
      refine absurd h (not_entersAt (fun hz => ?_) e)
      rw [modSect_indication s c c (f := fun x => { x.disturb with confirming := none }) ⟨rfl, rfl⟩, hz]
      simp
    · exact .refl s
  · exact .refl s

theorem confirmDelivered_acts (s : State) (e : EndNo) (n : Nat) : Acts σ s (s.confirmDelivered e n) := by
  unfold State.confirmDelivered
  split
  · rename_i c hc
    split
    · rename_i hn
      exact (Act.sect hc ⟨rfl, .inl rfl, .inl rfl, fun h => by cases h.symm.trans hn⟩).acts
    · exact .refl s
  · exact .refl s

/-! ### Requests (R109, R110) -/

/-- One slot is compared with the best before it (R108, R110). -/
def Line.pick (l : Line) (p : Frame → Frame → Bool) (ok : Frame → Bool) (best : Option (Fin 8)) (i : Fin 8) : Option (Fin 8) :=
  match l.slots[i] with
  | some f => if ok f then l.better p best (some i) else best
  | none => best

theorem bestSlot_eq (l : Line) (p : Frame → Frame → Bool) (ok : Frame → Bool) : l.bestSlot p ok = slotNumbers.foldl (l.pick p ok) none := rfl

theorem better_cases (l : Line) (p : Frame → Frame → Bool) (best : Option (Fin 8)) (i : Fin 8) :
    l.better p best (some i) = some i ∨ (l.better p best (some i) = best ∧ best ≠ none) := by
  unfold Line.better
  split
  · rename_i h
    cases h
    split
    · split
      · exact .inl rfl
      · exact .inr ⟨rfl, by simp⟩
    · exact .inr ⟨rfl, by simp⟩
    · exact .inl rfl
  · rename_i h
    cases h
  · exact .inl rfl

/-- The best slot so far stays, or the slot looked at is better and satisfies the condition; and a slot that satisfies it leaves a best one. -/
theorem pick_cases (l : Line) (p : Frame → Frame → Bool) (ok : Frame → Bool) (best : Option (Fin 8)) (i : Fin 8) :
    (l.pick p ok best i = best ∧ ((∃ f, l.slots[i] = some f ∧ ok f = true) → best ≠ none)) ∨
      (l.pick p ok best i = some i ∧ ∃ f, l.slots[i] = some f ∧ ok f = true) := by
  unfold Line.pick
  split
  · rename_i f hf
    split
    · rename_i ho
      rcases better_cases l p best i with h | ⟨h, hb⟩
      · exact .inr ⟨h, f, hf, ho⟩
      · exact .inl ⟨h, fun _ => hb⟩
    · rename_i ho
      exact .inl ⟨rfl, fun ⟨g, hg, h⟩ => by cases hg.symm.trans hf; exact absurd h ho⟩
  · rename_i hn
    exact .inl ⟨rfl, fun ⟨g, hg, _⟩ => by cases hg.symm.trans hn⟩

theorem bestSlot_some {l : Line} {p : Frame → Frame → Bool} {ok : Frame → Bool} {i : Fin 8} (h : l.bestSlot p ok = some i) :
    ∃ f, l.slots[i] = some f ∧ ok f = true := by
  rw [bestSlot_eq] at h
  revert i
  refine List.foldlRecOn slotNumbers (l.pick p ok) (motive := fun best => ∀ {i}, best = some i → ∃ f, l.slots[i] = some f ∧ ok f = true)
    (fun h => by cases h) fun best hb j _ i hi => ?_
  rcases pick_cases l p ok best j with ⟨h, _⟩ | ⟨h, hf⟩
  · exact hb (h.symm.trans hi)
  · cases h.symm.trans hi
    exact hf

theorem foldl_pick_ne_none {l : Line} {p : Frame → Frame → Bool} {ok : Frame → Bool} (is : List (Fin 8)) {best : Option (Fin 8)}
    (h : best ≠ none ∨ ∃ i ∈ is, ∃ f, l.slots[i] = some f ∧ ok f = true) : is.foldl (l.pick p ok) best ≠ none := by
  induction is generalizing best with
  | nil => exact h.elim id fun ⟨i, hi, _⟩ => absurd hi (by simp)
  | cons j is ih =>
    refine ih ?_
    rcases pick_cases l p ok best j with ⟨e, hb⟩ | ⟨e, _⟩
    · rw [e]
      rcases h with h | ⟨i, hi, hf⟩
      · exact .inl h
      · rcases List.mem_cons.mp hi with rfl | hi
        · exact .inl (hb hf)
        · exact .inr ⟨i, hi, hf⟩
    · rw [e]
      exact .inl (by simp)

/-- A frame that gives way is not on the line, and of a higher class (R110). -/
theorem victim_some {l : Line} {cls : Nat} {i : Fin 8} (h : l.victim cls = some i) :
    ∃ f, l.slots[i] = some f ∧ f.onLine = false ∧ cls < f.kind.cls := by
  obtain ⟨f, hf, ok⟩ := bestSlot_some h
  refine ⟨f, hf, ?_⟩
  simpa using ok

theorem victim_ne_none {l : Line} {cls : Nat} {i : Fin 8} {f : Frame} (hi : l.slots[i] = some f) (off : f.onLine = false)
    (hc : cls < f.kind.cls) : l.victim cls ≠ none :=
  foldl_pick_ne_none slotNumbers (.inr ⟨i, List.mem_finRange i, f, hi, by simp [off, hc]⟩)

/-- What the owner of an evicted frame that is no STATUS does (R110). -/
theorem reportEvicted_acts (s : State) {f : Frame} (hf : f.kind ≠ .status) : Acts σ s (s.reportEvicted f) := by
  unfold State.reportEvicted
  split
  case h_1 h => exact absurd h hf
  case h_2 => exact Act.unsent.acts
  case h_3 => exact requestUndelivered_acts ..
  case h_4 => exact confirmUndelivered_acts ..
  all_goals exact .refl s

theorem request_acts (s : State) {k : FrameKind} {e : EndNo} (he : σ.asks k e) (dest : Nat) (payload : List Byte) :
    Acts σ s (s.request k e dest payload) := by
  unfold State.request
  dsimp only
  split
  · rename_i i hi
    split at hi
    · rename_i hc
      obtain ⟨f, hf, rfl, rfl⟩ := slotOf_some hi
      exact (Act.line (.coalesce hf hc he)).acts
    · cases hi
  · split
    · rename_i i hi
      exact (Act.line (.place (emptySlot_none hi) rfl he)).acts
    · split
      · rename_i i hi
        obtain ⟨f, hf, off, cls⟩ := victim_some hi
        simp only [hf]
        let g : Frame := { kind := k, e := e, dest := dest, payload := payload }
        have recorded : Acts σ s (s.append (s.undeliveredRecord f 2)) := (Act.record (by exact rfl)).acts
        by_cases hk : f.kind = .status
        · have owed : Acts σ s ((s.append (s.undeliveredRecord f 2)).modLine fun l => { l with owed := l.owed.set f.e true }) :=
            recorded.trans (Act.line .owe).acts
          have evicted : Act σ ((s.append (s.undeliveredRecord f 2)).modLine fun l => { l with owed := l.owed.set f.e true })
              (((s.append (s.undeliveredRecord f 2)).modLine fun l => { l with owed := l.owed.set f.e true }).modLine fun l => l.place i g) :=
            .line (.evict (g := f) (by simpa using hf) off cls (fun _ => by simp) rfl he)
          have same : ((s.append (s.undeliveredRecord f 2)).modLine fun l => l.place i g).reportEvicted f =
              ((s.append (s.undeliveredRecord f 2)).modLine fun l => { l with owed := l.owed.set f.e true }).modLine fun l => l.place i g := by
            unfold State.reportEvicted
            rw [hk]
            rfl
          rw [same]
          exact owed.trans evicted.acts
        · have evicted : Act σ (s.append (s.undeliveredRecord f 2)) ((s.append (s.undeliveredRecord f 2)).modLine fun l => l.place i g) :=
            .line (.evict (g := f) (by simpa using hf) off cls (fun h => absurd h hk) rfl he)
          exact (recorded.trans evicted.acts).trans (reportEvicted_acts _ hk)
      · exact .refl s

/-! ### The switching controller and the close of an event (R165, R168, R170) -/

theorem switchRecord_acts (s : State) (hc : σ.closes) (k : Concern) (d : Nat) (o : SwitchOutcome) (r : Option SwitchReason)
    (c : Option SwitchCause) : Acts σ s (s.switchRecord k d o r c) := by
  unfold State.switchRecord
  cases k with
  | one e party => exact (Act.record (by exact hc)).acts
  | both => exact (Act.free (n := s.freeCount + 1)).acts.trans (Act.record (by exact hc)).acts

theorem sendAbandon_acts (s : State) (h : ∀ e, σ.asks .switchAbandon e) (d : Direction) (e : EndNo) (wanted : Bool) :
    Acts σ s (s.sendAbandon d e wanted) := by
  unfold State.sendAbandon
  split
  · exact request_acts s (h e) ..
  · exact .refl s

theorem abandon_acts (s : State) (hc : σ.closes) (h : ∀ e, σ.asks .switchAbandon e) (cause : SwitchCause) (r : Option SwitchReason)
    (k : Concern) : Acts σ s (s.abandon cause r k) := by
  unfold State.abandon
  split
  · exact (((sendAbandon_acts s h _ _ _).trans (sendAbandon_acts _ h _ _ _)).trans (Act.proposal hc rfl).acts).trans (switchRecord_acts _ hc ..)
  · exact .refl s

theorem settle_acts' (s : State) (hc : σ.closes) (h : ∀ e, σ.asks .switchAbandon e) : Acts σ s s.settle := by
  unfold State.settle
  split
  · exact (Act.proposal hc rfl).acts.trans (abandon_acts _ hc h ..)
  · exact .refl s

/-- The close of an event (log entry 34). -/
theorem settle_acts (s : State) : Acts .closing s s.settle := settle_acts' s trivial fun _ => rfl

theorem sendCommits_acts (s : State) (hc : σ.closes) (h : ∀ k e, σ.asks k e) (d : Direction) : Acts σ s (s.sendCommits d) := by
  have marked (u : State) (b : Bool) (m : CommitMark) : Acts σ u (u.markCommit b m) := (Act.proposal hc rfl).acts
  have asked (u : State) (e : EndNo) (p : List Byte) : Acts σ u (u.requestSwitch .switchCommit e p) := request_acts u (h _ _) ..
  have abandoned (u : State) (k : Concern) : Acts σ u (u.abandon .slots none k) := abandon_acts u hc (h _) ..
  unfold State.sendCommits
  split
  · exact abandoned ..
  · have first := (asked s s.first (s.neighbourPayload d)).trans (marked _ true (.queued ‹_›))
    dsimp only
    split
    · exact first.trans (abandoned ..)
    · exact (first.trans (asked ..)).trans (marked ..)

theorem judgeDrain_acts (s : State) (hc : σ.closes) (h : ∀ k e, σ.asks k e) : Acts σ s s.judgeDrain := by
  unfold State.judgeDrain
  split
  · split
    · exact .refl s
    · split
      · exact abandon_acts s hc (h _) ..
      · exact sendCommits_acts s hc h _
  · exact .refl s

/-- The scope of what follows a frame's leaving its slot: frames of the line controller and of the switching controller (R112, R168). -/
def Scope.emptying : Scope := ⟨fun _ => False, fun _ _ => True, True⟩

theorem Scope.closing_within_emptying : Scope.closing.Within .emptying := ⟨fun _ h => h, fun _ _ _ => trivial, fun _ => trivial⟩

theorem slotEmptied_acts (s : State) : Acts .emptying s s.slotEmptied :=
  (serveFirstOwed_acts s fun _ => trivial).trans (judgeDrain_acts _ trivial fun _ _ => trivial)

end Sys2Proof.Machine
end

section
/-! PROOFS. What a request for a slot is answered and what it puts there (R107, R109, R110). -/

namespace Sys2Proof.Machine

/-! ### Room in the slots -/

/-- Every slot is full, and none holds a frame that gives way to one of a class (R110). -/
def Line.NoRoom (l : Line) (cls : Nat) : Prop := ∀ i : Fin 8, ∃ f, l.slots[i] = some f ∧ (f.onLine = true ∨ f.kind.cls ≤ cls)

theorem emptySlot_ne_none {l : Line} {i : Fin 8} (h : l.slots[i] = none) : l.emptySlot ≠ none := fun he => by
  have := List.find?_eq_none.mp he i (List.mem_finRange i)
  simp [h] at this

theorem noRoom_iff (l : Line) (cls : Nat) : l.NoRoom cls ↔ l.emptySlot = none ∧ l.victim cls = none := by
  refine ⟨fun h => ⟨?_, ?_⟩, fun ⟨he, hv⟩ i => ?_⟩
  · cases hi : l.emptySlot with
    | none => rfl
    | some i =>
      obtain ⟨f, hf, _⟩ := h i
      cases (emptySlot_none hi).symm.trans hf
  · cases hi : l.victim cls with
    | none => rfl
    | some i =>
      obtain ⟨g, hg, off, hc⟩ := victim_some hi
      obtain ⟨f, hf, hr⟩ := h i
      cases hf.symm.trans hg
      rcases hr with hr | hr
      · cases off.symm.trans hr
      · omega
  · cases hf : l.slots[i] with
    | none => exact absurd he (emptySlot_ne_none hf)
    | some f =>
      refine ⟨f, rfl, ?_⟩
      by_contra hn
      obtain ⟨off, hc⟩ := not_or.mp hn
      exact victim_ne_none hf (by simpa using off) (Nat.lt_of_not_le hc) hv

/-- A STATUS that is raised takes no room from a frame of a more urgent class, and makes none (R110, R111). -/
theorem raiseStatus_noRoom (s : State) (e : EndNo) {cls : Nat} (hc : cls < 3) : (s.raiseStatus e).line.NoRoom cls ↔ s.line.NoRoom cls := by
  unfold State.raiseStatus
  split
  · rename_i i hi
    obtain ⟨f, hf, -⟩ := slotOf_some hi
    rw [State.modLine_line, modSlot_some _ _ hf]
    refine forall_congr' fun j => ?_
    by_cases hj : i = j
    · subst hj
      rw [slot_set_self, hf]
      simp [Frame.coalesce]
    · rw [slot_set_ne _ _ hj]
  · split
    · rename_i i hi
      refine ⟨fun h => ?_, fun h => ?_⟩
      · obtain ⟨f, hf, hr⟩ := h i
        cases (slot_set_self _ _ _).symm.trans hf
        rcases hr with hr | hr
        · cases hr
        · exact absurd hr (by simp [FrameKind.cls]; omega)
      · obtain ⟨f, hf, -⟩ := h i
        cases (emptySlot_none hi).symm.trans hf
    · exact Iff.rfl

/-! ### The answer (R107, R109, R110) -/

theorem answerTo_eq {s : State} {k : FrameKind} (hk : k.composed = false) (e : EndNo) :
    (s.line.NoRoom k.cls → s.answerTo k e = .refused) ∧ (¬s.line.NoRoom k.cls → s.answerTo k e = .queued s.line.nextSeq) := by
  have uncomposed : ¬(k.composed = true ∧ s.line.slotOf k e ≠ none) := by simp [hk]
  rw [noRoom_iff]
  unfold State.answerTo
  rw [if_neg uncomposed]
  refine ⟨fun ⟨he, hv⟩ => ?_, fun h => ?_⟩
  · rw [if_neg (not_not_intro he), if_neg (not_not_intro hv)]
  · by_cases he : s.line.emptySlot = none
    · rw [if_neg (not_not_intro he), if_pos fun hv => h ⟨he, hv⟩]
    · rw [if_pos he]

theorem answerTo_refused_iff {s : State} {k : FrameKind} (hk : k.composed = false) (e : EndNo) :
    s.answerTo k e = .refused ↔ s.line.NoRoom k.cls := by
  obtain ⟨yes, no⟩ := answerTo_eq (s := s) hk e
  refine ⟨fun h => ?_, yes⟩
  by_contra hn
  cases (no hn).symm.trans h

/-- A frame that is not composed at its start is queued or refused. -/
theorem answerTo_cases (s : State) {k : FrameKind} (hk : k.composed = false) (e : EndNo) :
    s.answerTo k e = .refused ∨ s.answerTo k e = .queued s.line.nextSeq := by
  obtain ⟨yes, no⟩ := answerTo_eq (s := s) hk e
  by_cases h : s.line.NoRoom k.cls
  · exact .inl (yes h)
  · exact .inr (no h)

theorem reportEvicted_slots (s : State) (f : Frame) : (s.reportEvicted f).line.slots = s.line.slots := by
  rw [reportEvicted_line]
  split <;> rfl

/-- A request answered QUEUED has put its frame in a slot (R107, R110). -/
theorem request_queued {s : State} {k : FrameKind} {e : EndNo} {n : Nat} (h : s.answerTo k e = .queued n) (dest : Nat) (payload : List Byte) :
    ∃ i : Fin 8, (s.request k e dest payload).line.slots[i] =
      some { kind := k, e := e, dest := dest, payload := payload, seq := n } := by
  have number : n = s.line.nextSeq ∧ (if k.composed then s.line.slotOf k e else none) = none := by
    unfold State.answerTo at h
    split at h
    · cases h
    · rename_i hc
      refine ⟨?_, ?_⟩
      · split at h
        · cases h; rfl
        · split at h
          · cases h; rfl
          · cases h
      · split
        · rename_i hk
          by_contra hs
          exact hc ⟨hk, hs⟩
        · rfl
  obtain ⟨rfl, merged⟩ := number
  unfold State.request
  rw [merged]
  dsimp only
  split
  · rename_i i _
    exact ⟨i, slot_set_self ..⟩
  · rename_i he
    split
    · rename_i i hi
      obtain ⟨f, hf, -⟩ := victim_some hi
      rw [hf]
      refine ⟨i, ?_⟩
      dsimp only
      rw [reportEvicted_slots, State.modLine_line]
      rw [append_line]
      exact slot_set_self ..
    · rename_i hv
      unfold State.answerTo at h
      simp only [he, hv, ne_eq, not_true, if_false] at h
      split at h <;> cases h

theorem request_slotHolds {s : State} {k : FrameKind} {e : EndNo} {n : Nat} (h : s.answerTo k e = .queued n) (dest : Nat) (payload : List Byte) :
    (s.request k e dest payload).slotHolds k e dest payload n := by
  obtain ⟨i, hi⟩ := request_queued h dest payload
  exact ⟨i, _, hi, rfl, rfl, rfl, rfl, rfl⟩

/-- A frame of the most urgent class that has found a slot keeps it through whatever follows (R110). -/
theorem Acts.slotHolds {σ : Scope} {s t : State} (h : Acts σ s t) {k : FrameKind} (hk : k.cls = 0) {e : EndNo} {dest : Nat} {payload : List Byte}
    {n : Nat} (hs : s.slotHolds k e dest payload n) : t.slotHolds k e dest payload n := by
  obtain ⟨i, f, hf, rfl, hr⟩ := hs
  exact ⟨i, f, h.line.urgent hf hk, rfl, hr⟩

theorem slotHolds_of_line {s t : State} (hl : t.line = s.line) {k : FrameKind} {e : EndNo} {dest : Nat} {payload : List Byte} {n : Nat}
    (hs : s.slotHolds k e dest payload n) : t.slotHolds k e dest payload n := by
  unfold State.slotHolds
  rwa [hl]

/-! ### What a request touches beside the slots -/

/-- What a request makes of the line depends on the line alone. -/
theorem request_line_congr {s t : State} (hl : t.line = s.line) (k : FrameKind) (e : EndNo) (dest : Nat) (payload : List Byte) :
    (t.request k e dest payload).line = (s.request k e dest payload).line := by
  unfold State.request
  rw [hl]
  dsimp only
  split
  · simp [hl]
  · split
    · simp [hl]
    · split
      · rename_i i _
        cases hf : s.line.slots[i] with
        | none => simp [hl]
        | some f => simp only [reportEvicted_line, State.modLine_line, append_line, hl]
      · exact hl

/-- A request that is not of the most urgent class evicts no frame of the reset procedure: it leaves what records, slots and bells leave (R110). -/
theorem request_leaves {α : Type} (p : State → α) (append : ∀ s r, p (State.append s r) = p s) (line : ∀ s f, p (State.modLine s f) = p s)
    (bell : ∀ s e f, p (State.modBell s e f) = p s) {s : State} {k : FrameKind} (hk : 1 ≤ k.cls) (e : EndNo) (dest : Nat)
    (payload : List Byte) : p (s.request k e dest payload) = p s := by
  unfold State.request
  dsimp only
  split
  · exact line ..
  · split
    · exact line ..
    · split
      · rename_i i hi
        obtain ⟨f, hf, -, hc⟩ := victim_some hi
        rw [hf]
        dsimp only
        have placed (u : State) (g : Line → Line) (r : Event) (hu : u = (s.append r).modLine g) : p u = p s := by
          rw [hu, line, append]
        have above : 1 < f.kind.cls := Nat.lt_of_le_of_lt hk hc
        unfold State.reportEvicted
        split <;> rename_i h <;> rw [h] at above
        case h_1 => exact (line _ _).trans (placed _ _ _ rfl)
        case h_2 => exact (bell _ _ _).trans (placed _ _ _ rfl)
        case h_9 => exact placed _ _ _ rfl
        case h_10 => exact placed _ _ _ rfl
        all_goals exact absurd above (by decide)
      · rfl

theorem request_sects {s : State} {k : FrameKind} (hk : 1 ≤ k.cls) (e : EndNo) (dest : Nat) (payload : List Byte) :
    (s.request k e dest payload).sects = s.sects :=
  request_leaves State.sects append_sects (fun _ _ => rfl) (fun _ _ _ => rfl) hk ..

theorem request_switching {s : State} {k : FrameKind} (hk : 1 ≤ k.cls) (e : EndNo) (dest : Nat) (payload : List Byte) :
    (s.request k e dest payload).switching = s.switching :=
  request_leaves State.switching append_switching (fun _ _ => rfl) (fun _ _ _ => rfl) hk ..

end Sys2Proof.Machine
end

section
/-! PROOFS. The heads (R59 to R63): what a step makes of a head, and HEAD_STEP, O24. -/

namespace Sys2Proof.Machine

/-! ### A step of a head (R60 to R62) -/

theorem illegal_patternOf (a b a' b' : Bool) : illegal (patternOf a b) (patternOf a' b') = true ↔ a' ≠ a ∧ b' ≠ b := by
  revert a b a' b'
  decide

theorem passageCount_counted (entry : Side) (exit : Pattern) (up : Bool) :
    passageCount entry exit = .counted up ↔ entry = (if up then .a else .b) ∧ exit = (if up then .b else .a) := by
  cases entry <;> cases exit <;> cases up <;> simp [passageCount]

/-- A wheel is counted as it leaves by the side it did not enter by (R61). -/
theorem stepOutcome_counted (t : Tracking) (old new : Pattern) (up : Bool) :
    stepOutcome t old new = .counted up ↔
      t.entered (if up then .a else .b) = true ∧ old = (if up then .b else .a) ∧ new = .none := by
  unfold stepOutcome
  by_cases hi : illegal old new = true
  · rw [if_pos hi]
    refine iff_of_false (by cases t <;> simp) ?_
    rintro ⟨-, rfl, rfl⟩
    cases up <;> cases hi
  · rw [if_neg hi]
    split
    · rw [passageCount_counted]
      simp [Tracking.entered]
    · rename_i hn
      refine iff_of_false (by simp) ?_
      rintro ⟨ht, -, rfl⟩
      cases t with
      | passage entry last => exact hn entry last rfl rfl
      | idle => cases ht
      | resync => cases ht

/-- The side by which a passage was entered. -/
def Tracking.side (t : Tracking) : Option Side :=
  match t with
  | .passage entry _ => some entry
  | .idle => none
  | .resync => none

theorem stepOutcome_illegal {t : Tracking} {old new : Pattern} (h : illegal old new = true) :
    stepOutcome t old new = if t = .resync then .fault false none else .fault true t.side := by
  unfold stepOutcome
  rw [if_pos h]
  cases t <;> rfl

theorem stepOutcome_legal {t : Tracking} {old new : Pattern} (h : illegal old new = false) :
    stepOutcome t old new = .nothing ∨ ∃ up, stepOutcome t old new = .counted up := by
  unfold stepOutcome
  rw [if_neg (by simp [h])]
  split
  · unfold passageCount
    split
    · exact .inr ⟨_, rfl⟩
    · exact .inr ⟨_, rfl⟩
    · exact .inl rfl
  · exact .inl rfl

/-- What a step leaves of a head, whatever it comes to. -/
theorem headStep_base (old new : Pattern) (x : Head) :
    Head.step old new x = { x with
      tracking := trackingAfter x.tracking old new, error := errorAfter x.error old new
      up := if x.tracking.entered .a = true ∧ old = .b ∧ new = .none then (x.up + 1) % 65536 else x.up
      down := if x.tracking.entered .b = true ∧ old = .a ∧ new = .none then (x.down + 1) % 65536 else x.down
      errors := if illegal old new = true ∧ x.tracking ≠ .resync then min 255 (x.errors + 1) else x.errors } := by
  have up := stepOutcome_counted x.tracking old new true
  have down := stepOutcome_counted x.tracking old new false
  simp only [if_true, Bool.false_eq_true, if_false] at up down
  unfold Head.step
  rw [if_congr up.symm rfl rfl, if_congr down.symm rfl rfl]
  cases hi : illegal old new with
  | true =>
    rw [stepOutcome_illegal hi]
    by_cases hr : x.tracking = .resync <;> simp [hr]
  | false =>
    rcases stepOutcome_legal (t := x.tracking) hi with h | ⟨up, h⟩
    · simp [h]
    · cases up <;> simp [h]

theorem takeStep_base (s : State) (h : HeadNo) (old new : Pattern) : (s.takeStep h old new).base = (s.modHead h (Head.step old new)).base := by
  unfold State.takeStep
  dsimp only
  split
  · rfl
  · simp
  · simp [State.headErrorRecord]
  · simp

/-- The change events of a head's sensors are taken (R59). -/
def State.sensorsTaken (s : State) (h : HeadNo) : State :=
  s.modHead h fun x => { x with a := x.a.settle debounce2 s.now, b := x.b.settle debounce2 s.now }

/-- The pattern of a head once its sensors' change events are taken. -/
def State.patternTaken (s : State) (h : HeadNo) : Pattern :=
  patternOf (s.heads[h].a.settle debounce2 s.now).value (s.heads[h].b.settle debounce2 s.now).value

theorem sensorsTaken_pattern (s : State) (h : HeadNo) : (s.sensorsTaken h).heads[h].pattern = s.patternTaken h := by
  simp only [Head.pattern, State.sensorsTaken, State.modHead, upd_self, State.patternTaken]

theorem headStep_inactive {s : State} {h : HeadNo} (due : s.sensorDue h = true) (ha : s.active = false) : s.headStep h = s.sensorsTaken h := by
  unfold State.headStep
  rw [if_pos due]
  dsimp only
  rw [if_neg (by simp [ha])]
  rfl

theorem headStep_active {s : State} {h : HeadNo} (due : s.sensorDue h = true) (ha : s.active = true) :
    s.headStep h = (s.sensorsTaken h).takeStep h s.heads[h].pattern (s.patternTaken h) := by
  unfold State.headStep
  rw [if_pos due]
  dsimp only
  rw [if_pos ha, ← sensorsTaken_pattern]
  rfl

/-- What HEAD_STEP makes of the heads, in a part that is active. -/
theorem headStep_heads {s : State} {h : HeadNo} (due : s.sensorDue h = true) (ha : s.active = true) :
    (s.headStep h).settle.base = (s.modHead h fun x => Head.step s.heads[h].pattern (s.patternTaken h)
      { x with a := x.a.settle debounce2 s.now, b := x.b.settle debounce2 s.now }).base := by
  rw [settle_base, headStep_active due ha, takeStep_base]
  simp only [State.sensorsTaken, State.modHead, State.base, upd, Vector.getElem_set_self, Vector.set_set, Fin.getElem_fin]

/-- The tracking state that a legal step to a covered pattern leads to (R60, R61). -/
def Tracking.follow (t : Tracking) (new : Pattern) : Tracking :=
  match t, new with
  | .idle, .a => .passage .a .a
  | .idle, .b => .passage .b .b
  | .idle, _ => .idle
  | .passage side _, _ => .passage side new
  | .resync, _ => .resync

theorem trackingAfter_legal {t : Tracking} {old new : Pattern} (legal : illegal old new = false) (hn : new ≠ .none) :
    trackingAfter t old new = t.follow new := by
  unfold trackingAfter
  rw [if_neg (by simp [legal])]
  cases new with
  | none => exact absurd rfl hn
  | a => cases t <;> rfl
  | b => cases t <;> rfl
  | ab => cases t <;> rfl

theorem trackingAfter_illegal {t : Tracking} {old new : Pattern} (h : illegal old new = true) (hn : new ≠ .none) :
    trackingAfter t old new = .resync := by
  unfold trackingAfter
  rw [if_pos h]
  cases new with
  | none => exact absurd rfl hn
  | _ => rfl

theorem errorAfter_covered {new : Pattern} (hn : new ≠ .none) (error : Bool) (old : Pattern) :
    errorAfter error old new = (error || illegal old new) := by
  cases new with
  | none => exact absurd rfl hn
  | _ => rfl

/-- Settles O24: HEAD_STEP is a step of the head alone, as far as the heads go. -/
theorem headStepTracksWheels : Obligations.HeadStepTracksWheels := by
  unfold Obligations.HeadStepTracksWheels
  intro s h hq due
  dsimp only
  refine ⟨fun ha => ?_, fun ha => ?_⟩
  · have quiet : (s.sensorsTaken h).settle = s.sensorsTaken h := settle_quiet hq
    exact congrArg Host.Outcome.next ((congrArg State.settle (headStep_inactive due ha)).trans quiet)
  have base := headStep_heads due ha
  obtain ⟨-, -, -, -, levers, track, heads, -⟩ := State.base_eq base
  have frame := State.sameFrame_of_base base
  refine ⟨(s.headStep h).settle, rfl, frame, levers, track, fun h' hne => ?_, ?_⟩
  · rw [heads]
    exact upd_ne _ _ (Ne.symm hne)
  have stepped : (s.headStep h).settle.heads[h] = Head.step s.heads[h].pattern (s.patternTaken h)
      { s.heads[h] with a := s.heads[h].a.settle debounce2 s.now, b := s.heads[h].b.settle debounce2 s.now } := by
    rw [heads]
    exact upd_self ..
  have fault := illegal_patternOf s.heads[h].a.value s.heads[h].b.value (s.heads[h].a.settle debounce2 s.now).value
    (s.heads[h].b.settle debounce2 s.now).value
  change illegal s.heads[h].pattern (s.patternTaken h) = true ↔ _ at fault
  have legal (hl : ¬(_ ∧ _)) : illegal s.heads[h].pattern (s.patternTaken h) = false := Bool.not_eq_true _ ▸ fun h => hl (fault.mp h)
  rw [stepped, headStep_base]
  refine ⟨rfl, rfl, fun (hn : s.patternTaken h = .none) => ?_, fun hi (hn : s.patternTaken h ≠ .none) => ?_,
    fun hl (hn : s.patternTaken h ≠ .none) => ?_, fun hl ht (hn : s.patternTaken h = .a) => ?_,
    fun hl ht (hn : s.patternTaken h = .b) => ?_, fun side last hl ht (hn : s.patternTaken h ≠ .none) => ?_,
    fun hl ht (hn : s.patternTaken h ≠ .none) => ?_, rfl, rfl, if_congr (and_congr_left' fault) rfl rfl⟩
  · rw [hn]
    exact ⟨rfl, rfl⟩
  · refine ⟨trackingAfter_illegal (fault.mpr hi) hn, ?_⟩
    rw [errorAfter_covered hn, fault.mpr hi, Bool.or_true]
  · rw [errorAfter_covered hn, legal hl, Bool.or_false]
  · exact (trackingAfter_legal (legal hl) (by rw [hn]; decide)).trans (by rw [ht, hn]; rfl)
  · exact (trackingAfter_legal (legal hl) (by rw [hn]; decide)).trans (by rw [ht, hn]; rfl)
  · exact (trackingAfter_legal (legal hl) hn).trans (by rw [ht]; rfl)
  · exact (trackingAfter_legal (legal hl) hn).trans (by rw [ht]; rfl)

end Sys2Proof.Machine
end

section
/-! PROOFS. The count sections and the reset procedure (sections 4.4 to 4.9): O26 to O29. -/

namespace Sys2Proof.Machine

/-! ### A section's state and its data -/

/-- A change of a section's data that touches neither its nets nor its latch leaves every state (R66). -/
theorem modSect_sectState (s : State) (c c' : SectNo) {f : Sect → Sect} (hf : (f s.sects[c]).localNet = s.sects[c].localNet ∧
    (f s.sects[c]).remote = s.sects[c].remote ∧ (f s.sects[c]).latch = s.sects[c].latch) :
    (s.modSect c f).sectState c' = s.sectState c' := by
  show sectState s.cfg.sects[c'].type (upd s.sects c f)[c'] = sectState s.cfg.sects[c'].type s.sects[c']
  by_cases h : c = c'
  · subst h
    rw [upd_self]
    unfold sectState content
    rw [hf.1, hf.2.1, hf.2.2]
  · rw [upd_ne _ _ h]

theorem sectState_disturbed {t : SectType} {x : Sect} (h : x.latch = .disturbed) : sectState t x = .disturbed := by
  unfold sectState
  rw [h]

theorem sectState_resetPrep {t : SectType} {x : Sect} (h : x.latch = .resetPrep) : sectState t x = .resetPrep := by
  unfold sectState
  rw [h]

/-- The states of sections depend on the sections' data and the configuration alone. -/
theorem sectState_congr {s t : State} {c : SectNo} (hc : t.cfg = s.cfg) (hs : t.sects[c] = s.sects[c]) : t.sectState c = s.sectState c := by
  unfold State.sectState
  rw [hc, hs]

theorem settleKey_sectState (s : State) (c c' : SectNo) : (s.settleKey c).sectState c' = s.sectState c' :=
  modSect_sectState s c c' ⟨rfl, rfl, rfl⟩

theorem settleKey_self (s : State) (c : SectNo) :
    (s.settleKey c).sects[c] = { s.sects[c] with key := s.sects[c].key.settle debounce50 s.now } := upd_self ..

theorem sectOf_some {s : State} {e : EndNo} {c : SectNo} (h : s.sectOf e = some c) :
    s.cfg.sects[c].configured = true ∧ s.cfg.sects[c].type = .block ∧ s.cfg.sects[c].blockEnd = e.val := by
  have := List.find?_some h
  simpa only [Bool.and_eq_true, decide_eq_true_eq, and_assoc] using this

theorem sectEnd_block {s : State} {c : SectNo} {e : EndNo} (h : s.sectEnd c = some e) : s.cfg.sects[c].type = .block := by
  unfold State.sectEnd at h
  split at h
  · assumption
  · cases h

theorem sectEnd_of_sectOf {s : State} {e : EndNo} {c : SectNo} (h : s.sectOf e = some c) : s.sectEnd c = some e := by
  obtain ⟨-, block, he⟩ := sectOf_some h
  unfold State.sectEnd
  rw [if_pos block, he, endOf_val]

theorem sectEnd_local {s : State} {c : SectNo} (h : s.cfg.sects[c].type = .localSect) : s.sectEnd c = none := by
  unfold State.sectEnd
  rw [if_neg (by rw [h]; decide)]

/-! ### The record of a section's change of state (R80) -/

theorem reportSect_recordedFirst {s s0 : State} {c : SectNo} (h : s0.sectState c ≠ s.sectState c) :
    RecordedFirst s (s.reportSect s0 c)
      { time := s.partTime, kind := .countStateChanged, subject := c.val + 1, old := (s0.sectState c).code, new := (s.sectState c).code
        d1 := hi s.sects[c].localNet, d2 := lo s.sects[c].localNet
        d3 := hi (netCode s.sects[c].remote), d4 := lo (netCode s.sects[c].remote) } := by
  unfold State.reportSect
  dsimp only
  rw [if_neg h]
  have first : RecordedFirst s (((s.append
      { kind := .countStateChanged, subject := c.val + 1, old := (s0.sectState c).code, new := (s.sectState c).code
        d1 := hi s.sects[c].localNet, d2 := lo s.sects[c].localNet
        d3 := hi (netCode s.sects[c].remote), d4 := lo (netCode s.sects[c].remote) }).reportCountToCombiner c).reportCount c) _ :=
    RecordedFirst.then ⟨[], append_recorded ..⟩ ((reportCountToCombiner_aftermath _ c).trans (reportCount_aftermath _ c))
  split
  · split
    · exact first.then (trainEntry_aftermath ..)
    · exact first
  · exact first

theorem resetRecord_recorded (s s0 : State) (c : SectNo) (o : ResetOutcome) :
    Recorded s (s.resetRecord s0 c o)
      [{ time := s.partTime, kind := .countReset, subject := c.val + 1, old := (s0.sectState c).code, new := (s.sectState c).code
         d1 := o.code, d2 := s.sectEndCode c, d3 := hi s0.sects[c].localNet, d4 := lo s0.sects[c].localNet }] := append_recorded ..

/-! ### The close of an event that has done no more than its own row -/

theorem append_quiet {s : State} (h : s.quiet) (r : Event) : (s.append r).quiet := by
  unfold State.quiet
  rwa [append_switching]

theorem resetRecord_quiet {s : State} (h : s.quiet) (s0 : State) (c : SectNo) (o : ResetOutcome) : (s.resetRecord s0 c o).quiet :=
  append_quiet h _

theorem next_settle {s u : State} (h : s = u) : (.next s.settle : Host.Outcome State Fault Refusal) = .next u.settle := by rw [h]

theorem next_quiet {s u : State} (h : s = u) (hu : u.quiet) : (.next s.settle : Host.Outcome State Fault Refusal) = .next u := by
  rw [h, settle_quiet hu]

/-! ### The key pressed (R71, R72) -/

theorem countResetKeyPress_disregarded {s : State} {c : SectNo} (due : s.keyDue c true = true)
    (h : ¬(s.active = true ∧ s.cfg.sects[c].configured = true)) : s.countResetKeyPress c = s.settleKey c := by
  unfold State.countResetKeyPress
  rw [if_pos due]
  dsimp only
  rw [if_neg (by simpa only [Bool.and_eq_true] using h)]

theorem countResetKeyPress_taken {s : State} {c : SectNo} (due : s.keyDue c true = true)
    (h : s.active = true ∧ s.cfg.sects[c].configured = true) : s.countResetKeyPress c = (s.settleKey c).pressKey c := by
  unfold State.countResetKeyPress
  rw [if_pos due]
  dsimp only
  rw [if_pos (by simpa only [Bool.and_eq_true] using h)]

/-- Settles O27: the press is disregarded, refused, or it zeroes a section that no block end has. -/
theorem resetKeyOnClearOrLocalSection : Obligations.ResetKeyOnClearOrLocalSection := by
  unfold Obligations.ResetKeyOnClearOrLocalSection
  intro s c hq due
  have quiet : (s.settleKey c).quiet := hq
  refine ⟨fun hn => ?_, fun ht hclear => ?_, fun ht hclear hlocal => ?_⟩
  · exact next_quiet (countResetKeyPress_disregarded due hn) quiet
  · have pressed : s.countResetKeyPress c = (s.settleKey c).append
        { kind := .countReset, subject := c.val + 1, old := 0, new := 0, d1 := 11, d2 := s.sectEndCode c
          d3 := hi s.sects[c].localNet, d4 := lo s.sects[c].localNet } := by
      rw [countResetKeyPress_taken due ht]
      unfold State.pressKey
      rw [settleKey_sectState, if_pos hclear]
      unfold State.refusePress State.resetRecord
      rw [settleKey_sectState, hclear, settleKey_self]
      rfl
    exact next_quiet pressed (append_quiet quiet _)
  · obtain ⟨u, hu⟩ : ∃ u, u = ((s.settleKey c).changeSect c Sect.zeroLocal).resetRecord (s.settleKey c) c .localReset := ⟨_, rfl⟩
    have pressed : s.countResetKeyPress c = u := by
      rw [hu, countResetKeyPress_taken due ht]
      unfold State.pressKey
      rw [settleKey_sectState, if_neg hclear, sectEnd_local (s := s.settleKey c) hlocal]
    have base : u.settle.base = s.base := by
      rw [hu]
      simp [State.settleKey]
    have closed : Acts .closing u u.settle := settle_acts _
    have noEnd (e : EndNo) : u.sectOf e ≠ some c := fun he => by
      obtain ⟨-, block, -⟩ := sectOf_some he
      rw [← closed.cfg, cfg_of_base base, hlocal] at block
      cases block
    have zeroed : u.settle.sects[c] = { s.sects[c] with
        key := s.sects[c].key.settle (ms 50) s.now, localNet := 0, latch := .resetPrep, swept := false } := by
      rw [closed.sect_local noEnd, hu, resetRecord_sects, changeSect_sects, upd_self, settleKey_self]
      rfl
    obtain ⟨-, -, -, -, levers, track, heads, -⟩ := State.base_eq base
    refine ⟨u.settle, next_settle pressed, State.sameFrame_of_base base, levers, track, heads, zeroed,
      sectState_resetPrep (by rw [zeroed]), ?_⟩
    obtain ⟨l, hl⟩ := (changeSect_aftermath (s.settleKey c) c Sect.zeroLocal).records
    obtain ⟨m, hm, -⟩ := closed.records
    have zeroing : Recorded s (s.settleKey c) [] := recorded_refl rfl
    have outcome : Recorded _ u _ := hu ▸ resetRecord_recorded ((s.settleKey c).changeSect c Sect.zeroLocal) (s.settleKey c) c .localReset
    exact ⟨_, _, recorded_trans (recorded_trans (recorded_trans zeroing hl) outcome) hm,
      List.mem_append_left _ (List.mem_append_right _ List.mem_cons_self), rfl, rfl, rfl⟩

end Sys2Proof.Machine
end

section
/-! PROOFS. The cooperative reset of a BLOCK section (R74 to R78): O28, O29. -/

namespace Sys2Proof.Machine

/-! ### The section is zeroed with a RESET_CONFIRM queued (R76) -/

/-- A BLOCK section's data with the reset confirmed under a number (R76). -/
def Sect.confirmed (n : Nat) (x : Sect) : Sect := { x.zero with held := none, pending := none, confirming := some n }

theorem confirmReset_eq (s : State) (c : SectNo) (e : EndNo) (n : Nat) (o : ResetOutcome) :
    s.confirmReset c e n o = ((s.request .resetConfirm e (s.peerId e) []).changeSect c (Sect.confirmed n)).resetRecord s c o := rfl

theorem confirmReset_sects (s : State) (c : SectNo) (e : EndNo) (n : Nat) (o : ResetOutcome) :
    (s.confirmReset c e n o).sects = upd s.sects c (Sect.confirmed n) := by
  rw [confirmReset_eq, resetRecord_sects, changeSect_sects, request_sects (by decide)]

/-- A BLOCK section that has lost its remote net has no content that a train could be judged by (R66). -/
theorem modSect_not_entry {s : State} {c : SectNo} (block : s.cfg.sects[c].type = .block) {f : Sect → Sect}
    (hf : (f s.sects[c]).remote = none) : ¬(s.indication c = .zero ∧ (s.modSect c f).indication c = .nonzero) := by
  rintro ⟨-, h⟩
  have remote : (s.modSect c f).sects[c].remote = none := by rw [modSect_self, hf]
  have block : (s.modSect c f).cfg.sects[c].type = .block := block
  simp only [State.indication, indication, content, block, remote, Option.map_none, reduceCtorEq] at h

section
variable {s : State} {c : SectNo} {e : EndNo} {n : Nat}

theorem request_type {k : FrameKind} {dest : Nat} {payload : List Byte} (block : s.cfg.sects[c].type = .block) :
    (s.request k e dest payload).cfg.sects[c].type = .block := by
  rw [cfg_of_base (request_base ..)]
  exact block

theorem confirmReset_line (block : s.cfg.sects[c].type = .block) (o : ResetOutcome) :
    (s.confirmReset c e n o).line = (s.request .resetConfirm e (s.peerId e) []).line := by
  rw [confirmReset_eq, resetRecord_line, changeSect_noEntry_line _ _ _ (modSect_not_entry (request_type block) rfl)]

theorem confirmReset_blocks (block : s.cfg.sects[c].type = .block) (o : ResetOutcome) : (s.confirmReset c e n o).blocks = s.blocks := by
  rw [confirmReset_eq, resetRecord_blocks, changeSect_noEntry_blocks _ _ _ (modSect_not_entry (request_type block) rfl), request_blocks]

theorem confirmReset_slotHolds (block : s.cfg.sects[c].type = .block) (h : s.answerTo .resetConfirm e = .queued n) (o : ResetOutcome) :
    (s.confirmReset c e n o).slotHolds .resetConfirm e (s.peerId e) [] n :=
  slotHolds_of_line (confirmReset_line block o) (request_slotHolds h ..)

theorem confirmReset_acts (o : ResetOutcome) : Acts (.asking .resetConfirm e)
    ((s.request .resetConfirm e (s.peerId e) []).modSect c (Sect.confirmed n)) (s.confirmReset c e n o) := by
  refine (changeSect_acts _ _ _ fun e' h => ?_).trans (resetRecord_acts ..)
  exact absurd h (not_entersAt_of_remote (by rw [modSect_self]; rfl) e')

/-- The change of state, where there is one, is recorded before the outcome (R80). -/
theorem confirmReset_records (o : ResetOutcome) : ∃ l, Recorded s (s.confirmReset c e n o) l ∧
    l.getLast? = some { time := s.partTime, kind := .countReset, subject := c.val + 1, old := (s.sectState c).code, new := 3
                        d1 := o.code, d2 := s.sectEndCode c, d3 := hi s.sects[c].localNet, d4 := lo s.sects[c].localNet } ∧
    (s.sectState c ≠ .resetPrep →
      { time := s.partTime, kind := .countStateChanged, subject := c.val + 1, old := (s.sectState c).code, new := 3, d1 := 0, d2 := 0
        d3 := 255, d4 := 255 } ∈ l) := by
  obtain ⟨u, hu⟩ : ∃ u, u = s.request .resetConfirm e (s.peerId e) [] := ⟨_, rfl⟩
  obtain ⟨v, hv⟩ : ∃ v, v = u.modSect c (Sect.confirmed n) := ⟨_, rfl⟩
  have asked : Acts (.asking .resetConfirm e) s u := hu ▸ request_acts (σ := .asking .resetConfirm e) s ⟨rfl, rfl⟩ _ _
  have confirmed : Acts (.asking .resetConfirm e) v (v.reportSect u c) := reportSect_acts _ _ _ fun e' h => by
    refine absurd h (not_entersAt_of_remote ?_ e')
    rw [hv, modSect_self]
    rfl
  have was : u.sectState c = s.sectState c := sectState_congr asked.cfg (by rw [hu, request_sects (by decide)])
  have is : v.sectState c = .resetPrep := sectState_resetPrep (by rw [hv, modSect_self]; rfl)
  have later : (v.reportSect u c).sectState c = .resetPrep := by
    rw [← is]
    exact sectState_congr confirmed.cfg (by simp)
  have zeroed : Recorded u v [] := recorded_refl (by rw [hv]; rfl)
  have whole : (v.reportSect u c).resetRecord s c o = s.confirmReset c e n o := by rw [hv, hu]; rfl
  have outcome := resetRecord_recorded (v.reportSect u c) s c o
  rw [whole, later, confirmed.partTime] at outcome
  have time : v.partTime = s.partTime := (by rw [hv]; rfl : v.partTime = u.partTime).trans asked.partTime
  obtain ⟨l, hl, -⟩ := asked.records
  obtain ⟨m, hm, changed⟩ : ∃ m, Recorded v (v.reportSect u c) m ∧ (s.sectState c ≠ .resetPrep →
      { time := s.partTime, kind := .countStateChanged, subject := c.val + 1, old := (s.sectState c).code, new := 3, d1 := 0, d2 := 0
        d3 := 255, d4 := 255 } ∈ m) := by
    by_cases h : s.sectState c = .resetPrep
    · obtain ⟨m, hm, -⟩ := confirmed.records
      exact ⟨m, hm, fun hn => absurd h hn⟩
    · have first := reportSect_recordedFirst (s := v) (s0 := u) (c := c) (by rw [was, is]; exact h)
      rw [was, is, time, show v.sects[c] = Sect.confirmed n u.sects[c] by rw [hv, modSect_self]] at first
      obtain ⟨m, hm⟩ := first
      exact ⟨_, hm, fun _ => List.mem_cons.mpr (.inl (by simp [Sect.confirmed, Sect.zero, SectState.code, netCode, hi, lo]))⟩
  have recorded := recorded_trans (recorded_trans (recorded_trans hl zeroed) hm) outcome
  have ends : (v.reportSect u c).sectEndCode c = s.sectEndCode c := by
    unfold State.sectEndCode
    rw [confirmed.sectEnd, show v.sectEnd c = u.sectEnd c by rw [hv]; rfl, asked.sectEnd]
  rw [time, ends] at recorded
  exact ⟨_, recorded, by simp; rfl, fun h => List.mem_append_left _ (List.mem_append_right _ (changed h))⟩

end

/-! ### A press on a BLOCK section (R74, R76) -/

theorem allowsReset_iff (st : BlockState) :
    st.allowsReset = true ↔ st = .normal ∨ st = .occupiedIn ∨ st = .occupiedOut ∨ st = .recovering := by
  cases st <;> simp [BlockState.allowsReset]

theorem pressKey_block {s : State} {c : SectNo} {e : EndNo} (he : s.sectEnd c = some e) (hc : s.sectState c ≠ .clear) :
    s.pressKey c = if s.sects[c].held.isSome then s.confirmHeld c e else s.startRequest c e := by
  unfold State.pressKey
  rw [if_neg hc, he]

/-- A section with a request pending, under a number (R74). -/
def Sect.requesting (until_ : Time) (n : Nat) (x : Sect) : Sect := { x with pending := some ⟨until_, n⟩ }

/-- The request that a press starts (R74). -/
def State.requested (s : State) (c : SectNo) (e : EndNo) (n : Nat) : State :=
  ((s.request .resetReq e (s.peerId e) []).modSect c (Sect.requesting (s.now + requestWindow) n)).resetRecord s c .requested

/-- What a press comes to, in the order of the checks (R74, R76): refused for the link, for the end's state or for the slots, or done. -/
structure State.ResetPress (s t : State) (c : SectNo) (e : EndNo) (k : FrameKind) (done : Nat → State) : Prop where
  link : s.line.link[e] ≠ true → t = s.refusePress c .refusedLink
  state : s.line.link[e] = true → s.blocks[e].state.allowsReset ≠ true → t = s.refusePress c .refusedBlockState
  slots : s.line.link[e] = true → s.blocks[e].state.allowsReset = true → s.answerTo k e = .refused → t = s.refusePress c .refusedSlots
  queued : s.line.link[e] = true → s.blocks[e].state.allowsReset = true → ∀ n, s.answerTo k e = .queued n → t = done n

theorem resetPress_of (s : State) (c : SectNo) (e : EndNo) (k : FrameKind) (done : Nat → State) :
    s.ResetPress (if !s.line.link[e] then s.refusePress c .refusedLink
      else if !s.blocks[e].state.allowsReset then s.refusePress c .refusedBlockState
      else match (s.answerTo k e).seq with
        | some n => done n
        | none => s.refusePress c .refusedSlots) c e k done := by
  refine ⟨fun hl => ?_, fun hl hs => ?_, fun hl hs ha => ?_, fun hl hs n ha => ?_⟩
  · rw [if_pos (by simpa using hl)]
  · rw [if_neg (by simpa using hl), if_pos (by simpa using hs)]
  · rw [if_neg (by simpa using hl), if_neg (by simpa using hs), ha]
    rfl
  · rw [if_neg (by simpa using hl), if_neg (by simpa using hs), ha]
    rfl

theorem startRequest_press {s : State} {c : SectNo} (hp : s.sects[c].pending = none) (e : EndNo) :
    s.ResetPress (s.startRequest c e) c e .resetReq (s.requested c e) := by
  have press := resetPress_of s c e .resetReq (s.requested c e)
  unfold State.startRequest
  rw [if_neg (by simp only [hp, Option.isSome_none, Bool.false_eq_true, not_false_iff])]
  exact press

theorem confirmHeld_press (s : State) (c : SectNo) (e : EndNo) :
    s.ResetPress (s.confirmHeld c e) c e .resetConfirm (s.confirmReset c e · .confirmed) :=
  resetPress_of s c e .resetConfirm (s.confirmReset c e · .confirmed)

section
variable (s : State) (c : SectNo) (e : EndNo) (n : Nat)

theorem requested_sects : (s.requested c e n).sects = upd s.sects c (Sect.requesting (s.now + requestWindow) n) := by
  simp only [State.requested, resetRecord_sects, State.modSect_sects, request_sects (k := .resetReq) (by decide)]

theorem requested_line : (s.requested c e n).line = (s.request .resetReq e (s.peerId e) []).line := by
  simp only [State.requested, resetRecord_line, State.modSect_line]

theorem requested_blocks : (s.requested c e n).blocks = s.blocks := by
  simp only [State.requested, resetRecord_blocks, State.modSect_blocks, request_blocks]

theorem requested_base : (s.requested c e n).base = s.base := by
  simp [State.requested]

theorem requested_switching : (s.requested c e n).switching = s.switching := by
  simp only [State.requested, State.resetRecord, append_switching, State.modSect_switching, request_switching (k := .resetReq) (by decide)]

theorem requested_records : ∃ l, Recorded s (s.requested c e n) l ∧
    l.getLast? = some { time := s.partTime, kind := .countReset, subject := c.val + 1, old := (s.sectState c).code
                        new := (s.sectState c).code, d1 := 2, d2 := s.sectEndCode c
                        d3 := hi s.sects[c].localNet, d4 := lo s.sects[c].localNet } := by
  obtain ⟨u, hu⟩ : ∃ u, u = s.request .resetReq e (s.peerId e) [] := ⟨_, rfl⟩
  have asked : Acts (.asking .resetReq e) s u := hu ▸ request_acts (σ := .asking .resetReq e) s ⟨rfl, rfl⟩ _ _
  obtain ⟨v, hv⟩ : ∃ v, v = u.modSect c (Sect.requesting (s.now + requestWindow) n) := ⟨_, rfl⟩
  have same : v.sectState c = s.sectState c := by
    rw [hv, modSect_sectState (f := Sect.requesting _ n) (hf := ⟨rfl, rfl, rfl⟩)]
    exact sectState_congr asked.cfg (by rw [hu, request_sects (by decide)])
  have outcome := resetRecord_recorded v s c .requested
  obtain ⟨l, hl, -⟩ := asked.records
  have pending : Recorded u v [] := recorded_refl (by rw [hv]; rfl)
  have recorded := recorded_trans (recorded_trans hl pending) outcome
  have time : v.partTime = s.partTime := (by rw [hv]; rfl : v.partTime = u.partTime).trans asked.partTime
  have ends : v.sectEndCode c = s.sectEndCode c := by
    unfold State.sectEndCode
    rw [show v.sectEnd c = u.sectEnd c by rw [hv]; rfl, asked.sectEnd]
  rw [same, time, ends, hv, hu] at recorded
  exact ⟨_, recorded, by rw [List.getLast?_concat]; rfl⟩

end

theorem countResetKeyPress_block {s : State} {c : SectNo} {e : EndNo} (ha : s.active = true) (due : s.keyDue c true = true)
    (hcfg : s.cfg.sects[c].configured = true) (he : s.sectEnd c = some e) (hc : s.sectState c ≠ .clear) :
    s.countResetKeyPress c = if s.sects[c].held.isSome then (s.settleKey c).confirmHeld c e else (s.settleKey c).startRequest c e := by
  rw [countResetKeyPress_taken due ⟨ha, hcfg⟩, pressKey_block (s := s.settleKey c) (e := e) he (by rwa [settleKey_sectState]), settleKey_self]

/-- The record of a press on an end's section (R80). -/
def State.pressRecord (s : State) (c : SectNo) (e : EndNo) (outcome new : Nat) : Event :=
  { time := s.partTime, kind := .countReset, subject := c.val + 1, old := (s.sectState c).code, new := new, d1 := outcome, d2 := e.val
    d3 := hi s.sects[c].localNet, d4 := lo s.sects[c].localNet }

theorem settleKey_refusePress {s : State} {c : SectNo} {e : EndNo} (he : s.sectEnd c = some e) (o : ResetOutcome) :
    (s.settleKey c).refusePress c o = (s.settleKey c).append (s.pressRecord c e o.code (s.sectState c).code) := by
  have code : (s.settleKey c).sectEndCode c = e.val := by
    unfold State.sectEndCode
    rw [show (s.settleKey c).sectEnd c = some e from he]
  unfold State.refusePress State.resetRecord
  rw [settleKey_sectState, code, settleKey_self]
  rfl

/-- The three refusals of a press, of whichever procedure: a record alone (R74, R76). -/
theorem resetPress_refused {s v : State} {c : SectNo} {e : EndNo} {k : FrameKind} {done : Nat → State}
    (quiet : s.quiet) (he : s.sectEnd c = some e) (press : (s.settleKey c).ResetPress v c e k done) {up allowed : Prop}
    (hup : up ↔ s.line.link[e] = true) (hallowed : allowed ↔ up ∧ s.blocks[e].state.allowsReset = true)
    {refused : Nat → Prop} (hr : ∀ n, (.next v.settle : Host.Outcome State Fault Refusal) =
      .next ((s.settleKey c).append (s.pressRecord c e n (s.sectState c).code)) → refused n) :
    (¬up → refused 12) ∧ (up → ¬allowed → refused 13) ∧ (allowed → s.answerTo k e = .refused → refused 14) := by
  have closed (o : ResetOutcome) (h : v = (s.settleKey c).refusePress c o) : refused o.code :=
    by
    have quiet : (s.settleKey c).quiet := quiet
    exact hr _ (next_quiet (h.trans (settleKey_refusePress he o)) (append_quiet quiet _))
  refine ⟨fun hn => closed .refusedLink (press.link fun h => hn (hup.mpr h)), fun h hn => ?_, fun h hans => ?_⟩
  · exact closed .refusedBlockState (press.state (hup.mp h) fun h' => hn (hallowed.mpr ⟨h, h'⟩))
  · obtain ⟨hl, hs⟩ := hallowed.mp h
    exact closed .refusedSlots (press.slots (hup.mp hl) hs hans)

/-- Settles O28: the checks of a press and what it does where they hold. -/
theorem resetKeyOnBlockSection : Obligations.ResetKeyOnBlockSection := by
  unfold Obligations.ResetKeyOnBlockSection
  intro s c e hq ha due hcfg he hclear
  have taken := countResetKeyPress_block ha due hcfg he hclear
  have quiet : (s.settleKey c).quiet := hq
  have self := settleKey_self s c
  have code : (s.settleKey c).sectEndCode c = e.val := by
    unfold State.sectEndCode
    rw [show (s.settleKey c).sectEnd c = some e from he]
  have others {t : State} {f : Sect → Sect} (h : t.sects = upd (s.settleKey c).sects c f) (c' : SectNo) (hne : c' ≠ c) :
      t.sects[c'] = s.sects[c'] := by
    rw [h, upd_ne _ _ (Ne.symm hne)]
    exact upd_ne _ _ (Ne.symm hne)
  have allowed : (s.line.link[e] = true ∧ (s.blocks[e].state = .normal ∨ s.blocks[e].state = .occupiedIn ∨
      s.blocks[e].state = .occupiedOut ∨ s.blocks[e].state = .recovering)) ↔ s.line.link[e] = true ∧ s.blocks[e].state.allowsReset = true :=
    and_congr_right' (allowsReset_iff _).symm
  dsimp only
  refine ⟨fun hh hp => ?_, fun hh hp => ?_, fun hh => ?_⟩
  · rw [hh, Option.isSome_none, if_neg Bool.false_ne_true] at taken
    have nothing : (s.settleKey c).startRequest c e = s.settleKey c := by
      unfold State.startRequest
      rw [if_pos (by rw [self]; exact Option.isSome_iff_ne_none.mpr hp)]
    exact next_quiet (taken.trans nothing) quiet
  · rw [hh, Option.isSome_none, if_neg Bool.false_ne_true] at taken
    have press := startRequest_press (s := s.settleKey c) (c := c) (by rw [self]; exact hp) e
    have refusals := resetPress_refused hq he press Iff.rfl allowed fun n h => (next_settle taken).trans h
    refine ⟨refusals.1, refusals.2.1, refusals.2.2, fun n hok hn => ?_⟩
    obtain ⟨hl, hs⟩ := allowed.mp hok
    have done := taken.trans (press.queued hl hs n hn)
    have base : ((s.settleKey c).requested c e n).base = s.base := requested_base ..
    obtain ⟨-, -, -, -, levers, track, heads, -⟩ := State.base_eq base
    have sects := requested_sects (s.settleKey c) c e n
    obtain ⟨l, hl, last⟩ := requested_records (s.settleKey c) c e n
    rw [settleKey_sectState, self, code] at last
    refine ⟨_, next_quiet done ?_, ⟨State.sameFrame_of_base base, levers, track, heads, requested_blocks .., others sects⟩, ?_, ?_, l, hl, last⟩
    · unfold State.quiet
      rw [requested_switching]
      exact hq
    · rw [sects, upd_self, self]
      rfl
    · exact slotHolds_of_line (requested_line ..) (request_slotHolds (s := s.settleKey c) hn ..)
  · rw [if_pos (Option.isSome_iff_ne_none.mpr hh)] at taken
    have press := confirmHeld_press (s.settleKey c) c e
    have refusals := resetPress_refused hq he press Iff.rfl allowed fun n h => (next_settle taken).trans h
    refine ⟨refusals.1, refusals.2.1, refusals.2.2, fun n hok hn => ?_⟩
    obtain ⟨hl, hs⟩ := allowed.mp hok
    have done := taken.trans (press.queued hl hs n hn)
    have base : ((s.settleKey c).confirmReset c e n .confirmed).base = s.base := confirmReset_base ..
    obtain ⟨-, -, -, -, levers, track, heads, -⟩ := State.base_eq base
    have block : (s.settleKey c).cfg.sects[c].type = .block := sectEnd_block he
    have sects := confirmReset_sects (s.settleKey c) c e n .confirmed
    obtain ⟨l, hl, last, changed⟩ := confirmReset_records (s := s.settleKey c) (c := c) (e := e) (n := n) .confirmed
    rw [settleKey_sectState, self, code] at last
    rw [settleKey_sectState] at changed
    refine ⟨_, next_settle done, fun hs => ?_, ⟨State.sameFrame_of_base base, levers, track, heads, confirmReset_blocks block _, others sects⟩,
      ?_, confirmReset_slotHolds block hn _, l, hl, last, changed⟩
    · have same : (((s.settleKey c).request .resetConfirm e ((s.settleKey c).peerId e) []).modSect c (Sect.confirmed n)).switching =
          s.switching := request_switching (s := s.settleKey c) (k := .resetConfirm) (by decide) ..
      refine (confirmReset_acts .confirmed).settle_eq id ?_ (by rwa [same])
      unfold State.quiet
      rwa [same]
    · rw [sects, upd_self, self]
      rfl

/-- Settles O29: the windows end, and the two frames do what the pending request lets them. -/
theorem resetRequestsConclude : Obligations.ResetRequestsConclude := by
  unfold Obligations.ResetRequestsConclude
  intro s c
  refine ⟨fun hq due => ?_, fun hq due => ?_, fun e f hc => ?_⟩
  · have expired : s.resetRequestWindowExpiry c = (s.modSect c fun x => { x with pending := none }).resetRecord s c .expired := by
      unfold State.resetRequestWindowExpiry
      rw [if_pos due]
    refine (next_quiet expired (resetRecord_quiet (s := s.modSect c _) hq ..)).trans ?_
    unfold State.resetRecord
    rw [modSect_sectState (f := fun x => { x with pending := none }) (hf := ⟨rfl, rfl, rfl⟩)]
    rfl
  · have ended : s.heldRequestWindowExpiry c = s.modSect c fun x => { x with held := none } := by
      unfold State.heldRequestWindowExpiry
      rw [if_pos due]
    exact next_quiet ended hq
  have block := (sectOf_some hc).2.1
  have deliverRequest (hk : f.kind = .resetReq) : s.deliver e f = s.requestTaken e := by
    unfold State.deliver
    rw [hk]
  have deliverConfirm (hk : f.kind = .resetConfirm) : s.deliver e f = s.confirmTaken e := by
    unfold State.deliver
    rw [hk]
  have pending (hp : s.sects[c].pending ≠ none) : s.sects[c].pending.isSome = true := Option.isSome_iff_ne_none.mpr hp
  have idle (hp : s.sects[c].pending = none) : ¬s.sects[c].pending.isSome = true := by rw [hp]; decide
  refine ⟨fun hk hp => ?_, fun n hk hp hn => ?_, fun hk hp hr => ?_, fun hk hp => ?_, fun hk hp => ?_⟩
  · rw [deliverRequest hk]
    unfold State.requestTaken
    rw [hc]
    dsimp only
    rw [if_neg (idle hp)]
    rfl
  · have crossed : s.requestTaken e = s.confirmReset c e n .crossed := by
      unfold State.requestTaken
      rw [hc]
      dsimp only
      rw [if_pos (pending hp), hn]
      rfl
    rw [deliverRequest hk, crossed, confirmReset_sects, upd_self]
    exact ⟨rfl, confirmReset_slotHolds block hn _⟩
  · have refused : s.requestTaken e = (s.modSect c fun x => { x with pending := none }).resetRecord s c .refusedSlots := by
      unfold State.requestTaken
      rw [hc]
      dsimp only
      rw [if_pos (pending hp), hr]
      rfl
    rw [deliverRequest hk, refused, resetRecord_sects]
    exact modSect_self ..
  · have completed : s.confirmTaken e = (s.changeSect c fun x => { x.zero with pending := none }).resetRecord s c .completed := by
      unfold State.confirmTaken
      rw [hc]
      dsimp only
      rw [if_pos (pending hp)]
    rw [deliverConfirm hk, completed, resetRecord_sects, changeSect_sects, upd_self]
    rfl
  · rw [deliverConfirm hk]
    unfold State.confirmTaken
    rw [hc]
    dsimp only
    rw [if_neg (idle hp)]

end Sys2Proof.Machine
end

section
/-! PROOFS. A count section's state, and the arrival of a peer's net (R65 to R68, R73): O26. -/

namespace Sys2Proof.Machine

/-! ### State and content (R66) -/

/-- The state that a content stands for. -/
def contentState (n : Nat) : SectState := if n = 0 then .clear else if n < 2048 then .occupied else .disturbed

theorem sectState_content {t : SectType} {x : Sect} {n : Nat} (hl : x.latch = .none) (hc : content t x = some n) :
    sectState t x = contentState n := by
  unfold sectState contentState
  rw [hl, hc]
  cases n <;> rfl

theorem content_local (x : Sect) : content .localSect x = some x.localNet := rfl

theorem content_block {x : Sect} {r : Nat} (h : x.remote = some r) : content .block x = some ((x.localNet + r) % 4096) := by
  unfold content
  rw [h]
  rfl

theorem content_block_none {x : Sect} (h : x.remote = none) : content .block x = none := by
  unfold content
  rw [h]
  rfl

theorem sectState_undefined {x : Sect} (hl : x.latch = .none) (hr : x.remote = none) : sectState .block x = .unknown := by
  unfold sectState
  rw [hl, content_block_none hr]

/-- A BLOCK section is CLEAR only with the two nets held and in balance. -/
theorem block_clear {x : Sect} (h : sectState .block x = .clear) : ∃ r, x.remote = some r ∧ (x.localNet + r) % 4096 = 0 := by
  cases hl : x.latch with
  | disturbed => cases (sectState_disturbed hl).symm.trans h
  | resetPrep => cases (sectState_resetPrep hl).symm.trans h
  | none =>
    cases hr : x.remote with
    | none => cases (sectState_undefined hl hr).symm.trans h
    | some r =>
      refine ⟨r, rfl, ?_⟩
      rw [sectState_content hl (content_block hr)] at h
      unfold contentState at h
      split at h
      · assumption
      · split at h <;> cases h

/-! ### The judgement of a section (R66, R67, R73) -/

/-- A judgement changes the latch alone. -/
theorem judge_eq (t : SectType) (x : Sect) : x.judge t = { x with latch := (x.judge t).latch } := by
  unfold Sect.judge
  split
  · rfl
  · rfl
  · split <;> rfl
  · split
    · rfl
    · split <;> rfl

theorem judge_disturbed {t : SectType} {x : Sect} (h : x.latch = .disturbed) : (x.judge t).latch = .disturbed := by
  unfold Sect.judge
  rw [h]
  exact h

theorem judge_none {t : SectType} {x : Sect} {n : Nat} (hl : x.latch = .none) (hc : content t x = some n) :
    (x.judge t).latch = if 2048 ≤ n then .disturbed else .none := by
  unfold Sect.judge
  rw [hl, hc]
  dsimp only
  split
  · rfl
  · exact hl

theorem judge_resetPrep {t : SectType} {x : Sect} {n : Nat} (hl : x.latch = .resetPrep) (hc : content t x = some n) :
    (x.judge t).latch = if 2048 ≤ n then .disturbed else if n = 0 ∧ x.swept = true then .none else .resetPrep := by
  unfold Sect.judge
  rw [hl, hc]
  dsimp only
  split
  · rfl
  · rw [if_congr and_comm rfl rfl]
    split
    · rfl
    · exact hl

/-! ### The arrival of a peer's net (R65, R67, R68, R73) -/

/-- What the content of a BLOCK section becomes with a net. -/
def Sect.contentWith (x : Sect) (net : Nat) : Nat := (x.localNet + net) % 4096

/-- A BLOCK section with the net taken, its pairing check resolved and a peer's DISTURBED taken, before it is judged. -/
def Sect.netTaken (net : Nat) (disturbed : Bool) (x : Sect) : Sect :=
  { x with
    remote := some net, pairingCheck := false, swept := x.swept || (decide (x.latch = .resetPrep) && decide (net ≠ 0))
    latch := if disturbed = true ∨ (x.pairingCheck = true ∧ x.latch = .none ∧ x.contentWith net ≠ 0) then .disturbed else x.latch }

theorem takeNet_eq (net : Nat) (disturbed : Bool) (x : Sect) : x.takeNet .block net disturbed = (x.netTaken net disturbed).judge .block := by
  unfold Sect.takeNet Sect.netTaken Sect.disturb
  refine congrArg (Sect.judge .block) ?_
  dsimp only
  rw [show content .block { x with remote := some net, swept := x.swept || (decide (x.latch = .resetPrep) && decide (net ≠ 0)) } =
    some (x.contentWith net) from rfl]
  cases disturbed <;> cases hp : x.pairingCheck
  case false.true => by_cases h : x.latch = .none ∧ x.contentWith net ≠ 0 <;> simp [h]
  case true.true => by_cases h : x.latch = .none ∧ x.contentWith net ≠ 0 <;> simp [h]
  all_goals simp

section
variable {x : Sect} {net : Nat} {disturbed : Bool}

theorem netTaken_content : content .block (x.netTaken net disturbed) = some (x.contentWith net) := content_block rfl

theorem takeNet_rest : (x.takeNet .block net disturbed).localNet = x.localNet ∧ (x.takeNet .block net disturbed).remote = some net ∧
    (x.takeNet .block net disturbed).pairingCheck = false := by
  rw [takeNet_eq, judge_eq]
  exact ⟨rfl, rfl, rfl⟩

theorem takeNet_disturbed (h : x.latch = .disturbed ∨ disturbed = true) : (x.takeNet .block net disturbed).latch = .disturbed := by
  rw [takeNet_eq]
  refine judge_disturbed ?_
  unfold Sect.netTaken
  rcases h with h | h
  · simp [h]
  · simp [h]

theorem takeNet_none (hd : disturbed = false) (hl : x.latch = .none) : sectState .block (x.takeNet .block net disturbed) =
    if x.contentWith net = 0 then .clear else if x.pairingCheck = false ∧ x.contentWith net < 2048 then .occupied else .disturbed := by
  obtain ⟨localNet, remote, -⟩ := takeNet_rest (x := x) (net := net) (disturbed := disturbed)
  have held : content .block (x.takeNet .block net disturbed) = some (x.contentWith net) := by
    rw [content_block remote, localNet]
    rfl
  by_cases check : x.pairingCheck = true ∧ x.contentWith net ≠ 0
  · have latch : (x.netTaken net disturbed).latch = .disturbed := if_pos (.inr ⟨check.1, hl, check.2⟩)
    rw [if_neg check.2, if_neg (by simp [check.1]), sectState_disturbed]
    rw [takeNet_eq, judge_disturbed latch]
  · have latch : (x.netTaken net disturbed).latch = .none :=
      (if_neg (by simp only [hd, Bool.false_eq_true, false_or]; exact fun h => check ⟨h.1, h.2.2⟩)).trans hl
    have judged := judge_none latch netTaken_content
    rw [← takeNet_eq] at judged
    by_cases high : 2048 ≤ x.contentWith net
    · rw [if_pos high] at judged
      rw [sectState_disturbed judged, if_neg (by omega), if_neg (by omega)]
    · rw [if_neg high] at judged
      rw [sectState_content judged held, contentState]
      by_cases zero : x.contentWith net = 0
      · rw [if_pos zero, if_pos zero]
      · have checked : x.pairingCheck = false := by simpa [zero] using check
        simp only [zero, checked, true_and, if_false]

theorem takeNet_resetPrep (hd : disturbed = false) (hl : x.latch = .resetPrep) : (x.takeNet .block net disturbed).latch =
    if 2048 ≤ x.contentWith net then .disturbed
    else if x.contentWith net = 0 ∧ (x.swept = true ∨ net ≠ 0) then .none else .resetPrep := by
  have latch : (x.netTaken net disturbed).latch = .resetPrep := by
    simp [Sect.netTaken, hd, hl]
  have swept : (x.netTaken net disturbed).swept = true ↔ x.swept = true ∨ net ≠ 0 := by
    simp [Sect.netTaken, hl]
  rw [takeNet_eq, judge_resetPrep latch netTaken_content]
  simp only [swept]

end

/-- Settles O26: the states by latch and content, the arrival of a net case by case, and the frames that bring one. -/
theorem sectionStateFollowsContent : Obligations.SectionStateFollowsContent := by
  unfold Obligations.SectionStateFollowsContent
  refine ⟨fun s e f => ⟨fun hk => ?_, fun hk => ?_, fun hk => ?_, fun net disturbed => ⟨fun hn => ?_, fun c hc => ⟨fun hn => ?_, fun hn => ?_⟩⟩⟩,
    fun x => ?_⟩
  · unfold State.deliver
    rw [hk]
  · unfold State.deliver
    rw [hk]
  · unfold State.deliver
    rw [hk]
    rfl
  · unfold State.takeNet
    rw [hn]
  · unfold State.takeNet
    rw [hc]
    exact if_pos (Option.isSome_iff_ne_none.mpr hn)
  · unfold State.takeNet
    rw [hc]
    dsimp only
    rw [if_neg (by rw [hn]; decide), changeSect_sects, (sectOf_some hc).2.1]
    rfl
  refine ⟨fun hl t => sectState_disturbed hl, fun hl t => sectState_resetPrep hl, fun hl => sectState_content hl (content_local x),
    sectState_undefined, fun r hl hr => sectState_content hl (content_block hr), block_clear, fun net disturbed => ?_⟩
  obtain ⟨localNet, remote, check⟩ := takeNet_rest (x := x) (net := net) (disturbed := disturbed)
  exact ⟨localNet, remote, check, takeNet_disturbed, takeNet_none, takeNet_resetPrep⟩

end Sys2Proof.Machine
end

section
/-! PROOFS. What a step of a head does to the sections and the COUNTs (R61, R62, R64, R67, R70): O25. -/

namespace Sys2Proof.Machine

/-! ### A frame asked for waits, or there is no room for it (R110) -/

/-- A frame of a kind and end waits with attempt count 0, or every slot is full with no frame that gives way to it. -/
def Line.Waits (l : Line) (k : FrameKind) (e : EndNo) : Prop :=
  (∃ (i : Fin 8) (f : Frame), l.slots[i] = some f ∧ f.kind = k ∧ f.e = e ∧ f.attempts = 0) ∨ l.NoRoom k.cls

theorem request_waits (s : State) (k : FrameKind) (e : EndNo) (dest : Nat) (payload : List Byte) :
    (s.request k e dest payload).line.Waits k e := by
  unfold State.request
  dsimp only
  split
  · rename_i i hi
    split at hi
    · obtain ⟨f, hf, hk, he⟩ := slotOf_some hi
      refine .inl ⟨i, f.coalesce, ?_, hk, he, rfl⟩
      rw [State.modLine_line, modSlot_some _ _ hf]
      exact slot_set_self ..
    · cases hi
  · split
    · rename_i i _
      exact .inl ⟨i, { kind := k, e := e, dest := dest, payload := payload, seq := s.line.nextSeq }, slot_set_self .., rfl, rfl, rfl⟩
    · rename_i he
      split
      · rename_i i hi
        obtain ⟨f, hf, -⟩ := victim_some hi
        rw [hf]
        refine .inl ⟨i, { kind := k, e := e, dest := dest, payload := payload, seq := s.line.nextSeq }, ?_, rfl, rfl, rfl⟩
        dsimp only
        rw [reportEvicted_slots, State.modLine_line, append_line]
        exact slot_set_self ..
      · rename_i hv
        exact .inr ((noRoom_iff _ _).mpr ⟨he, hv⟩)

/-- Requests of no more urgent class take no room from a frame that waits, and make none (R110). -/
theorem LineActs.waits {σ : Scope} {l m : Line} (h : LineActs σ l m) {k : FrameKind} (hσ : ∀ k' e', σ.asks k' e' → k.cls ≤ k'.cls) {e : EndNo}
    (hw : l.Waits k e) : m.Waits k e := by
  refine h.carries (R := fun l m : Line => l.Waits k e → m.Waits k e) (fun _ => id) (fun _ _ _ h h' => h' ∘ h) (fun l m ha => ?_) hw
  rintro (⟨i, f, hf, hk, he, h0⟩ | full)
  · cases ha with
    | @place j g hj _ _ =>
      by_cases e : j = i
      · subst e; cases hj.symm.trans hf
      · exact .inl ⟨i, f, (slot_set_ne _ _ e).trans hf, hk, he, h0⟩
    | @evict j g x hj _ cls _ _ asked =>
      by_cases e : j = i
      · subst e
        cases hj.symm.trans hf
        have := hσ _ _ asked
        rw [hk] at cls
        omega
      · exact .inl ⟨i, f, (slot_set_ne _ _ e).trans hf, hk, he, h0⟩
    | @coalesce j g hj _ _ =>
      rw [modSlot_some _ _ hj]
      by_cases e : j = i
      · subst e
        cases hj.symm.trans hf
        exact .inl ⟨j, f.coalesce, slot_set_self .., hk, he, rfl⟩
      · exact .inl ⟨i, f, (slot_set_ne _ _ e).trans hf, hk, he, h0⟩
    | _ => exact .inl ⟨i, f, hf, hk, he, h0⟩
  · cases ha with
    | @place j _ hj _ _ =>
      obtain ⟨f, hf, -⟩ := full j
      cases hj.symm.trans hf
    | @evict j g x hj off cls _ _ asked =>
      obtain ⟨f, hf, hr⟩ := full j
      cases hj.symm.trans hf
      have := hσ _ _ asked
      rcases hr with hr | hr
      · cases off.symm.trans hr
      · omega
    | @coalesce j g hj _ _ =>
      refine .inr fun i => ?_
      obtain ⟨f, hf, hr⟩ := full i
      rw [modSlot_some _ _ hj]
      by_cases e : j = i
      · subst e
        cases hj.symm.trans hf
        exact ⟨g.coalesce, slot_set_self .., hr⟩
      · exact ⟨f, (slot_set_ne _ _ e).trans hf, hr⟩
    | _ => exact .inr full

/-! ### The sections of a head move together (R64) -/

theorem moveSects_self (s : State) (h : HeadNo) (f : SectNo → Sect → Sect) (c : SectNo) :
    (s.moveSects h f).sects[c] = if s.bounds h c then f c s.sects[c] else s.sects[c] := by
  simp [State.moveSects]

theorem BlockEnd.entered_inactive (b : BlockEnd) : b.entered.state = .inactive ↔ b.state = .inactive := by
  by_cases h : b.admits
  · refine iff_of_false ?_ (by rintro e; rcases h with h | h | h <;> cases h.symm.trans e)
    rcases h with h | h | h
    · rw [(BlockEnd.entered_out (.inl h)).1]; decide
    · rw [(BlockEnd.entered_out (.inr h)).1]; decide
    · rw [BlockEnd.entered_in h]; decide
  · rw [BlockEnd.entered_not h]

/-- No report of a section switches an end out, or back in (R69). -/
theorem reportSect_inactive (s s0 : State) (c : SectNo) (e : EndNo) :
    (s.reportSect s0 c).blocks[e].state = .inactive ↔ s.blocks[e].state = .inactive := by
  have after := reportSect_endAfter s s0 c e
  by_cases h : s.entersAt s0 c e
  · rw [after.entered h, BlockEnd.entered_inactive]
  · rw [after.stays h]

theorem reportSects_inactive (s s0 : State) (h : HeadNo) (e : EndNo) :
    (s.reportSects s0 h).blocks[e].state = .inactive ↔ s.blocks[e].state = .inactive := by
  unfold State.reportSects
  induction s0.boundedBy h generalizing s with
  | nil => exact Iff.rfl
  | cons c l ih => exact (ih _).trans (reportSect_inactive ..)

/-- A step's scope: any end may be entered, its STATUS raised, and COUNTs are asked for at some ends. -/
def Scope.wheel (counts : EndNo → Prop) : Scope := ⟨fun _ => True, fun k e => k = .status ∨ (k = .count ∧ counts e), False⟩

section
variable {counts : EndNo → Prop}

theorem wheel_status (e : EndNo) : (Scope.wheel counts).asks .status e := Or.inl rfl

theorem wheel_count {e : EndNo} (h : counts e) : (Scope.wheel counts).asks .count e := Or.inr ⟨rfl, h⟩

theorem reportSects_acts (s s0 : State) (h : HeadNo) : Acts (.wheel counts) s (s.reportSects s0 h) :=
  foldl_acts _ _ (fun s c _ => reportSect_acts s s0 c fun e _ => ⟨trivial, wheel_status e⟩) s

theorem queueCount_acts (s : State) (c : SectNo) (hc : ∀ e, s.sectEnd c = some e → s.blocks[e].state ≠ .inactive → counts e) :
    Acts (.wheel counts) s (s.queueCount c) := by
  unfold State.queueCount
  split
  · rename_i e he
    split
    · exact .refl s
    · rename_i hi
      exact request_acts s (wheel_count (hc e he hi)) _ _
  · exact .refl s

theorem foldl_queueCount_acts (l : List SectNo) (s : State)
    (hc : ∀ c ∈ l, ∀ e, s.sectEnd c = some e → s.blocks[e].state ≠ .inactive → counts e) :
    Acts (.wheel counts) s (l.foldl State.queueCount s) := by
  induction l generalizing s with
  | nil => exact .refl s
  | cons c l ih =>
    have first := queueCount_acts s c (hc c List.mem_cons_self)
    refine first.trans (ih _ fun c' hc' e he hi => hc c' (List.mem_cons_of_mem c hc') e ?_ ?_)
    · rwa [first.sectEnd] at he
    · rwa [queueCount_blocks] at hi

theorem queueCount_waits {s : State} {c : SectNo} {e : EndNo} (he : s.sectEnd c = some e) (hi : s.blocks[e].state ≠ .inactive) :
    (s.queueCount c).line.Waits .count e := by
  unfold State.queueCount
  rw [he]
  dsimp only
  rw [if_neg hi]
  exact request_waits ..

/-- A COUNT is asked for at every section's end that is not switched out (R70). -/
theorem foldl_queueCount_waits (l : List SectNo) (s : State) {c : SectNo} (hc : c ∈ l) {e : EndNo} (he : s.sectEnd c = some e)
    (hi : s.blocks[e].state ≠ .inactive) : (l.foldl State.queueCount s).line.Waits .count e := by
  obtain ⟨before, after, rfl⟩ := List.append_of_mem hc
  rw [List.foldl_append, List.foldl_cons]
  have earlier : Acts (.wheel fun _ => True) s (before.foldl State.queueCount s) := foldl_queueCount_acts _ _ fun _ _ _ _ _ => trivial
  have later : Acts (.wheel fun _ => True) _ (after.foldl State.queueCount ((before.foldl State.queueCount s).queueCount c)) :=
    foldl_queueCount_acts _ _ fun _ _ _ _ _ => trivial
  have asked := queueCount_waits (s := before.foldl State.queueCount s) ((earlier.sectEnd c).trans he)
    (by rwa [foldl_blocks _ _ queueCount_blocks])
  refine later.line.waits (fun k e' h => ?_) asked
  rcases h with rfl | ⟨rfl, -⟩ <;> decide

end

/-! ### A step of a head, as its sections and ends see it -/

/-- The new data of a section that the head bounds. -/
def StepOutcome.sect (o : StepOutcome) (t : SectType) (b : Option Boundary) (x : Sect) : Sect :=
  match o with
  | .nothing => x
  | .counted up => x.countWheel t (match b with
    | some b => b.countsIn up
    | none => false)
  | .fault _ _ => x.disturb

/-- Whether a step asks for a COUNT of an end: a wheel is counted, the end is not switched out, and the head bounds a section of it (R70). -/
def State.counts (s : State) (h : HeadNo) (o : StepOutcome) (e : EndNo) : Prop :=
  (∃ up, o = .counted up) ∧ s.blocks[e].state ≠ .inactive ∧ ∃ c, s.cfg.sects[c].boundaryAt h ≠ none ∧ s.sectEnd c = some e

/-- The records that come before those of the sections (R62, R80). -/
def State.stepRecords (s : State) (h : HeadNo) (old new : Pattern) (o : StepOutcome) : List Event :=
  match o with
  | .fault true entry => [{
      time := s.partTime, kind := .headError, subject := h.val + 1, old := old.code, new := new.code
      d1 := match entry with
        | some x => Side.code x
        | none => 0
      d2 := (s.boundedBy h).length, d3 := hi (Head.step old new s.heads[h]).errors, d4 := lo (Head.step old new s.heads[h]).errors }]
  | _ => []

/-- From `s` to `t` a head has taken a step: `m` is the state in which the sections have moved and nothing is yet reported. -/
structure State.Stepped (s : State) (h : HeadNo) (old new : Pattern) (o : StepOutcome) (m t : State) : Prop where
  cfg : m.cfg = s.cfg
  blocks : m.blocks = s.blocks
  line : m.line = s.line
  switching : m.switching = s.switching
  sects : ∀ c, m.sects[c] = if s.bounds h c then o.sect s.cfg.sects[c].type (s.cfg.sects[c].boundaryAt h) s.sects[c] else s.sects[c]
  recorded : Recorded s m (s.stepRecords h old new o)
  acts : Acts (.wheel (s.counts h o)) m t
  waits : ∀ e, s.counts h o e → t.line.Waits .count e

/-- A counted wheel (R61, R64, R69, R70): the sections report, and then the COUNTs are asked for. -/
theorem applyWheel_stepped (s : State) (h : HeadNo) (old new : Pattern) (up : Bool) : ∃ m,
    s.Stepped h old new (.counted up) m ((s.modHead h (Head.step old new)).applyWheel h up) := by
  obtain ⟨v, hv⟩ : ∃ v, v = s.modHead h (Head.step old new) := ⟨_, rfl⟩
  obtain ⟨m, hm⟩ : ∃ m, m = v.moveSects h fun c x => (StepOutcome.counted up).sect v.cfg.sects[c].type (v.cfg.sects[c].boundaryAt h) x :=
    ⟨_, rfl⟩
  have reported : Acts (.wheel (s.counts h (.counted up))) m (m.reportSects v h) := reportSects_acts ..
  have whole : v.applyWheel h up = (s.boundedBy h).foldl State.queueCount (m.reportSects v h) := by
    rw [hm, hv]
    rfl
  have ends (c : SectNo) : (m.reportSects v h).sectEnd c = s.sectEnd c := by
    rw [reported.sectEnd, hm, hv]
    rfl
  have inactive (e : EndNo) : (m.reportSects v h).blocks[e].state = .inactive ↔ s.blocks[e].state = .inactive := by
    rw [reportSects_inactive, hm, hv]
    rfl
  rw [← hv, whole]
  refine ⟨m, by rw [hm, hv]; rfl, by rw [hm, hv]; rfl, by rw [hm, hv]; rfl, by rw [hm, hv]; rfl, fun c => ?_,
    recorded_refl (by rw [hm, hv]; rfl), reported.trans (foldl_queueCount_acts _ _ fun c hc e he hi => ⟨⟨up, rfl⟩, ?_, c, ?_, ?_⟩), fun e he => ?_⟩
  · rw [hm, moveSects_self, hv]
    rfl
  · exact mt (inactive e).mpr hi
  · exact (mem_boundedBy s h c).mp hc
  · rwa [ends] at he
  · obtain ⟨-, hi, c, hc, he⟩ := he
    exact foldl_queueCount_waits _ _ ((mem_boundedBy s h c).mpr hc) ((ends c).trans he) (mt (inactive e).mp hi)

/-- An illegal step (R62, R67): HEAD_ERROR is recorded where it is raised, and the sections are DISTURBED and report. -/
theorem fault_stepped (s : State) (h : HeadNo) (old new : Pattern) (raises : Bool) (entry : Option Side) : ∃ m,
    s.Stepped h old new (.fault raises entry) m ((if raises then (s.modHead h (Head.step old new)).headErrorRecord h old new entry
      else s.modHead h (Head.step old new)).disturbSects h) := by
  have none (e : EndNo) : ¬s.counts h (.fault raises entry) e := fun ⟨⟨up, h⟩, _⟩ => by cases h
  obtain ⟨u, hu⟩ : ∃ u, u = if raises then (s.modHead h (Head.step old new)).headErrorRecord h old new entry
    else s.modHead h (Head.step old new) := ⟨_, rfl⟩
  have leaves {α : Type} (p : State → α) (head : p (s.modHead h (Head.step old new)) = p s)
      (record : p ((s.modHead h (Head.step old new)).headErrorRecord h old new entry) = p s) : p u = p s := by
    rw [hu]
    split
    · exact record
    · exact head
  have cfg := leaves State.cfg rfl rfl
  rw [← hu]
  refine ⟨u.moveSects h fun _ x => x.disturb, cfg, leaves State.blocks rfl rfl, leaves State.line rfl rfl,
    leaves State.switching rfl rfl, fun c => ?_, ?_, reportSects_acts .., fun e he => absurd he (none e)⟩
  · rw [moveSects_self, leaves (·.sects[c]) rfl rfl, leaves (·.bounds h c) rfl rfl]
    rfl
  · have moved : Recorded u (u.moveSects h fun _ x => x.disturb) [] := recorded_refl rfl
    have record : Recorded s u (s.stepRecords h old new (.fault raises entry)) := by
      rw [hu]
      cases raises with
      | false => exact recorded_refl rfl
      | true =>
        have recorded : Recorded (s.modHead h (Head.step old new)) ((s.modHead h (Head.step old new)).headErrorRecord h old new entry) _ :=
          append_recorded ..
        rw [show (s.modHead h (Head.step old new)).heads[h] = Head.step old new s.heads[h] from upd_self ..] at recorded
        exact recorded
    exact (List.append_nil (s.stepRecords h old new _)) ▸ recorded_trans record moved

theorem takeStep_stepped (s : State) (h : HeadNo) (old new : Pattern) : ∃ m,
    s.Stepped h old new (stepOutcome s.heads[h].tracking old new) m (s.takeStep h old new) := by
  unfold State.takeStep
  cases stepOutcome s.heads[h].tracking old new with
  | nothing =>
    exact ⟨s.modHead h (Head.step old new), rfl, rfl, rfl, rfl, fun c => (ite_self _).symm, recorded_refl rfl, .refl _,
      fun e ⟨⟨up, h⟩, _⟩ => by cases h⟩
  | counted up => exact applyWheel_stepped s h old new up
  | fault raises entry =>
    cases raises with
    | false => exact fault_stepped s h old new false entry
    | true => exact fault_stepped s h old new true entry

/-! ### What the outcome says of the sections and the records -/

theorem Scope.tells.headError {σ : Scope} {r : Event} (h : σ.tells r) : r.kind ≠ .headError := fun e => by
  unfold Scope.tells at h
  rw [e] at h
  exact h

theorem stepRecords_quiet {s : State} {h : HeadNo} {old new : Pattern} {t : Tracking} (hq : illegal old new = false ∨ t = .resync) :
    s.stepRecords h old new (stepOutcome t old new) = [] := by
  cases hi : illegal old new with
  | true =>
    rw [stepOutcome_illegal hi, if_pos (hq.resolve_left (by simp [hi]))]
    rfl
  | false =>
    rcases stepOutcome_legal (t := t) hi with h | ⟨up, h⟩ <;> rw [h] <;> rfl

theorem side_code (t : Tracking) : (match t.side with
    | some x => Side.code x
    | none => 0) = if t.entered .a then 1 else if t.entered .b then 2 else 0 := by
  cases t with
  | passage side _ => cases side <;> rfl
  | idle => rfl
  | resync => rfl

/-- The record of an illegal step from IDLE or PASSAGE (R62, R80). -/
theorem stepRecords_illegal {s : State} {h : HeadNo} {old new : Pattern} {t : Tracking} (hl : illegal old new = true)
    (ht : s.heads[h].tracking = t) (hr : t ≠ .resync) : s.stepRecords h old new (stepOutcome t old new) = [{
      time := s.partTime, kind := .headError, subject := h.val + 1, old := old.code, new := new.code
      d1 := if t.entered .a then 1 else if t.entered .b then 2 else 0, d2 := (s.boundedBy h).length
      d3 := min 255 (s.heads[h].errors + 1) / 256, d4 := min 255 (s.heads[h].errors + 1) % 256 }] := by
  have small : hi (min 255 (s.heads[h].errors + 1)) = min 255 (s.heads[h].errors + 1) / 256 := by
    unfold hi
    omega
  rw [stepOutcome_illegal hl, if_neg hr]
  unfold State.stepRecords
  dsimp only
  rw [side_code, headStep_base, ht]
  dsimp only
  rw [if_pos (show illegal old new = true ∧ t ≠ .resync from ⟨hl, hr⟩), small]
  rfl

theorem stepOutcome_counts (t : Tracking) (old new : Pattern) : (∃ up, stepOutcome t old new = .counted up) ↔
    (t.entered .a = true ∧ old = .b ∧ new = .none) ∨ (t.entered .b = true ∧ old = .a ∧ new = .none) := by
  refine ⟨?_, ?_⟩
  · rintro ⟨up, h⟩
    have := (stepOutcome_counted t old new up).mp h
    cases up
    · exact .inr this
    · exact .inl this
  · rintro (h | h)
    · exact ⟨true, (stepOutcome_counted t old new true).mpr h⟩
    · exact ⟨false, (stepOutcome_counted t old new false).mpr h⟩

theorem countWheel_localNet (t : SectType) (into : Bool) (x : Sect) : (x.countWheel t into).localNet = moveNet into x.localNet := by
  unfold Sect.countWheel
  dsimp only
  rw [judge_eq]

/-- The direction of the wheel that a step counts. -/
theorem sect_localNet (t : Tracking) (old new : Pattern) (k : SectType) (bd : Boundary) (x : Sect) :
    ((stepOutcome t old new).sect k (some bd) x).localNet =
      if ((t.entered .a = true ∧ old = .b ∧ new = .none) ∧ bd.orientation = .upIn) ∨
          ((t.entered .b = true ∧ old = .a ∧ new = .none) ∧ bd.orientation = .downIn) then (x.localNet + 1) % 4096
      else if (t.entered .a = true ∧ old = .b ∧ new = .none) ∨ (t.entered .b = true ∧ old = .a ∧ new = .none) then (x.localNet + 4095) % 4096
      else x.localNet := by
  have up := stepOutcome_counted t old new true
  have down := stepOutcome_counted t old new false
  simp only [if_true, Bool.false_eq_true, if_false] at up down
  simp only [← up, ← down]
  cases stepOutcome t old new with
  | nothing => simp [StepOutcome.sect]
  | counted d =>
    unfold StepOutcome.sect
    rw [countWheel_localNet]
    cases d <;> cases ho : bd.orientation <;> simp [Boundary.countsIn, ho, moveNet]
  | fault _ _ => simp [StepOutcome.sect, Sect.disturb]

/-- Settles O25: the sections move and report, the COUNTs are asked for, and the event closes. -/
theorem wheelsMoveTheNets : Obligations.WheelsMoveTheNets := by
  unfold Obligations.WheelsMoveTheNets
  intro s h hq ha due
  obtain ⟨m, stepped⟩ := takeStep_stepped (s.sensorsTaken h) h s.heads[h].pattern (s.patternTaken h)
  obtain ⟨cfg, blocks, line, switching, sects, recorded, acts, waits⟩ := stepped
  rw [← headStep_active due ha] at acts waits
  have tracking : (s.sensorsTaken h).heads[h].tracking = s.heads[h].tracking := by
    unfold State.sensorsTaken State.modHead
    rw [upd_self]
  rw [tracking] at sects recorded acts waits
  have closed : Acts .closing (s.headStep h) (s.headStep h).settle := settle_acts _
  have fault := illegal_patternOf s.heads[h].a.value s.heads[h].b.value (s.heads[h].a.settle debounce2 s.now).value
    (s.heads[h].b.settle debounce2 s.now).value
  change illegal s.heads[h].pattern (s.patternTaken h) = true ↔ _ at fault
  obtain ⟨l, hl, tl⟩ := acts.records
  obtain ⟨k, hk, tk⟩ := closed.records
  have later := recorded_trans hl hk
  have taken : Recorded s (s.sensorsTaken h) [] := recorded_refl rfl
  have counting (e : EndNo) := and_congr_left' (c := s.blocks[e].state ≠ .inactive ∧ ∃ c, s.cfg.sects[c].boundaryAt h ≠ none ∧ s.sectEnd c = some e)
    (stepOutcome_counts s.heads[h].tracking s.heads[h].pattern (s.patternTaken h))
  have bounds (c : SectNo) : (s.sensorsTaken h).bounds h c = true ↔ s.cfg.sects[c].boundaryAt h ≠ none := Option.isSome_iff_ne_none
  dsimp only
  refine ⟨(s.headStep h).settle, rfl, fun both hr => ?_, fun hn => ?_, fun e he hs => ?_, fun e he i f hf hkind hend => ?_,
    fun c => ⟨?_, fun ha hb hbd => ?_⟩⟩
  · rw [stepRecords_illegal (fault.mpr both) tracking hr] at recorded
    have first := recorded_trans (recorded_trans taken recorded) later
    have errors : (s.sensorsTaken h).heads[h].errors = s.heads[h].errors := by
      unfold State.sensorsTaken State.modHead
      rw [upd_self]
    rw [errors] at first
    exact ⟨l ++ k, first⟩
  · have quiet := stepRecords_quiet (s := s.sensorsTaken h) (h := h) (old := s.heads[h].pattern) (new := s.patternTaken h)
      (hn.imp_left fun hl => Bool.not_eq_true _ ▸ mt fault.mp hl)
    rw [quiet] at recorded
    have whole := recorded_trans (recorded_trans taken recorded) later
    refine ⟨l ++ k, whole, fun r hr => ?_⟩
    rcases List.mem_append.mp hr with hr | hr
    · exact (tl r hr).headError
    · exact (tk r hr).headError
  · have waiting := waits e ((counting e).mpr he)
    have same : (s.headStep h).settle = s.headStep h :=
      acts.settle_eq id (by unfold State.quiet; rw [switching]; exact hq) (by rw [switching]; exact hs)
    rw [same]
    exact waiting
  · have before := closed.line.unasked hf (by rw [hkind]; exact fun h => by cases h)
    have first := acts.line.unasked before (by
      rw [hkind, hend]
      rintro (h | ⟨-, h⟩)
      · cases h
      · exact he ((counting e).mp h))
    rwa [line] at first
  · have undone := (acts.sect c).trans (closed.sect c)
    rw [undone.rest]
    refine (congrArg Sect.localNet (sects c)).trans ?_
    cases hb : s.cfg.sects[c].boundaryAt h with
    | none => exact congrArg Sect.localNet (if_neg (mt (bounds c).mp (not_not_intro hb)))
    | some bd =>
      rw [if_pos ((bounds c).mpr (by rw [hb]; simp)), show (s.sensorsTaken h).cfg = s.cfg from rfl, hb]
      exact sect_localNet ..
  · have undone := (acts.sect c).trans (closed.sect c)
    have disturbed : m.sects[c].latch = .disturbed := by
      rw [sects c, if_pos ((bounds c).mpr hbd), stepOutcome_illegal (fault.mpr ⟨ha, hb⟩)]
      split <;> rfl
    exact sectState_disturbed (undone.latch.elim (·.trans disturbed) id)

end Sys2Proof.Machine
end

section
/-! PROOFS. The loss of a link (R65, R78, R113, R129, R133, R154): O41. -/

namespace Sys2Proof.Machine

/-! ### The section of an end that has lost its peer (R65, R68, R78) -/

/-- An end's section loses its remote net, and with it a request that was pending, which is recorded with an outcome. -/
def State.cutSect (s : State) (e : EndNo) (f : Sect → Sect) (o : ResetOutcome) : State :=
  match s.sectOf e with
  | some c => (s.changeSect c f).endPending s c o
  | none => s

/-- A section's data once its link is lost. -/
def Sect.unlinked (x : Sect) : Sect := { x with remote := none, pending := none, held := none }

theorem sectLinkLost_eq (s : State) (e : EndNo) : s.sectLinkLost e = s.cutSect e Sect.unlinked .linkLost := rfl

theorem rePairSect_eq (s : State) (e : EndNo) : s.rePairSect e = s.cutSect e Sect.rePair .pairingChanged := rfl

section
variable (s : State) (e : EndNo) (f : Sect → Sect) (o : ResetOutcome)

theorem cutSect_some {c : SectNo} (hc : s.sectOf e = some c) : s.cutSect e f o = (s.changeSect c f).endPending s c o := by
  unfold State.cutSect
  rw [hc]

theorem cutSect_none (hc : s.sectOf e = none) : s.cutSect e f o = s := by
  unfold State.cutSect
  rw [hc]

theorem cutSect_sects : (s.cutSect e f o).sects = match s.sectOf e with
    | some c => upd s.sects c f
    | none => s.sects := by
  cases hc : s.sectOf e with
  | none => rw [cutSect_none _ _ _ _ hc]
  | some c => rw [cutSect_some _ _ _ _ hc, endPending_sects, changeSect_sects]

variable {f} (hf : ∀ x, (f x).remote = none)
include hf

/-- A section that loses its remote net has no train enter it: what records and reports leave is as it was. -/
theorem cutSect_leaves {α : Type} (p : State → α) (append : ∀ s r, p (State.append s r) = p s)
    (modSect : ∀ s c f, p (State.modSect s c f) = p s)
    (toCombiner : ∀ s c, p (State.reportCountToCombiner s c) = p s) (toEvaluator : ∀ s c, p (State.reportCount s c) = p s) :
    p (s.cutSect e f o) = p s := by
  cases hc : s.sectOf e with
  | none => rw [cutSect_none _ _ _ _ hc]
  | some c =>
    have changed : p (s.changeSect c f) = p s :=
      changeSect_noEntry p append modSect toCombiner toEvaluator s c _ (modSect_not_entry (sectOf_some hc).2.1 (hf _))
    rw [cutSect_some _ _ _ _ hc]
    unfold State.endPending
    split
    · exact (append _ _).trans changed
    · exact changed

theorem cutSect_line : (s.cutSect e f o).line = s.line :=
  cutSect_leaves s e o hf State.line append_line (fun _ _ _ => rfl) reportCountToCombiner_line reportCount_line

theorem cutSect_blocks : (s.cutSect e f o).blocks = s.blocks :=
  cutSect_leaves s e o hf State.blocks append_blocks (fun _ _ _ => rfl) reportCountToCombiner_blocks reportCount_blocks

theorem cutSect_bells : (s.cutSect e f o).bells = s.bells :=
  cutSect_leaves s e o hf State.bells append_bells (fun _ _ _ => rfl) reportCountToCombiner_bells reportCount_bells

theorem cutSect_changed (c : SectNo) : Acts .quiet (s.modSect c f) (s.changeSect c f) :=
  changeSect_acts _ _ _ fun e h => absurd h (not_entersAt_of_remote (by rw [modSect_self]; exact hf _) e)

theorem cutSect_switching : Switching.Kept False s.switching (s.cutSect e f o).switching := by
  cases hc : s.sectOf e with
  | none =>
    rw [cutSect_none _ _ _ _ hc]
    exact .refl _ _
  | some c =>
    rw [cutSect_some _ _ _ _ hc]
    have acts := (cutSect_changed s hf c).trans (endPending_acts _ s c o)
    have kept := acts.switching id
    exact ⟨kept.rest, kept.failing, kept.watch.imp_right fun ⟨⟨_, h⟩, _⟩ => h.elim⟩

/-- A request that was pending is recorded as ended (R78, R80). -/
theorem cutSect_records : ∃ l, Recorded s (s.cutSect e f o) l ∧
    ∀ c, s.sectOf e = some c → s.sects[c].pending ≠ none →
      { time := s.partTime, kind := .countReset, subject := c.val + 1, old := (s.sectState c).code
        new := (sectState .block (f s.sects[c])).code, d1 := o.code, d2 := e.val
        d3 := hi s.sects[c].localNet, d4 := lo s.sects[c].localNet } ∈ l := by
  cases hc : s.sectOf e with
  | none =>
    rw [cutSect_none _ _ _ _ hc]
    exact ⟨[], recorded_refl rfl, fun c h => by cases h⟩
  | some c =>
    rw [cutSect_some _ _ _ _ hc]
    obtain ⟨-, block, -⟩ := sectOf_some hc
    have acts := cutSect_changed s hf c
    obtain ⟨l, hl, -⟩ := acts.records
    have changed : Recorded s (s.changeSect c f) l := hl
    unfold State.endPending
    split
    · have outcome := resetRecord_recorded (s.changeSect c f) s c o
      refine ⟨_, recorded_trans changed outcome, fun c' h _ => List.mem_append_right _ (List.mem_singleton.mpr ?_)⟩
      cases h
      have new : (s.changeSect c f).sectState c = sectState .block (f s.sects[c]) := by
        unfold State.sectState
        rw [acts.cfg, changeSect_sects, upd_self]
        rw [show (s.modSect c f).cfg = s.cfg from rfl, block]
      have ends : (s.changeSect c f).sectEndCode c = e.val := by
        unfold State.sectEndCode
        rw [acts.sectEnd, show (s.modSect c f).sectEnd c = some e from sectEnd_of_sectOf hc]
      rw [new, ends, acts.partTime]
      rfl
    · rename_i h
      exact ⟨l, changed, fun c' h' hp => by cases h'; exact absurd (Option.isSome_iff_ne_none.mpr hp) h⟩

end

theorem unlinked_remote (x : Sect) : x.unlinked.remote = none := rfl

theorem rePair_remote (x : Sect) : x.rePair.remote = none := rfl

theorem sectState_unlinked {x : Sect} : (sectState .block x.unlinked).code = if x.latch = .none then 4 else (sectState .block x).code := by
  cases hl : x.latch with
  | none => rw [sectState_undefined (x := x.unlinked) hl rfl]; rfl
  | disturbed => rw [sectState_disturbed (x := x.unlinked) hl, sectState_disturbed hl]; rfl
  | resetPrep => rw [sectState_resetPrep (x := x.unlinked) hl, sectState_resetPrep hl]; rfl

theorem sectLinkLost_records (s : State) (e : EndNo) : ∃ l, Recorded s (s.sectLinkLost e) l ∧
    ∀ c, s.sectOf e = some c → s.sects[c].pending ≠ none →
      { time := s.partTime, kind := .countReset, subject := c.val + 1, old := (s.sectState c).code
        new := if s.sects[c].latch = .none then 4 else (s.sectState c).code, d1 := 7, d2 := e.val
        d3 := hi s.sects[c].localNet, d4 := lo s.sects[c].localNet } ∈ l := by
  obtain ⟨l, hl, ended⟩ := cutSect_records s e .linkLost unlinked_remote
  refine ⟨l, hl, fun c hc hp => ?_⟩
  have ended := ended c hc hp
  rw [sectState_unlinked] at ended
  rw [show s.sectState c = sectState .block s.sects[c] by unfold State.sectState; rw [(sectOf_some hc).2.1]] at ended ⊢
  exact ended

/-! ### The loss of one end's link (R113, R129, R133, R154) -/

theorem suspendRelease_acts {σ : Scope} (s : State) {e : EndNo} (hm : σ.moves e) (ha : σ.asks .status e) : Acts σ s (s.suspendRelease e) := by
  unfold State.suspendRelease
  split
  · exact changeEnd_acts s hm ha ..
  · exact .refl s

theorem suspendRelease_self (s : State) (e : EndNo) : (s.suspendRelease e).blocks[e] =
    { s.blocks[e] with release := if s.blocks[e].release = .unused then .suspended else s.blocks[e].release } := by
  unfold State.suspendRelease
  split
  · rename_i h
    rw [changeEnd_self, h, BlockEnd.moved, if_pos rfl, if_pos rfl]
  · rename_i h
    rw [if_neg h]

/-- From `s` to `t` an end has lost its link: what has become of the link, of the end and its section, and of the rest of the part. -/
structure State.LinkLost (s t : State) (e : EndNo) (d4 : Nat) : Prop where
  base : t.base = s.base
  link : t.line.link = s.line.link.set e false
  heard : t.line.heard = s.line.heard
  promised : ∀ e', s.statusPromised e' → t.statusPromised e'
  block : t.blocks[e] = { s.blocks[e] with release := if s.blocks[e].release = .unused then .suspended else s.blocks[e].release }
  bell : t.bells[e].offer = none ∧ t.bells[e].playout = []
  others : ∀ e', e' ≠ e → t.blocks[e'] = s.blocks[e'] ∧ t.bells[e'].offer = s.bells[e'].offer ∧ t.bells[e'].playout = s.bells[e'].playout
  sects : t.sects = match s.sectOf e with
    | some c => upd s.sects c Sect.unlinked
    | none => s.sects
  switching : Switching.Kept True s.switching t.switching
  recorded : ∃ l, Recorded s t l ∧
    { time := s.partTime, kind := .linkLost, subject := e.val, old := 1, new := 0, d1 := s.peerId e, d2 := s.peerEnd e
      d3 := bit s.blocks[e].long, d4 := d4 } ∈ l ∧
    ∀ c, s.sectOf e = some c → s.sects[c].pending ≠ none →
      { time := s.partTime, kind := .countReset, subject := c.val + 1, old := (s.sectState c).code
        new := if s.sects[c].latch = .none then 4 else (s.sectState c).code, d1 := 7, d2 := e.val
        d3 := hi s.sects[c].localNet, d4 := lo s.sects[c].localNet } ∈ l

theorem Switching.Kept.mono {p q : Prop} (h : p → q) {x y : Switching} (hk : Switching.Kept p x y) : Switching.Kept q x y :=
  ⟨hk.rest, hk.failing, hk.watch.imp_right (And.imp_left h)⟩

section
variable (s : State) (e : EndNo)

theorem reportLinkLost_line : (s.reportLinkLost e).line = (s.suspendRelease e).line := by
  simp only [State.reportLinkLost, flushPlayout_line, clearOffer_line, sectLinkLost_eq, cutSect_line _ _ _ unlinked_remote]

theorem reportLinkLost_blocks : (s.reportLinkLost e).blocks = (s.suspendRelease e).blocks := by
  simp only [State.reportLinkLost, flushPlayout_blocks, clearOffer_blocks, sectLinkLost_eq, cutSect_blocks _ _ _ unlinked_remote]

theorem reportLinkLost_bells : (s.reportLinkLost e).bells =
    upd (upd (s.suspendRelease e).bells e fun b => { b with offer := none }) e fun b => { b with playout := [] } := by
  unfold State.reportLinkLost State.flushPlayout State.clearOffer
  rw [State.modBell_bells, State.modBell_bells, sectLinkLost_eq, cutSect_bells _ _ _ unlinked_remote]

theorem suspendRelease_sectOf (e' : EndNo) : (s.suspendRelease e).sectOf e' = s.sectOf e' := by
  simp only [State.sectOf, cfg_of_base (suspendRelease_base s e)]

theorem reportLinkLost_sects : (s.reportLinkLost e).sects = match s.sectOf e with
    | some c => upd s.sects c Sect.unlinked
    | none => s.sects := by
  simp only [State.reportLinkLost, flushPlayout_sects, clearOffer_sects, sectLinkLost_eq, cutSect_sects, suspendRelease_sectOf,
    suspendRelease_sects]

theorem reportLinkLost_switching : Switching.Kept True s.switching (s.reportLinkLost e).switching := by
  have suspended : Acts (.ofEnd e) s (s.suspendRelease e) := suspendRelease_acts s rfl ⟨rfl, rfl⟩
  unfold State.reportLinkLost
  rw [flushPlayout_switching, clearOffer_switching]
  exact ((suspended.switching id).mono fun _ => trivial).trans ((cutSect_switching _ e _ unlinked_remote).mono False.elim)

theorem reportLinkLost_records : ∃ l, Recorded s (s.reportLinkLost e) l ∧ ∀ c, s.sectOf e = some c → s.sects[c].pending ≠ none →
    { time := s.partTime, kind := .countReset, subject := c.val + 1, old := (s.sectState c).code
      new := if s.sects[c].latch = .none then 4 else (s.sectState c).code, d1 := 7, d2 := e.val
      d3 := hi s.sects[c].localNet, d4 := lo s.sects[c].localNet } ∈ l := by
  have suspended : Acts (.ofEnd e) s (s.suspendRelease e) := suspendRelease_acts s rfl ⟨rfl, rfl⟩
  obtain ⟨l, hl, -⟩ := suspended.records
  obtain ⟨m, hm, ended⟩ := sectLinkLost_records (s.suspendRelease e) e
  have recorded := recorded_trans hl hm
  refine ⟨l ++ m, ?_, fun c hc hp => List.mem_append_right _ ?_⟩
  · unfold State.reportLinkLost
    exact (List.append_nil (l ++ m)) ▸ recorded_trans recorded (recorded_refl (by rw [flushPlayout_port, clearOffer_port]))
  · have same : (s.suspendRelease e).sects[c] = s.sects[c] := by rw [suspendRelease_sects]
    have ended := ended c ((suspendRelease_sectOf s e e).trans hc) (by rwa [same])
    rwa [same, suspended.partTime, sectState_congr suspended.cfg same] at ended

theorem linkRecord_recorded (up : Bool) (d4 : Nat) : Recorded s (s.linkRecord e up d4)
    [{ time := s.partTime, kind := if up then .linkRestored else .linkLost, subject := e.val, old := bit (!up), new := bit up
       d1 := s.peerId e, d2 := s.peerEnd e, d3 := bit s.blocks[e].long, d4 := d4 }] := append_recorded ..

theorem setLink_lost (d4 : Nat) : s.LinkLost (s.setLink e false d4) e d4 := by
  obtain ⟨b, hb⟩ : ∃ b, b = (s.modLine fun l => { l with link := l.link.set e false }).linkRecord e false d4 := ⟨_, rfl⟩
  have whole : s.setLink e false d4 = b.reportLinkLost e := by
    rw [hb]
    rfl
  have suspended : Acts (.ofEnd e) b (b.suspendRelease e) := suspendRelease_acts b rfl ⟨rfl, rfl⟩
  have line : (b.suspendRelease e).line = { s.line with
      link := s.line.link.set e false, slots := (b.suspendRelease e).line.slots
      nextSeq := (b.suspendRelease e).line.nextSeq, owed := (b.suspendRelease e).line.owed } := by
    rw [suspended.line.rest, hb, linkRecord_line]
    rfl
  have blocks : b.blocks = s.blocks := by rw [hb, linkRecord_blocks]; rfl
  have bells : b.bells = s.bells := by rw [hb, linkRecord_bells]; rfl
  have sects : b.sects = s.sects := by rw [hb, linkRecord_sects]; rfl
  have switching : b.switching = s.switching := by rw [hb, linkRecord_switching]; rfl
  have cfg : b.cfg = s.cfg := cfg_of_base (by rw [hb, linkRecord_base]; rfl)
  have sectOf : b.sectOf e = s.sectOf e := by simp only [State.sectOf, cfg]
  refine ⟨setLink_base .., ?_, ?_, fun e' promised => ?_, ?_, ?_, fun e' hne => ?_, ?_, ?_, ?_⟩
  · rw [whole, reportLinkLost_line, line]
  · rw [whole, reportLinkLost_line, line]
  · rw [whole, statusPromised_iff, reportLinkLost_line]
    refine suspended.line.promises ?_
    rw [hb, linkRecord_line]
    exact promised
  · rw [whole, reportLinkLost_blocks, suspendRelease_self, blocks]
  · rw [whole, reportLinkLost_bells, upd_self, upd_self]
    exact ⟨rfl, rfl⟩
  · rw [whole, reportLinkLost_blocks, reportLinkLost_bells, upd_ne _ _ (Ne.symm hne), upd_ne _ _ (Ne.symm hne),
      suspended.blocks hne, (suspended.bell hne).rest, blocks, bells]
    exact ⟨rfl, rfl, rfl⟩
  · rw [whole, reportLinkLost_sects, sectOf, sects]
  · rw [whole, ← switching]
    exact reportLinkLost_switching b e
  · obtain ⟨l, hl, ended⟩ := reportLinkLost_records b e
    have linked : Recorded s (s.modLine fun l => { l with link := l.link.set e false }) [] := recorded_refl rfl
    have lost := linkRecord_recorded (s.modLine fun l => { l with link := l.link.set e false }) e false d4
    rw [← hb] at lost
    have time : b.partTime = s.partTime := by
      unfold State.partTime
      rw [show b.now = s.now by rw [hb]; rfl]
    rw [whole]
    refine ⟨_, recorded_trans (recorded_trans linked lost) hl, List.mem_append_left _ (List.mem_singleton.mpr rfl), fun c hc hp => ?_⟩
    have same : b.sects[c] = s.sects[c] := by rw [sects]
    have ended := ended c (sectOf.trans hc) (by rwa [same])
    rw [same, time, sectState_congr cfg same] at ended
    exact List.mem_append_right _ ended

end

/-! ### Every end of the identity, one after the other (R113) -/

/-- What the links of other ends, judged in turn, leave of an end (R113). -/
structure State.Spares (s t : State) (e : EndNo) : Prop where
  base : t.base = s.base
  heard : t.line.heard = s.line.heard
  link : t.line.link[e] = s.line.link[e]
  block : t.blocks[e] = s.blocks[e]
  offer : t.bells[e].offer = s.bells[e].offer
  playout : t.bells[e].playout = s.bells[e].playout
  sect : ∀ c, s.sectOf e = some c → t.sects[c] = s.sects[c]
  switching : Switching.Kept True s.switching t.switching

theorem State.Spares.refl (s : State) (e : EndNo) : s.Spares s e :=
  ⟨rfl, rfl, rfl, rfl, rfl, rfl, fun _ _ => rfl, .refl _ _⟩

theorem State.Spares.trans {s t u : State} {e : EndNo} (h : s.Spares t e) (h' : t.Spares u e) : s.Spares u e where
  base := h'.base.trans h.base
  heard := h'.heard.trans h.heard
  link := h'.link.trans h.link
  block := h'.block.trans h.block
  offer := h'.offer.trans h.offer
  playout := h'.playout.trans h.playout
  sect c hc := (h'.sect c (by simpa only [State.sectOf, cfg_of_base h.base] using hc)).trans (h.sect c hc)
  switching := h.switching.trans h'.switching

/-- An end whose last peer is the silent identity is judged, and its link is lost where it was up. -/
def State.judgeSilent (s : State) (id : Fin 16) (e : EndNo) : State :=
  if s.endConfigured e && decide (s.peerId e = id.val) then s.judgeLink e 0 0 else s

theorem lastHeardExpiry_eq {s : State} {id : Fin 16} (due : s.heardDue id = true) :
    s.lastHeardExpiry id = ends.foldl (State.judgeSilent · id ·)
      (s.modLine fun l => { l with heard := l.heard.set id { l.heard[id] with running := false } }) := by
  unfold State.lastHeardExpiry
  rw [if_pos due]
  rfl

/-- Whether an end is one that the silence of an identity cuts off. -/
def State.cutOff (s : State) (id : Fin 16) (e : EndNo) : Prop :=
  s.cfg.ends[e].configured = true ∧ s.peerId e = id.val ∧ s.line.link[e] = true

theorem judgeSilent_eq {s : State} {id : Fin 16} (silent : s.line.heard[id].running = false) (e : EndNo) :
    (s.cutOff id e → s.judgeSilent id e = s.setLink e false 0) ∧ (¬s.cutOff id e → s.judgeSilent id e = s) := by
  unfold State.judgeSilent State.endConfigured
  by_cases h : s.cfg.ends[e].configured = true ∧ s.peerId e = id.val
  · have index : identityIndex (s.peerId e) = id := by
      rw [h.2]
      exact Fin.ofNat_val_eq_self id
    have unheard : s.peerHeard e = false := by
      unfold State.peerHeard
      simp only [index]
      exact silent
    rw [if_pos (by simpa using h)]
    unfold State.judgeLink
    rw [unheard]
    cases hl : s.line.link[e] with
    | true => exact ⟨fun _ => by rw [if_neg (by decide), if_neg (by decide)], fun hn => absurd ⟨h.1, h.2, hl⟩ hn⟩
    | false => exact ⟨fun ⟨_, _, up⟩ => (by cases hl.symm.trans up), fun _ => if_pos rfl⟩
  · rw [if_neg (by simpa using h)]
    exact ⟨fun ⟨configured, peer, _⟩ => absurd ⟨configured, peer⟩ h, fun _ => rfl⟩

/-- The loss of one end's link spares the others. -/
theorem State.LinkLost.spares {s t : State} {e e' : EndNo} {d4 : Nat} (lost : s.LinkLost t e' d4) (h : e' ≠ e) : s.Spares t e := by
  obtain ⟨block, offer, playout⟩ := lost.others e (Ne.symm h)
  refine ⟨lost.base, lost.heard, ?_, block, offer, playout, fun c hc => ?_, lost.switching⟩
  · rw [lost.link]
    exact slot_set_ne _ _ h
  · rw [lost.sects]
    split
    · rename_i c' hc'
      refine upd_ne _ _ fun hcc => h ?_
      exact Option.some.inj ((sectEnd_of_sectOf hc').symm.trans ((congrArg s.sectEnd hcc).trans (sectEnd_of_sectOf hc)))
    · rfl

/-- From `s` to `t`, with the records `l`, an end's link has been lost: what the obligation says of it, and of its section. -/
structure State.Silenced (s t : State) (e : EndNo) (l : List Event) : Prop where
  link : t.line.link[e] = false
  block : t.blocks[e] = { s.blocks[e] with release := if s.blocks[e].release = .unused then .suspended else s.blocks[e].release }
  offer : t.bells[e].offer = none
  playout : t.bells[e].playout = []
  sect : ∀ c, s.sectOf e = some c → t.sects[c] = s.sects[c].unlinked
  lost : { time := s.partTime, kind := .linkLost, subject := e.val, old := 1, new := 0, d1 := s.peerId e, d2 := s.peerEnd e
           d3 := bit s.blocks[e].long } ∈ l
  ended : ∀ c, s.sectOf e = some c → s.sects[c].pending ≠ none →
    { time := s.partTime, kind := .countReset, subject := c.val + 1, old := (s.sectState c).code
      new := if s.sects[c].latch = .none then 4 else (s.sectState c).code, d1 := 7, d2 := e.val
      d3 := hi s.sects[c].localNet, d4 := lo s.sects[c].localNet } ∈ l

theorem State.Silenced.then {s t u : State} {e : EndNo} {l : List Event} (h : s.Silenced t e l) (h' : t.Spares u e)
    (hc : t.cfg = s.cfg) (m : List Event) : s.Silenced u e (l ++ m) where
  link := h'.link.trans h.link
  block := h'.block.trans h.block
  offer := h'.offer.trans h.offer
  playout := h'.playout.trans h.playout
  sect c hs := (h'.sect c (by simpa only [State.sectOf, hc] using hs)).trans (h.sect c hs)
  lost := List.mem_append_left _ h.lost
  ended c hs hp := List.mem_append_left _ (h.ended c hs hp)

section
variable {s t : State} {e : EndNo} (h : s.Spares t e)
include h

theorem State.Spares.sectOf (e' : EndNo) : t.sectOf e' = s.sectOf e' := by simp only [State.sectOf, cfg_of_base h.base]

theorem State.Spares.peerId : t.peerId e = s.peerId e := by simp only [State.peerId, cfg_of_base h.base, h.block]

theorem State.Spares.peerEnd : t.peerEnd e = s.peerEnd e := by simp only [State.peerEnd, cfg_of_base h.base, h.block]

theorem State.Spares.partTime : t.partTime = s.partTime := by simp only [State.partTime, (State.base_eq h.base).1]

theorem State.Silenced.after {u : State} {l : List Event} (h' : t.Silenced u e l) (m : List Event) : s.Silenced u e (m ++ l) where
  link := h'.link
  block := by rw [h'.block, h.block]
  offer := h'.offer
  playout := h'.playout
  sect c hs := (h'.sect c ((h.sectOf e).trans hs)).trans (by rw [h.sect c hs])
  lost := List.mem_append_right _ (by
    have lost := h'.lost
    rwa [h.peerId, h.peerEnd, h.partTime, h.block] at lost)
  ended c hs hp := List.mem_append_right _ (by
    have same := h.sect c hs
    have ended := h'.ended c ((h.sectOf e).trans hs) (by rwa [same])
    rwa [same, h.partTime, sectState_congr (cfg_of_base h.base) same] at ended)

end

theorem State.LinkLost.silenced {s t : State} {e : EndNo} (lost : s.LinkLost t e 0) : ∃ l, Recorded s t l ∧ s.Silenced t e l := by
  obtain ⟨l, hl, record, ended⟩ := lost.recorded
  refine ⟨l, hl, ?_, lost.block, lost.bell.1, lost.bell.2, fun c hc => ?_, record, ended⟩
  · rw [lost.link]
    exact slot_set_self ..
  · rw [lost.sects, hc]
    exact upd_self ..

/-- Some ends are judged, each once: those cut off lose their links, and every other end is spared. -/
theorem foldl_judgeSilent (l : List EndNo) (nodup : l.Nodup) (s : State) (id : Fin 16) (silent : s.line.heard[id].running = false) :
    ∃ r, Recorded s (l.foldl (State.judgeSilent · id ·) s) r ∧
      (l.foldl (State.judgeSilent · id ·) s).base = s.base ∧
      (l.foldl (State.judgeSilent · id ·) s).line.heard = s.line.heard ∧
      Switching.Kept True s.switching (l.foldl (State.judgeSilent · id ·) s).switching ∧
      (∀ e ∉ l, s.Spares (l.foldl (State.judgeSilent · id ·) s) e) ∧
      ∀ e ∈ l, s.cutOff id e → s.Silenced (l.foldl (State.judgeSilent · id ·) s) e r := by
  induction l generalizing s with
  | nil => exact ⟨[], recorded_refl rfl, rfl, rfl, .refl _ _, fun e _ => .refl s e, fun e he => absurd he (by simp)⟩
  | cons a l ih =>
    obtain ⟨ha, nodup⟩ := List.nodup_cons.mp nodup
    rw [List.foldl_cons]
    obtain ⟨u, hu⟩ : ∃ u, u = s.judgeSilent id a := ⟨_, rfl⟩
    rw [← hu]
    by_cases cut : s.cutOff id a
    · have lost : s.LinkLost u a 0 := hu ▸ (judgeSilent_eq silent a).1 cut ▸ setLink_lost s a 0
      obtain ⟨r, hr, silenced⟩ := lost.silenced
      obtain ⟨r', hr', base, heard, switching, spared, rest⟩ := ih nodup u (by rwa [lost.heard])
      refine ⟨r ++ r', recorded_trans hr hr', base.trans lost.base, heard.trans lost.heard, lost.switching.trans switching, fun e he => ?_,
        fun e he hcut => ?_⟩
      · obtain ⟨hne, he⟩ := List.ne_and_not_mem_of_not_mem_cons he
        exact (lost.spares (Ne.symm hne)).trans (spared e he)
      · by_cases hae : e = a
        · rw [hae]
          exact silenced.then (spared a ha) (cfg_of_base lost.base) r'
        · have spares := lost.spares (Ne.symm hae)
          refine State.Silenced.after spares (rest e (List.mem_of_ne_of_mem hae he) ?_) r
          obtain ⟨configured, peer, up⟩ := hcut
          exact ⟨by rwa [cfg_of_base lost.base], by rwa [spares.peerId], by rwa [spares.link]⟩
    · rw [hu.trans ((judgeSilent_eq silent a).2 cut)]
      obtain ⟨r, hr, base, heard, switching, spared, rest⟩ := ih nodup s silent
      refine ⟨r, hr, base, heard, switching, fun e he => spared e fun h => he (List.mem_cons_of_mem a h), fun e he hcut => ?_⟩
      exact rest e (List.mem_of_ne_of_mem (fun hea : e = a => cut (hea ▸ hcut)) he) hcut

/-- Settles O41: the identity's ends in turn, each seen through the judgements of the others, and the event's close. -/
theorem silentPeerLosesTheLink : Obligations.SilentPeerLosesTheLink := by
  unfold Obligations.SilentPeerLosesTheLink
  intro s peer hq due
  obtain ⟨u, hu⟩ : ∃ u, u = s.modLine fun l => { l with heard := l.heard.set peer { l.heard[peer] with running := false } } := ⟨_, rfl⟩
  have silent : u.line.heard[peer].running = false := by
    rw [hu, State.modLine_line, slot_set_self]
  obtain ⟨r, hr, base, heard, switching, -, silenced⟩ := foldl_judgeSilent ends (by decide) u peer silent
  rw [← show s.lastHeardExpiry peer = ends.foldl (State.judgeSilent · peer ·) u by rw [hu, lastHeardExpiry_eq due]] at hr base heard switching silenced
  have closed : Acts .closing (s.lastHeardExpiry peer) (s.lastHeardExpiry peer).settle := settle_acts _
  obtain ⟨k, hk, -⟩ := closed.records
  have frame : (s.lastHeardExpiry peer).settle.base = s.base := closed.base.trans (base.trans (by rw [hu]; rfl))
  have first : Recorded s u [] := recorded_refl (by rw [hu]; rfl)
  have cfg : u.cfg = s.cfg := by rw [hu]; rfl
  have recorded := recorded_trans (recorded_trans first hr) hk
  refine ⟨_, rfl, State.sameFrame_of_base frame, ?_, _, recorded, fun e hc hp hl => ?_⟩
  · rw [closed.line.rest]
    rwa [← heard] at silent
  subst hu
  have done := silenced e (by fin_cases e <;> decide) ⟨hc, hp, hl⟩
  have within (x : Event) (hx : x ∈ r) : x ∈ [] ++ r ++ k := List.mem_append_left _ hx
  have block : (s.lastHeardExpiry peer).settle.blocks[e] = _ := (closed.blocks id).trans done.block
  have bell := (closed.bell (e := e) id).rest
  refine ⟨within _ ?_, ?_, by rw [block]; rfl, by rw [block]; rfl, ?_, ?_, fun c hs => ?_⟩
  · rw [← hp]
    exact done.lost
  · rw [closed.line.link]
    exact done.link
  · rw [bell]
    exact done.offer
  · rw [bell]
    exact done.playout
  · have undone := closed.sect c
    have unlinked := done.sect c hs
    rw [unlinked] at undone
    refine ⟨by rw [undone.rest]; rfl, undone.pending.elim id id, by rw [undone.rest]; rfl, fun hn => ?_, fun hp => within _ (done.ended c hs hp)⟩
    have same : (s.lastHeardExpiry peer).settle = s.lastHeardExpiry peer := settle_quiet ((switching.failing hn).trans hq)
    rw [same]
    exact unlinked

end Sys2Proof.Machine
end

section
/-! PROOFS. The abandonment of a proposal (R170) and its record (R176), and what follows a frame's leaving its slot (R112, R168). -/

namespace Sys2Proof.Machine

/-! ### SWITCHING records (R176) -/

/-- The subject of a SWITCHING record. -/
def Concern.subject (k : Concern) : Nat :=
  match k with
  | .one e _ => e.val
  | .both => 255

/-- One record, with the codes of its direction, outcome, reason and cause. -/
theorem switchRecord_recorded (s : State) (k : Concern) (d : Nat) (o : SwitchOutcome) (r : Option SwitchReason) (c : Option SwitchCause) :
    ∃ x : Event, Recorded s (s.switchRecord k d o r c) [x] ∧ x.kind = .switching ∧ x.subject = k.subject ∧ x.old = d ∧ x.new = o.code ∧
      x.d1 = reasonCode r ∧ x.d2 = causeCode c := by
  cases k with
  | one e party => exact ⟨_, append_recorded .., rfl, rfl, rfl, rfl, rfl, rfl⟩
  | both => exact ⟨_, append_recorded { s with freeCount := s.freeCount + 1 } _, rfl, rfl, rfl, rfl, rfl, rfl⟩

/-! ### The abandonment (R170) -/

/-- The ABANDON frames of a proposal's direction, to each neighbour that has AGREED. -/
def State.tellAbandoned (s : State) (a : Agreement) : State :=
  (s.sendAbandon a.direction s.first a.agreed1).sendAbandon a.direction s.second a.agreed2

theorem tellAbandoned_acts (s : State) (a : Agreement) : Acts .closing s (s.tellAbandoned a) :=
  (sendAbandon_acts s (fun _ => rfl) ..).trans (sendAbandon_acts _ (fun _ => rfl) ..)

theorem abandon_some {s : State} {a : Agreement} (h : s.switching.agreement = some a) (cause : SwitchCause) (r : Option SwitchReason)
    (k : Concern) : s.abandon cause r k =
      ((s.tellAbandoned a).modSwitching fun w => { w with agreement := none, state := a.direction.from_, failing := none }).switchRecord
        k a.direction.code .abandoned r (some cause) := by
  unfold State.abandon
  rw [h]
  rfl

theorem abandon_none {s : State} (h : s.switching.agreement = none) (cause : SwitchCause) (r : Option SwitchReason) (k : Concern) :
    s.abandon cause r k = s := by
  unfold State.abandon
  rw [h]

section
variable {s : State} {a : Agreement} (h : s.switching.agreement = some a) (cause : SwitchCause) (r : Option SwitchReason) (k : Concern)
include h

theorem abandon_switching : (s.abandon cause r k).switching.agreement = none ∧ (s.abandon cause r k).switching.state = a.direction.from_ ∧
    (s.abandon cause r k).switching.failing = none := by
  rw [abandon_some h, switchRecord_switching]
  exact ⟨rfl, rfl, rfl⟩

theorem abandon_line : (s.abandon cause r k).line = (s.tellAbandoned a).line := by
  rw [abandon_some h, switchRecord_line]
  rfl

theorem abandon_records : ∃ l x, Recorded s (s.abandon cause r k) (l ++ [x]) ∧ x.kind = .switching ∧ x.subject = k.subject ∧
    x.old = a.direction.code ∧ x.new = 3 ∧ x.d1 = reasonCode r ∧ x.d2 = cause.code := by
  obtain ⟨l, hl, -⟩ := (tellAbandoned_acts s a).records
  obtain ⟨v, hv⟩ : ∃ v, v = (s.tellAbandoned a).modSwitching fun w =>
    { w with agreement := none, state := a.direction.from_, failing := none } := ⟨_, rfl⟩
  obtain ⟨x, hx, kind, subject, old, new, d1, d2⟩ := switchRecord_recorded v k a.direction.code .abandoned r (some cause)
  have ended : Recorded (s.tellAbandoned a) v [] := recorded_refl (by rw [hv]; rfl)
  have recorded := recorded_trans (recorded_trans hl ended) hx
  rw [List.append_nil] at recorded
  rw [abandon_some h, ← hv]
  exact ⟨l, x, recorded, kind, subject, old, new, d1, d2⟩

end

/-! ### A slot emptied (R112, R168) -/

theorem draining_none {w : Switching} (h : w.agreement = none) : w.draining = none := by
  unfold Switching.draining
  rw [h]

/-- With no agreement standing there is no drain to judge. -/
theorem slotEmptied_idle {s : State} (h : s.switching.agreement = none) : s.slotEmptied = s.serveFirstOwed := by
  unfold State.slotEmptied State.judgeDrain
  rw [serveFirstOwed_switching, draining_none h]

theorem slotEmptied_settle_idle {s : State} (h : s.switching.agreement = none) (hq : s.quiet) :
    s.slotEmptied.settle = s.serveFirstOwed := by
  rw [slotEmptied_idle h]
  exact settle_quiet (by unfold State.quiet; rw [serveFirstOwed_switching]; exact hq)

/-- From the owner's report to the end of the event: the owed STATUS, the drain, and the event's close. -/
theorem slotEmptied_settle_acts (s : State) : Acts .emptying s s.slotEmptied.settle :=
  (slotEmptied_acts s).trans ((settle_acts _).mono Scope.closing_within_emptying)

end Sys2Proof.Machine
end

section
/-! PROOFS. The end of an attempt (R101 to R103, R109, R116): O35, O36. -/

namespace Sys2Proof.Machine

/-! ### A frame is dropped (R103) -/

/-- The record of a frame dropped, but for a STATUS whose link is lost (R116). -/
def State.dropRecorded (s : State) (f : Frame) : State :=
  if f.kind = .status ∧ s.line.link[f.e] = false then s else s.append (s.undeliveredRecord f 1)

/-- The state in which the owner of a dropped frame is told: it is recorded, and its slot is empty. -/
def State.dropping (s : State) (i : Fin 8) (f : Frame) : State := (s.dropRecorded f).modLine fun l => l.clearSlot i

theorem dropFrame_eq (s : State) (i : Fin 8) (f : Frame) : s.dropFrame i f = ((s.dropping i f).reportDropped f).slotEmptied := rfl

/-- The scope of a dropped frame's owner: its own end, and whatever it asks for. -/
def Scope.owner (e : EndNo) : Scope := ⟨(· = e), fun _ _ => True, True⟩

theorem Scope.emptying_within_owner (e : EndNo) : Scope.emptying.Within (.owner e) := ⟨fun _ h => h.elim, fun _ _ _ => trivial, fun _ => trivial⟩

theorem clearOutstanding_acts {σ : Scope} (s : State) {e : EndNo} (hm : σ.moves e) (n : Nat) : Acts σ s (s.clearOutstanding e n) := by
  unfold State.clearOutstanding
  split
  · exact (Act.block hm).acts
  · exact .refl s

theorem blockUndelivered_acts (s : State) (e : EndNo) (n : Nat) : Acts (.owner e) s (s.blockUndelivered e n) := by
  have cleared : Acts (.owner e) s (s.clearOutstanding e n) := clearOutstanding_acts s rfl n
  unfold State.blockUndelivered
  dsimp only
  split
  · exact cleared.trans (changeEnd_acts _ rfl trivial ..)
  · exact cleared

theorem commitUndelivered_acts (s : State) (e : EndNo) (n : Nat) : Acts (.owner e) s (s.commitUndelivered e n) := by
  unfold State.commitUndelivered
  split
  · exact abandon_acts s trivial (fun _ => trivial) ..
  · exact .refl s

theorem reportDropped_acts (s : State) (f : Frame) : Acts (.owner f.e) s (s.reportDropped f) := by
  unfold State.reportDropped
  split
  case h_1 => exact blockUndelivered_acts ..
  case h_2 => exact blockUndelivered_acts ..
  case h_3 => exact blockUndelivered_acts ..
  case h_4 => exact blockUndelivered_acts ..
  case h_5 => exact requestUndelivered_acts ..
  case h_6 => exact confirmUndelivered_acts ..
  case h_7 => exact Act.unsent.acts
  case h_8 => exact commitUndelivered_acts ..
  all_goals exact .refl s

theorem dropRecorded_leaves {α : Type} (p : State → α) (append : ∀ s r, p (State.append s r) = p s) (s : State) (f : Frame) :
    p (s.dropRecorded f) = p s := by
  unfold State.dropRecorded
  split
  · rfl
  · exact append ..

section
variable (s : State) (i : Fin 8) (f : Frame)

/-- What follows the owner's report. -/
theorem dropFrame_later : Acts .emptying ((s.dropping i f).reportDropped f) (s.dropFrame i f).settle := by
  rw [dropFrame_eq]
  exact slotEmptied_settle_acts _

/-- All that follows the emptying of the slot. -/
theorem dropFrame_acts : Acts (.owner f.e) (s.dropping i f) (s.dropFrame i f).settle :=
  (reportDropped_acts ..).trans ((dropFrame_later s i f).mono (Scope.emptying_within_owner _))

theorem dropping_line : (s.dropping i f).line = s.line.clearSlot i := by
  unfold State.dropping
  rw [State.modLine_line, dropRecorded_leaves State.line append_line]

theorem dropping_blocks : (s.dropping i f).blocks = s.blocks := dropRecorded_leaves State.blocks append_blocks s f

theorem dropping_bells : (s.dropping i f).bells = s.bells := dropRecorded_leaves State.bells append_bells s f

theorem dropping_sects : (s.dropping i f).sects = s.sects := dropRecorded_leaves State.sects append_sects s f

theorem dropping_switching : (s.dropping i f).switching = s.switching := dropRecorded_leaves State.switching append_switching s f

theorem dropping_base : (s.dropping i f).base = s.base := dropRecorded_leaves State.base append_base s f

theorem dropping_cfg : (s.dropping i f).cfg = s.cfg := cfg_of_base (dropping_base s i f)

theorem dropping_records : ∃ l, Recorded s (s.dropping i f) l := by
  unfold State.dropping State.dropRecorded
  split
  · exact ⟨[], recorded_refl rfl⟩
  · exact ⟨_, append_recorded ..⟩

theorem dropFrame_sending : (s.dropFrame i f).settle.line.sending = s.line.sending := by
  rw [(dropFrame_acts s i f).line.rest, dropping_line]
  rfl

theorem dropFrame_record (h : f.kind ≠ .status ∨ s.line.link[f.e] = true) :
    RecordedFirst s (s.dropFrame i f).settle { s.undeliveredRecord f 1 with time := s.partTime } := by
  obtain ⟨l, hl, -⟩ := (dropFrame_acts s i f).records
  have first : Recorded s (s.dropping i f) [{ s.undeliveredRecord f 1 with time := s.partTime }] := by
    unfold State.dropping State.dropRecorded
    rw [if_neg fun ⟨hk, hl⟩ => h.elim (· hk) fun h => by cases hl.symm.trans h]
    exact append_recorded ..
  exact ⟨l, recorded_trans first hl⟩

end

/-! ### What the owner of an undelivered frame does (R77, R78, R126, R141, R169) -/

section
variable {s : State} {e : EndNo} {c : SectNo} {n : Nat}

theorem requestUndelivered_ends (hc : s.sectOf e = some c) (hp : s.sects[c].pending.map (·.seq) = some n) :
    (s.requestUndelivered e n).sects[c].pending = none ∧ ∃ l, Recorded s (s.requestUndelivered e n) l ∧
      { time := s.partTime, kind := .countReset, subject := c.val + 1, old := (s.sectState c).code, new := (s.sectState c).code, d1 := 9
        d2 := e.val, d3 := hi s.sects[c].localNet, d4 := lo s.sects[c].localNet } ∈ l := by
  have ended : s.requestUndelivered e n = (s.modSect c fun x => { x with pending := none }).resetRecord s c .requestUndelivered := by
    unfold State.requestUndelivered
    rw [hc]
    exact if_pos hp
  have code : (s.modSect c fun x => { x with pending := none }).sectEndCode c = e.val := by
    unfold State.sectEndCode
    rw [show (s.modSect c fun x => { x with pending := none }).sectEnd c = some e from sectEnd_of_sectOf hc]
  have record := resetRecord_recorded (s.modSect c fun x => { x with pending := none }) s c .requestUndelivered
  rw [modSect_sectState (f := fun x => { x with pending := none }) (hf := ⟨rfl, rfl, rfl⟩), code] at record
  rw [ended]
  refine ⟨by rw [resetRecord_sects, modSect_self], _, record, List.mem_singleton.mpr rfl⟩

theorem confirmUndelivered_ends (hc : s.sectOf e = some c) (hp : s.sects[c].confirming = some n) :
    (s.confirmUndelivered e n).sects[c].confirming = none ∧ (s.confirmUndelivered e n).sects[c].latch = .disturbed ∧
      ∃ l, Recorded s (s.confirmUndelivered e n) l ∧
        { time := s.partTime, kind := .countReset, subject := c.val + 1, old := (s.sectState c).code, new := 2, d1 := 10
          d2 := e.val, d3 := hi s.sects[c].localNet, d4 := lo s.sects[c].localNet } ∈ l := by
  obtain ⟨u, hu⟩ : ∃ u, u = s.changeSect c fun x => { x.disturb with confirming := none } := ⟨_, rfl⟩
  have ended : s.confirmUndelivered e n = u.resetRecord s c .confirmUndelivered := by
    unfold State.confirmUndelivered
    rw [hc, hu]
    exact if_pos hp
  have self : u.sects[c] = { s.sects[c].disturb with confirming := none } := by rw [hu, changeSect_sects, upd_self]
  have base : u.base = s.base := by rw [hu, changeSect_base]
  have code : u.sectEndCode c = e.val := by
    unfold State.sectEndCode State.sectEnd
    rw [cfg_of_base base, show (if s.cfg.sects[c].type = .block then some (endOf s.cfg.sects[c].blockEnd) else none) = some e from
      sectEnd_of_sectOf hc]
  have state : u.sectState c = .disturbed := sectState_disturbed (by rw [self]; rfl)
  have time : u.partTime = s.partTime := by simp only [State.partTime, (State.base_eq base).1]
  obtain ⟨l, hl⟩ := (changeSect_aftermath s c fun x => { x.disturb with confirming := none }).records
  rw [← hu] at hl
  have record := resetRecord_recorded u s c .confirmUndelivered
  rw [state, code, time] at record
  rw [ended, resetRecord_sects, self]
  exact ⟨rfl, rfl, _, recorded_trans hl record, List.mem_append_right _ (List.mem_singleton.mpr rfl)⟩

theorem clearOutstanding_self (s : State) (e : EndNo) (n : Nat) : (s.clearOutstanding e n).blocks[e] = { s.blocks[e] with
    outstanding := if s.blocks[e].outstanding.map (·.seq) = some n then none else s.blocks[e].outstanding } := by
  by_cases h : s.blocks[e].outstanding.map (·.seq) = some n
  · have cleared : s.clearOutstanding e n = s.modBlock e fun b => { b with outstanding := none } := if_pos h
    rw [cleared, State.modBlock_blocks, upd_self]
    simp only [h, if_true]
  · have kept : s.clearOutstanding e n = s := if_neg h
    rw [kept]
    simp only [h, if_false]

theorem BlockEnd.moved_outstanding (b : BlockEnd) (st : BlockState) (rel : Release) : (b.moved st rel).outstanding = b.outstanding := by
  unfold BlockEnd.moved
  split <;> rfl

theorem blockUndelivered_outstanding (h : s.blocks[e].outstanding.map (·.seq) = some n) :
    (s.blockUndelivered e n).blocks[e].outstanding = none := by
  have cleared : (s.clearOutstanding e n).blocks[e].outstanding = none := by rw [clearOutstanding_self]; exact if_pos h
  unfold State.blockUndelivered
  dsimp only
  split
  · rw [changeEnd_self, BlockEnd.moved_outstanding, cleared]
  · exact cleared

/-- An acceptance that stands ends with its frame (R141). -/
theorem blockUndelivered_accept (hs : s.blocks[e].state = .accepting) (ha : s.blocks[e].acceptSeq = some n) :
    (s.blockUndelivered e n).blocks[e].state = .normal ∧ (s.blockUndelivered e n).blocks[e].release = .none ∧
      (s.blockUndelivered e n).blocks[e].acceptUntil = none ∧ (s.blockUndelivered e n).statusPromised e := by
  have accepting : (s.clearOutstanding e n).blocks[e].state = .accepting := by rw [clearOutstanding_self]; exact hs
  unfold State.blockUndelivered
  dsimp only
  rw [if_pos ⟨hs, ha⟩, changeEnd_self, BlockEnd.moved, if_neg (by rw [accepting]; decide)]
  exact ⟨rfl, rfl, rfl, changeEnd_promised (by rw [accepting]; decide) ..⟩

end

/-! ### A dropped frame, seen from before the attempt (R103) -/

/-- The code of a failure (R116). -/
def AttemptFailure.code : AttemptFailure → Nat
  | .none => 0
  | .noAcknowledge => 1
  | .lineError => 2

/-- The frame whose fourth attempt has failed. -/
def Frame.failed (f : Frame) (cause : AttemptFailure) : Frame := { f with attempts := f.attempts + 1, failure := cause }

theorem undeliveredRecord_failed (s : State) (f : Frame) (cause : AttemptFailure) :
    { s.undeliveredRecord (f.failed cause) 1 with time := s.partTime } =
      { time := s.partTime, kind := .frameUndelivered, subject := f.e.val, old := f.kind.code, new := 1
        d1 := if f.kind.composed = true ∧ f.onLine = false then s.peerId f.e else f.dest
        d2 := f.kind.cls, d3 := f.attempts + 1, d4 := cause.code : Event } := by
  have dest : s.frameDest (f.failed cause) = if f.kind.composed = true ∧ f.onLine = false then s.peerId f.e else f.dest := by
    unfold State.frameDest
    exact if_congr (by simp [Frame.failed]) rfl rfl
  unfold State.undeliveredRecord
  rw [dest]
  cases cause <;> rfl

section
variable {s : State} {i : Fin 8} {f : Frame}

theorem dropFrame_gone (hn : s.line.numbered) (hi : s.line.slots[i] = some f) (cause : AttemptFailure) :
    (s.dropFrame i (f.failed cause)).settle.line.gone f.seq :=
  (dropFrame_acts s i (f.failed cause)).line.gone (by rw [dropping_line]; exact gone_of_clearSlot hn hi)

/-- A STATUS of a lost link is dropped with no record of its own (R103). -/
theorem dropFrame_unrecorded (hq : s.quiet) (hk : f.kind = .status) (hl : s.line.link[f.e] = false) :
    ∃ l, Recorded s (s.dropFrame i f).settle l ∧ (∀ r ∈ l, r.kind = .frameUndelivered → r.new = 2) ∧
      (s.switching.agreement = none → l = []) := by
  have silent : s.dropping i f = s.modLine fun l => l.clearSlot i := by
    unfold State.dropping State.dropRecorded
    rw [if_pos ⟨hk, hl⟩]
  have emptied : Recorded s (s.dropping i f) [] := silent ▸ recorded_refl rfl
  by_cases h : s.switching.agreement = none
  · have owner : (s.dropping i f).reportDropped f = s.dropping i f := by
      unfold State.reportDropped
      rw [hk]
    have idle : (s.dropFrame i f).settle = (s.dropping i f).serveFirstOwed := by
      rw [dropFrame_eq, owner]
      refine slotEmptied_settle_idle ?_ ?_
      · rwa [dropping_switching]
      · unfold State.quiet
        rwa [dropping_switching]
    refine ⟨[], ?_, fun r hr => (by cases hr), fun _ => rfl⟩
    rw [idle]
    exact recorded_trans emptied (recorded_refl (serveFirstOwed_port _))
  · obtain ⟨l, hl, tells⟩ := (dropFrame_acts s i f).records
    refine ⟨l, recorded_trans emptied hl, fun r hr hk => ?_, fun h' => absurd h' h⟩
    have := tells r hr
    unfold Scope.tells at this
    rwa [hk] at this

theorem dropFrame_outstanding (hk : f.kind = .accept ∨ f.kind = .withdraw ∨ f.kind = .cancel ∨ f.kind = .tos)
    (h : s.blocks[f.e].outstanding.map (·.seq) = some f.seq) : (s.dropFrame i f).settle.blocks[f.e].outstanding = none := by
  have owner : (s.dropping i f).reportDropped f = (s.dropping i f).blockUndelivered f.e f.seq := by
    unfold State.reportDropped
    rcases hk with hk | hk | hk | hk <;> rw [hk]
  rw [(dropFrame_later s i f).blocks id, owner]
  exact blockUndelivered_outstanding (by rwa [dropping_blocks])

theorem dropFrame_accept (hk : f.kind = .accept) (hs : s.blocks[f.e].state = .accepting) (ha : s.blocks[f.e].acceptSeq = some f.seq) :
    (s.dropFrame i f).settle.blocks[f.e].state = .normal ∧ (s.dropFrame i f).settle.blocks[f.e].release = .none ∧
      (s.dropFrame i f).settle.blocks[f.e].acceptUntil = none ∧ (s.dropFrame i f).settle.statusPromised f.e := by
  have owner : (s.dropping i f).reportDropped f = (s.dropping i f).blockUndelivered f.e f.seq := by
    unfold State.reportDropped
    rw [hk]
  have later := dropFrame_later s i f
  rw [owner] at later
  obtain ⟨state, release, until_, promised⟩ := blockUndelivered_accept (s := s.dropping i f) (e := f.e) (n := f.seq)
    (by rwa [dropping_blocks]) (by rwa [dropping_blocks])
  rw [later.blocks id]
  exact ⟨state, release, until_, later.promised promised⟩

theorem dropFrame_code (hk : f.kind = .bellCode) {r : CodeRecord} (hr : s.bells[f.e].lastOut = some r) (hseq : r.seq = some f.seq) :
    (s.dropFrame i f).settle.bells[f.e].lastOut = some { r with notSent := true } := by
  have owner : (s.dropping i f).reportDropped f = (s.dropping i f).modBell f.e (Bell.codeUndelivered f.seq) := by
    unfold State.reportDropped
    rw [hk]
  refine ((dropFrame_later s i f).bell id).unsent _ ?_ rfl
  rw [owner, State.modBell_bells, upd_self, dropping_bells]
  unfold Bell.codeUndelivered
  rw [hr, Option.map_some, if_pos hseq]

theorem dropping_sectOf {c : SectNo} (hc : s.sectOf f.e = some c) : (s.dropping i f).sectOf f.e = some c := by
  unfold State.sectOf
  rw [dropping_cfg]
  exact hc

theorem dropping_partTime : (s.dropping i f).partTime = s.partTime := by
  simp only [State.partTime, (State.base_eq (dropping_base s i f)).1]

theorem dropFrame_request {c : SectNo} (hc : s.sectOf f.e = some c) (hk : f.kind = .resetReq)
    (hp : s.sects[c].pending.map (·.seq) = some f.seq) :
    (s.dropFrame i f).settle.sects[c].pending = none ∧ ∃ l, Recorded s (s.dropFrame i f).settle l ∧
      { time := s.partTime, kind := .countReset, subject := c.val + 1, old := (s.sectState c).code, new := (s.sectState c).code, d1 := 9
        d2 := f.e.val, d3 := hi s.sects[c].localNet, d4 := lo s.sects[c].localNet } ∈ l := by
  have owner : (s.dropping i f).reportDropped f = (s.dropping i f).requestUndelivered f.e f.seq := by
    unfold State.reportDropped
    rw [hk]
  have same : (s.dropping i f).sects[c] = s.sects[c] := by rw [dropping_sects]
  have later := dropFrame_later s i f
  rw [owner] at later
  obtain ⟨pending, l, hl, mem⟩ := requestUndelivered_ends (s := s.dropping i f) (dropping_sectOf hc) (by rwa [same])
  obtain ⟨k, hk⟩ := dropping_records s i f
  obtain ⟨m, hm, -⟩ := later.records
  rw [sectState_congr (dropping_cfg s i f) same, same, dropping_partTime] at mem
  refine ⟨(later.sect c).pending.elim (·.trans pending) (fun h => h), _, recorded_trans (recorded_trans hk hl) hm, ?_⟩
  exact List.mem_append_left _ (List.mem_append_right _ mem)

theorem dropFrame_confirm {c : SectNo} (hc : s.sectOf f.e = some c) (hk : f.kind = .resetConfirm)
    (hp : s.sects[c].confirming = some f.seq) :
    (s.dropFrame i f).settle.sects[c].confirming = none ∧ (s.dropFrame i f).settle.sects[c].latch = .disturbed ∧
      ∃ l, Recorded s (s.dropFrame i f).settle l ∧
        { time := s.partTime, kind := .countReset, subject := c.val + 1, old := (s.sectState c).code, new := 2, d1 := 10
          d2 := f.e.val, d3 := hi s.sects[c].localNet, d4 := lo s.sects[c].localNet } ∈ l := by
  have owner : (s.dropping i f).reportDropped f = (s.dropping i f).confirmUndelivered f.e f.seq := by
    unfold State.reportDropped
    rw [hk]
  have same : (s.dropping i f).sects[c] = s.sects[c] := by rw [dropping_sects]
  have later := dropFrame_later s i f
  rw [owner] at later
  obtain ⟨confirming, latch, l, hl, mem⟩ := confirmUndelivered_ends (s := s.dropping i f) (dropping_sectOf hc) (by rwa [same])
  obtain ⟨k, hk⟩ := dropping_records s i f
  obtain ⟨m, hm, -⟩ := later.records
  rw [sectState_congr (dropping_cfg s i f) same, same, dropping_partTime] at mem
  obtain ⟨still, latched⟩ := (later.sect c).confirming confirming
  exact ⟨still, latched.trans latch, _, recorded_trans (recorded_trans hk hl) hm, List.mem_append_left _ (List.mem_append_right _ mem)⟩

theorem CommitMark.isQueued_iff (m : CommitMark) (n : Nat) : m.isQueued n = true ↔ m = .queued n := by
  cases m <;> simp [CommitMark.isQueued]

/-- A COMMIT of the standing proposal abandons it (R169, R170). -/
theorem dropFrame_commit (hk : f.kind = .switchCommit) {a : Agreement} (hg : s.switching.agreement = some a)
    (hm : a.commit1 = .queued f.seq ∨ a.commit2 = .queued f.seq) :
    (s.dropFrame i f).settle.switching.agreement = none ∧ (s.dropFrame i f).settle.switching.state = a.direction.from_ ∧
      ∃ l r, Recorded s (s.dropFrame i f).settle l ∧ r ∈ l ∧ r.kind = .switching ∧ r.subject = f.e.val ∧ r.old = a.direction.code ∧
        r.new = 3 ∧ r.d2 = 4 := by
  have standing : (s.dropping i f).switching.agreement = some a := by rwa [dropping_switching]
  have stands : (s.dropping i f).commitStands f.seq = true := by
    unfold State.commitStands
    rw [standing, Option.any_some, Bool.or_eq_true, CommitMark.isQueued_iff, CommitMark.isQueued_iff]
    exact hm
  have owner : (s.dropping i f).reportDropped f =
      (s.dropping i f).abandon .commitUndelivered none ((s.dropping i f).neighbourOf f.e) := by
    unfold State.reportDropped State.commitUndelivered
    rw [hk, if_pos stands]
  obtain ⟨agreement, state, failing⟩ := abandon_switching standing .commitUndelivered none ((s.dropping i f).neighbourOf f.e)
  obtain ⟨l, r, hl, kind, subject, old, new, -, cause⟩ := abandon_records standing .commitUndelivered none ((s.dropping i f).neighbourOf f.e)
  obtain ⟨k, hk⟩ := dropping_records s i f
  rw [dropFrame_eq, owner, slotEmptied_settle_idle agreement failing, serveFirstOwed_switching]
  have served := recorded_trans (recorded_trans hk hl) (recorded_refl (serveFirstOwed_port _))
  exact ⟨agreement, state, _, r, served, by simp, kind, subject, old, new, cause⟩

end

/-! ### An attempt that fails (R101, R103, R109) -/

/-- A frame kept after a failed attempt. -/
def Frame.kept (f : Frame) (cause : AttemptFailure) : Frame :=
  { f with onLine := false, renewed := false, attempts := if f.renewed then 0 else f.attempts + 1, failure := cause }

theorem failAttempt_kept {s : State} {i : Fin 8} {f : Frame} (h : f.renewed = true ∨ f.attempts < 3) (cause : AttemptFailure) :
    s.failAttempt i f cause = s.modLine fun l => { l with slots := l.slots.set i (some (f.kept cause)) } := by
  unfold State.failAttempt Frame.offLine Frame.kept
  by_cases hr : f.renewed = true
  · simp only [hr, if_true]
  · have few : f.attempts + 1 < 4 := by
      have := h.resolve_left hr
      omega
    simp only [hr, if_false, if_pos few, Bool.false_eq_true]

theorem failAttempt_dropped {s : State} {i : Fin 8} {f : Frame} (hr : f.renewed = false) (h : 3 ≤ f.attempts) (cause : AttemptFailure) :
    s.failAttempt i f cause = s.dropFrame i (f.failed cause) := by
  unfold State.failAttempt
  dsimp only
  rw [if_neg (by simp [hr]), if_neg (by omega)]
  rfl

section
variable {s : State} {x : Sending} {f : Frame} (sending : s.line.sending = some x) (slot : s.line.slots[x.slot] = some f)
include sending slot

theorem onAir_of : s.onAir = some (x.slot, f) := by
  unfold State.onAir
  rw [sending]
  dsimp only
  rw [slot]

theorem lineError_eq (active : s.active = true) (h : s.line.decoder = .receiving ∨ x.brokenOff = true) : s.lineError =
    (s.modLine fun l => { l with sending := none, lineErrors := countUp l.lineErrors }).failAttempt x.slot f .lineError := by
  unfold State.lineError
  rw [onAir_of sending slot]
  dsimp only
  rw [if_pos (by rw [active, (sendsOn_of sending).mpr h]; rfl)]

theorem attemptEnd_eq (active : s.active = true) (read : Option Byte) : s.attemptEnd read =
    if acknowledged f (if x.brokenOff then none else read) then (s.modLine (Line.endAttempt · s.now)).deliverAttempt x.slot f
    else (s.modLine (Line.endAttempt · s.now)).failAttempt x.slot f .noAcknowledge := by
  unfold State.attemptEnd
  rw [onAir_of sending slot]
  dsimp only
  rw [if_pos active, readSlot_of sending]

end

/-- Settles O35: a failed attempt keeps its frame, or drops it, and then its owner acts and the slot's emptying follows. -/
theorem failedAttempts : Obligations.FailedAttempts := by
  unfold Obligations.FailedAttempts
  intro s x f slot hq active sending hslot kept record dropped sendsOn unread ended
  have drop (g : Line → Line) (cause : AttemptFailure) (hslots : (g s.line).slots = s.line.slots) (hnext : (g s.line).nextSeq = s.line.nextSeq)
      (hlink : (g s.line).link = s.line.link) (hsending : (g s.line).sending = none) :
      dropped ((s.modLine g).dropFrame x.slot (f.failed cause)).settle cause.code := by
    obtain ⟨u, hu⟩ : ∃ u, u = s.modLine g := ⟨_, rfl⟩
    have numbered (h : NumberLaw s) : u.line.numbered := by
      rw [hu]
      unfold Line.numbered
      rw [State.modLine_line, hslots, hnext]
      exact h
    have slots : u.line.slots[x.slot] = some f := by
      rw [hu, State.modLine_line, hslots]
      exact hslot
    have link : u.line.link = s.line.link := by rw [hu]; exact hlink
    have time : u.partTime = s.partTime := by rw [hu]; rfl
    have dest : u.peerId f.e = s.peerId f.e := by rw [hu]; rfl
    have quiet : u.quiet := by rw [hu]; exact hq
    have before : Recorded s u [] := recorded_refl (by rw [hu]; rfl)
    rw [← hu]
    refine ⟨?_, fun h => (dropFrame_gone (numbered h) slots cause).2, fun h => ?_, fun hk hl => ?_, fun hk h => ?_, fun hk hs ha => ?_,
      fun hk r hr hseq => ?_, fun c hc => ⟨fun hk hp => ?_, fun hk hp => ?_⟩, fun a hk hg hm => ?_⟩
    · rw [dropFrame_sending, hu]
      exact hsending
    · obtain ⟨l, hl⟩ := dropFrame_record u x.slot (f.failed cause) (by rw [link]; exact h)
      rw [undeliveredRecord_failed, time, dest] at hl
      exact ⟨l, recorded_trans before hl⟩
    · obtain ⟨l, hl, undelivered, none⟩ := dropFrame_unrecorded (i := x.slot) (f := f.failed cause) quiet hk (by rw [link]; exact hl)
      exact ⟨l, recorded_trans before hl, undelivered, fun h => none (by rw [hu]; exact h)⟩
    · exact dropFrame_outstanding (f := f.failed cause) hk (by rw [hu]; exact h)
    · exact dropFrame_accept (f := f.failed cause) hk (by rw [hu]; exact hs) (by rw [hu]; exact ha)
    · exact dropFrame_code (f := f.failed cause) hk (by rw [hu]; exact hr) hseq
    · subst hu
      obtain ⟨pending, l, hl, mem⟩ := dropFrame_request (s := s.modLine g) (i := x.slot) (f := f.failed cause) hc hk hp
      exact ⟨pending, l, recorded_trans before hl, mem⟩
    · subst hu
      obtain ⟨confirming, latch, l, hl, mem⟩ := dropFrame_confirm (s := s.modLine g) (i := x.slot) (f := f.failed cause) hc hk hp
      exact ⟨confirming, latch, l, recorded_trans before hl, mem⟩
    · obtain ⟨agreement, state, l, r, hl, mem⟩ := dropFrame_commit (s := u) (i := x.slot) (f := f.failed cause) hk (by rw [hu]; exact hg) hm
      exact ⟨agreement, state, l, r, recorded_trans before hl, mem⟩
  have unacknowledged (h : unread) (hd : f.dest ≠ 0) : acknowledged f (if x.brokenOff then none else slot) = false := by
    unfold acknowledged
    rw [decide_eq_false hd, Bool.or_false, decide_eq_false]
    rcases h with h | h
    · rw [if_pos h]
      simp
    · split
      · simp
      · exact h
  have line : Line.endAttempt s.line s.now = ended := by
    rw [endAttempt_of sending]
    dsimp only [ended]
    cases x.brokenOff <;> rfl
  have moved : s.modLine (Line.endAttempt · s.now) = { s with line := ended } := congrArg (fun l => { s with line := l }) line
  have rest : ended.slots = s.line.slots ∧ ended.nextSeq = s.line.nextSeq ∧ ended.link = s.line.link ∧ ended.sending = none := by
    dsimp only [ended]
    cases x.brokenOff <;> exact ⟨rfl, rfl, rfl, rfl⟩
  obtain ⟨slots, next, link, idle⟩ := rest
  refine ⟨fun h hr => ?_, fun h hr hf => ?_, fun h hd hr => ?_, fun h hd hr hf => ?_⟩
  · have failed := (lineError_eq sending hslot active h).trans (failAttempt_kept hr .lineError)
    exact next_quiet failed hq
  · have failed := (lineError_eq sending hslot active h).trans (failAttempt_dropped hr hf .lineError)
    exact ⟨_, next_settle failed, drop _ .lineError rfl rfl rfl rfl⟩
  · have failed := attemptEnd_eq sending hslot active slot
    rw [unacknowledged h hd, if_neg Bool.false_ne_true, failAttempt_kept hr] at failed
    rw [moved] at failed
    exact (next_quiet failed hq).trans (congrArg (fun v : Vector (Option Frame) 8 => Host.Outcome.next { s with
      line := { ended with slots := v.set x.slot (some (f.kept .noAcknowledge)) } }) slots)
  · have failed := attemptEnd_eq sending hslot active slot
    rw [unacknowledged h hd, if_neg Bool.false_ne_true, failAttempt_dropped hr hf] at failed
    rw [← line] at slots next link idle
    exact ⟨_, next_settle failed, drop _ .noAcknowledge slots next link idle⟩

end Sys2Proof.Machine
end

section
/-! PROOFS. A delivered attempt (R77, R102, R103, R109, R112, R141): O36. -/

namespace Sys2Proof.Machine

/-! ### The owner of a delivered frame (R77, R141) -/

section
variable {s : State} {e : EndNo} {n : Nat}

theorem clearOutstanding_leaves {α : Type} (p : State → α)
    (modBlock : ∀ s e f, (∀ b : BlockEnd, (f b).long = b.long) → p (State.modBlock s e f) = p s) : p (s.clearOutstanding e n) = p s := by
  unfold State.clearOutstanding
  split
  · exact modBlock _ _ _ fun _ => rfl
  · rfl

/-- With no agreement standing, the owner's report changes an end's record, its pairing apart, or a section's confirmation. -/
theorem reportDelivered_leaves {α : Type} (p : State → α)
    (modBlock : ∀ s e f, (∀ b : BlockEnd, (f b).long = b.long) → p (State.modBlock s e f) = p s)
    (modSect : ∀ s c f, p (State.modSect s c f) = p s) (h : s.switching.agreement = none) (f : Frame) : p (s.reportDelivered f) = p s := by
  have delivered (e : EndNo) (n : Nat) : p (s.blockDelivered e n) = p s := by
    unfold State.blockDelivered
    dsimp only
    split
    · exact (modBlock (s.clearOutstanding e n) e (fun b => { b with acceptDelivered := true }) fun _ => rfl).trans
        (clearOutstanding_leaves p modBlock)
    · exact clearOutstanding_leaves p modBlock
  have confirmed (e : EndNo) (n : Nat) : p (s.confirmDelivered e n) = p s := by
    unfold State.confirmDelivered
    split
    · split
      · exact modSect ..
      · rfl
    · rfl
  have committed (n : Nat) : s.commitDelivered n = s := by
    unfold State.commitDelivered State.commitStands
    rw [h]
    rfl
  unfold State.reportDelivered
  split
  case h_1 => exact delivered ..
  case h_2 => exact delivered ..
  case h_3 => exact delivered ..
  case h_4 => exact delivered ..
  case h_5 => exact confirmed ..
  case h_6 => rw [committed]
  all_goals rfl

theorem reportDelivered_line (h : s.switching.agreement = none) (f : Frame) : (s.reportDelivered f).line = s.line :=
  reportDelivered_leaves State.line (fun _ _ _ _ => rfl) (fun _ _ _ => rfl) h f

theorem reportDelivered_switching (h : s.switching.agreement = none) (f : Frame) : (s.reportDelivered f).switching = s.switching :=
  reportDelivered_leaves State.switching (fun _ _ _ _ => rfl) (fun _ _ _ => rfl) h f

theorem reportDelivered_base (h : s.switching.agreement = none) (f : Frame) : (s.reportDelivered f).base = s.base :=
  reportDelivered_leaves State.base (fun _ _ _ _ => rfl) (fun _ _ _ => rfl) h f

theorem reportDelivered_peerId (h : s.switching.agreement = none) (f : Frame) (e : EndNo) : (s.reportDelivered f).peerId e = s.peerId e := by
  refine reportDelivered_leaves (State.peerId · e) (fun s e' g hg => ?_) (fun _ _ _ => rfl) h f
  have long : (s.modBlock e' g).blocks[e].long = s.blocks[e].long := by
    rw [State.modBlock_blocks]
    by_cases he : e' = e
    · rw [he, upd_self, hg]
    · rw [upd_ne _ _ he]
  unfold State.peerId
  rw [long]
  rfl

theorem blockDelivered_outstanding (h : s.blocks[e].outstanding.map (·.seq) = some n) : (s.blockDelivered e n).blocks[e].outstanding = none := by
  have cleared : (s.clearOutstanding e n).blocks[e].outstanding = none := by rw [clearOutstanding_self]; exact if_pos h
  unfold State.blockDelivered
  dsimp only
  split
  · exact (congrArg BlockEnd.outstanding (upd_self ..)).trans cleared
  · exact cleared

theorem blockDelivered_accept (hs : s.blocks[e].state = .accepting) (ha : s.blocks[e].acceptSeq = some n) :
    (s.blockDelivered e n).blocks[e].acceptDelivered = true := by
  unfold State.blockDelivered
  dsimp only
  rw [if_pos ⟨hs, ha⟩, State.modBlock_blocks, upd_self]

theorem confirmDelivered_self {c : SectNo} (hc : s.sectOf e = some c) (hp : s.sects[c].confirming = some n) :
    (s.confirmDelivered e n).sects[c] = { s.sects[c] with confirming := none } := by
  unfold State.confirmDelivered
  rw [hc]
  dsimp only
  rw [if_pos hp, modSect_self]

end

/-! ### The owed STATUS of the lowest-numbered end (R112) -/

theorem firstOwed_none {s : State} (h : ∀ e : EndNo, s.line.owed[e] = false) : s.firstOwed = none :=
  List.find?_eq_none.mpr fun e _ => by rw [h e]; decide

theorem firstOwed_some {s : State} {e : EndNo} (he : s.line.owed[e] = true) (lowest : ∀ e' : EndNo, e' < e → s.line.owed[e'] = false) :
    s.firstOwed = some e := by
  have every (e : EndNo) : e ∈ ends := by
    fin_cases e <;> decide
  have sorted : ends.Pairwise (· < ·) := by decide
  cases hf : s.firstOwed with
  | none => exact absurd he (List.find?_eq_none.mp hf e (every e))
  | some e' =>
    obtain ⟨owed, before, after, split, unowed⟩ := List.find?_eq_some_iff_append.mp hf
    have mem := every e
    rw [split] at mem sorted
    rcases List.mem_append.mp mem with mem | mem
    · have := unowed e mem
      rw [he] at this
      cases this
    · rcases List.mem_cons.mp mem with rfl | mem
      · rfl
      · have above := (List.pairwise_cons.mp (List.pairwise_append.mp sorted).2.1).1 e mem
        cases (lowest e' above).symm.trans owed

theorem slotOf_none {l : Line} {k : FrameKind} {e : EndNo} (h : ∀ (i : Fin 8) (f : Frame), l.slots[i] = some f → ¬(f.kind = k ∧ f.e = e)) :
    l.slotOf k e = none := by
  cases hi : l.slotOf k e with
  | none => rfl
  | some i =>
    obtain ⟨f, hf, hk, he⟩ := slotOf_some hi
    exact absurd ⟨hk, he⟩ (h i f hf)

/-- A STATUS that is served waits with attempt count 0, the mark of its end alone is cleared where a slot is empty (R112). -/
theorem serveOwed_waits {s : State} (e : EndNo) (room : s.line.emptySlot ≠ none) :
    (∃ (i : Fin 8) (g : Frame), (s.serveOwed e).line.slots[i] = some g ∧ g.kind = .status ∧ g.e = e ∧ g.attempts = 0) ∧
      (s.serveOwed e).line.owed = s.line.owed.set e false ∧
      (s.line.slotOf .status e = none → (s.serveOwed e).slotHolds .status e (s.peerId e) [] s.line.nextSeq) := by
  unfold State.serveOwed State.raiseStatus
  split
  · rename_i i hi
    obtain ⟨f, hf, hk, he⟩ := slotOf_some hi
    refine ⟨⟨i, f.coalesce, ?_, hk, he, rfl⟩, rfl, fun hn => by cases hi.symm.trans hn⟩
    rw [State.modLine_line, modSlot_some _ _ hf]
    exact slot_set_self ..
  · split
    · rename_i i hi
      exact ⟨⟨i, { kind := .status, e := e, dest := s.peerId e, seq := s.line.nextSeq }, slot_set_self .., rfl, rfl, rfl⟩, rfl,
        fun _ => ⟨i, _, slot_set_self .., rfl, rfl, rfl, rfl, rfl⟩⟩
    · rename_i hn
      exact absurd hn room

/-! ### An attempt delivered (R103, R109) -/

/-- The state in which the owner of a delivered frame is told. -/
def State.delivering (s : State) (i : Fin 8) (f : Frame) : State :=
  s.modLine fun l => { l with slots := l.slots.set i (if f.renewed then some f.offLine else none) }

theorem deliverAttempt_eq (s : State) (i : Fin 8) (f : Frame) : s.deliverAttempt i f =
    if f.renewed then (s.delivering i f).reportDelivered f else ((s.delivering i f).reportDelivered f).slotEmptied := by
  unfold State.deliverAttempt State.delivering
  cases f.renewed <;> rfl

/-- What follows the owner's report. -/
theorem deliverAttempt_later (s : State) (i : Fin 8) (f : Frame) :
    Acts .emptying ((s.delivering i f).reportDelivered f) (s.deliverAttempt i f).settle := by
  rw [deliverAttempt_eq]
  split
  · exact (settle_acts _).mono Scope.closing_within_emptying
  · exact slotEmptied_settle_acts _

/-- With no agreement standing, the owed STATUS alone follows. -/
theorem deliverAttempt_idle {s : State} (hq : s.quiet) (h : s.switching.agreement = none) (i : Fin 8) (f : Frame) :
    (s.deliverAttempt i f).settle = if f.renewed then (s.delivering i f).reportDelivered f
      else ((s.delivering i f).reportDelivered f).serveFirstOwed := by
  have idle : (s.delivering i f).switching.agreement = none := h
  have switching : ((s.delivering i f).reportDelivered f).switching = s.switching := reportDelivered_switching idle f
  rw [deliverAttempt_eq]
  split
  · exact settle_quiet (by unfold State.quiet; rwa [switching])
  · exact slotEmptied_settle_idle (by rwa [switching]) (by unfold State.quiet; rwa [switching])

theorem acknowledged_of {f : Frame} {x : Sending} {slot : Option Byte} (h : (slot = some 0x96#8 ∧ x.brokenOff = false) ∨ f.dest = 0) :
    acknowledged f (if x.brokenOff then none else slot) = true := by
  unfold acknowledged
  rw [Bool.or_eq_true, decide_eq_true_eq, decide_eq_true_eq]
  refine h.imp_left fun ⟨hs, hb⟩ => ?_
  rw [if_neg (by simp [hb])]
  exact hs

/-- The state in which an attempt of the part's own has ended. -/
def State.attempted (s : State) : State := s.modLine (Line.endAttempt · s.now)

section
variable {s : State} {x : Sending} {f : Frame}

theorem attempted_delivering (sending : s.line.sending = some x) : s.attempted.delivering x.slot f =
    { s with line := { (if x.brokenOff then s.line else { s.line with
      decoder := .noFrame, acknowledging := false, idleFrom := s.now }) with
        sending := none, slots := s.line.slots.set x.slot (if f.renewed then some f.offLine else none) } } := by
  unfold State.attempted State.delivering State.modLine
  dsimp only
  rw [endAttempt_of sending]
  cases x.brokenOff <;> rfl

/-- With no agreement standing the owner's report leaves the line as the frame left it. -/
theorem attempted_reported (sending : s.line.sending = some x) (h : s.switching.agreement = none) :
    ((s.attempted.delivering x.slot f).reportDelivered f).line = { (if x.brokenOff then s.line else { s.line with
      decoder := .noFrame, acknowledging := false, idleFrom := s.now }) with
        sending := none, slots := s.line.slots.set x.slot (if f.renewed then some f.offLine else none) } := by
  rw [reportDelivered_line (s := s.attempted.delivering x.slot f) h f, attempted_delivering sending]

theorem attempted_owed (sending : s.line.sending = some x) (h : s.switching.agreement = none) :
    ((s.attempted.delivering x.slot f).reportDelivered f).line.owed = s.line.owed := by
  rw [attempted_reported sending h]
  cases x.brokenOff <;> rfl

end

/-! ### What the owner of a delivered frame does (R77, R141) -/

section
variable (s : State) (i : Fin 8) {f : Frame}

theorem deliverAttempt_confirmed {c : SectNo} (kind : f.kind = .resetConfirm) (hc : s.sectOf f.e = some c)
    (confirming : s.sects[c].confirming = some f.seq) :
    (s.deliverAttempt i f).settle.sects[c] =
      { s.sects[c] with confirming := none, pending := (s.deliverAttempt i f).settle.sects[c].pending } := by
  have confirmed : (s.delivering i f).reportDelivered f = (s.delivering i f).confirmDelivered f.e f.seq := by
    unfold State.reportDelivered
    rw [kind]
  have self := confirmDelivered_self (s := s.delivering i f) hc confirming
  have undone := (deliverAttempt_later s i f).sect c
  rw [confirmed, self] at undone
  obtain ⟨none, latch⟩ := undone.confirming rfl
  rw [undone.rest, none, latch]
  rfl

theorem deliverAttempt_outstanding (kind : f.kind = .accept ∨ f.kind = .withdraw ∨ f.kind = .cancel ∨ f.kind = .tos)
    (outstanding : s.blocks[f.e].outstanding.map (·.seq) = some f.seq) : (s.deliverAttempt i f).settle.blocks[f.e].outstanding = none := by
  have cleared : (s.delivering i f).reportDelivered f = (s.delivering i f).blockDelivered f.e f.seq := by
    unfold State.reportDelivered
    rcases kind with hk | hk | hk | hk <;> rw [hk]
  rw [(deliverAttempt_later s i f).blocks id, cleared]
  exact blockDelivered_outstanding outstanding

theorem deliverAttempt_accept (kind : f.kind = .accept) (accepting : s.blocks[f.e].state = .accepting)
    (stands : s.blocks[f.e].acceptSeq = some f.seq) : (s.deliverAttempt i f).settle.blocks[f.e].acceptDelivered = true := by
  have marked : (s.delivering i f).reportDelivered f = (s.delivering i f).blockDelivered f.e f.seq := by
    unfold State.reportDelivered
    rw [kind]
  rw [(deliverAttempt_later s i f).blocks id, marked]
  exact blockDelivered_accept accepting stands

end

/-- Settles O36: the frame leaves its slot, its owner acts, and the owed STATUS follows. -/
theorem deliveredFrameLeavesItsSlot : Obligations.DeliveredFrameLeavesItsSlot := by
  unfold Obligations.DeliveredFrameLeavesItsSlot
  intro s x f slot hq active sending hslot hack
  have delivered : s.attemptEnd slot = s.attempted.deliverAttempt x.slot f := by
    rw [attemptEnd_eq sending hslot active, if_pos (acknowledged_of hack)]
    rfl
  have idle (hg : s.switching.agreement = none) := deliverAttempt_idle (s := s.attempted) hq hg x.slot f
  have reported (hg : s.switching.agreement = none) := attempted_reported (f := f) sending hg
  have owed (hg : s.switching.agreement = none) := attempted_owed (f := f) sending hg
  refine ⟨fun hr => ?_, fun e hg hr he lowest => ?_, fun hn hg => ?_, ?_⟩
  · refine (next_settle delivered).trans ?_
    rw [deliverAttempt_eq, attempted_delivering sending, hr]
    rfl
  · obtain ⟨y, hy⟩ : ∃ y, y = (s.attempted.delivering x.slot f).reportDelivered f := ⟨_, rfl⟩
    have idle := idle hg
    have reported := reported hg
    have owed := owed hg
    rw [hr, if_neg Bool.false_ne_true, ← hy] at idle
    rw [← hy, hr] at reported
    rw [← hy] at owed
    have served : y.serveFirstOwed = y.serveOwed e := by
      unfold State.serveFirstOwed
      rw [firstOwed_some (by rw [owed]; exact he) fun e' h => by rw [owed]; exact lowest e' h]
    have slots : y.line.slots = s.line.slots.set x.slot none := by
      rw [reported]
      rfl
    obtain ⟨waits, mark, fresh⟩ := serveOwed_waits (s := y) e (emptySlot_ne_none (i := x.slot) (by rw [slots]; exact slot_set_self ..))
    refine ⟨_, (next_settle delivered).trans (congrArg _ (idle.trans served)), waits, fun others => ?_, by rw [mark, owed]⟩
    have peer : y.peerId e = s.peerId e := by
      rw [hy, reportDelivered_peerId (s := s.attempted.delivering x.slot f) hg]
      rfl
    have next : y.line.nextSeq = s.line.nextSeq := by
      rw [reported]
      cases x.brokenOff <;> rfl
    rw [← peer, ← next]
    refine fresh (slotOf_none fun i g hi => ?_)
    rw [slots] at hi
    by_cases h : x.slot = i
    · subst h
      cases (slot_set_self _ _ _).symm.trans hi
    · exact fun ⟨hk, he⟩ => others i g (Ne.symm h) ((slot_set_ne _ _ h).symm.trans hi) hk he
  · have idle := idle hg
    have served : ((s.attempted.delivering x.slot f).reportDelivered f).serveFirstOwed = (s.attempted.delivering x.slot f).reportDelivered f := by
      unfold State.serveFirstOwed
      rw [firstOwed_none fun e => by rw [owed hg]; exact hn e]
    rw [served, ite_self] at idle
    refine ⟨_, (next_settle delivered).trans (congrArg _ idle), ?_, ?_, ?_, ?_, fun hr => ?_, fun hr => ?_⟩
    · exact State.sameFrame_of_base (reportDelivered_base (s := s.attempted.delivering x.slot f) hg f)
    · rw [reported hg]
    · rw [reported hg]
      cases x.brokenOff <;> rfl
    · rw [reported hg]
      cases x.brokenOff <;> rfl
    · rw [reported hg, hr]
      rfl
    · have off : f.offLine = { f with onLine := false, renewed := false, attempts := 0 } := if_pos hr
      rw [reported hg, hr, off]
      rfl
  · refine ⟨_, next_settle delivered, fun c hk hc hp => ?_, deliverAttempt_outstanding s.attempted x.slot,
      deliverAttempt_accept s.attempted x.slot⟩
    rw [deliverAttempt_confirmed s.attempted x.slot hk hc hp]
    exact ⟨rfl, rfl, rfl, rfl⟩

end Sys2Proof.Machine
end

section
/-! PROOFS. The plungers, the cancellation and the refusal mark (R137, R144, R149, R151, R152): O50. -/

namespace Sys2Proof.Machine

/-! ### A frame of an end's own, outstanding from its queueing (section 8.1) -/

/-- The frame that an outstanding exchange of an end consists of. -/
def OutKind.frame : OutKind → FrameKind
  | .accept => .accept
  | .withdraw => .withdraw
  | .cancel => .cancel
  | .tos => .tos

theorem OutKind.frame_cls (o : OutKind) : o.frame.cls = 0 := by cases o <;> rfl

theorem OutKind.frame_composed (o : OutKind) : o.frame.composed = false := by cases o <;> rfl

theorem requestOutstanding_eq (s : State) (e : EndNo) (o : OutKind) (p : List Byte) : s.requestOutstanding e o p =
    match (s.answerTo o.frame e).seq with
    | some n => (s.request o.frame e (s.peerId e) p).modBlock e fun b => { b with outstanding := some ⟨o, n⟩ }
    | none => s.request o.frame e (s.peerId e) p := by
  cases o <;> rfl

section
variable {s : State} {e : EndNo} {o : OutKind} {p : List Byte}

theorem requestOutstanding_queued {n : Nat} (h : s.answerTo o.frame e = .queued n) : s.requestOutstanding e o p =
    (s.request o.frame e (s.peerId e) p).modBlock e fun b => { b with outstanding := some ⟨o, n⟩ } := by
  rw [requestOutstanding_eq, h]
  rfl

theorem requestOutstanding_none (h : s.answerTo o.frame e = .refused) : s.requestOutstanding e o p = s := by
  rw [requestOutstanding_eq, h]
  exact request_refused h _ _

theorem requestOutstanding_self {n : Nat} (h : s.answerTo o.frame e = .queued n) :
    (s.requestOutstanding e o p).blocks[e] = { s.blocks[e] with outstanding := some ⟨o, n⟩ } := by
  rw [requestOutstanding_queued h, State.modBlock_blocks, upd_self, request_blocks]

theorem requestOutstanding_other {e' : EndNo} (hne : e' ≠ e) : (s.requestOutstanding e o p).blocks[e'] = s.blocks[e'] := by
  rw [requestOutstanding_eq]
  split
  · rw [State.modBlock_blocks, upd_ne _ _ (Ne.symm hne), request_blocks]
  · rw [request_blocks]

theorem requestOutstanding_slotHolds {n : Nat} (h : s.answerTo o.frame e = .queued n) :
    (s.requestOutstanding e o p).slotHolds o.frame e (s.peerId e) p n := by
  rw [requestOutstanding_queued h]
  exact slotHolds_of_line rfl (request_slotHolds h ..)

end

/-! ### A change of an end takes no room from its own frames (R110, R111) -/

theorem changeEnd_noRoom (s : State) (e : EndNo) (st : BlockState) (rel : Release) (cause : Cause) {cls : Nat} (hc : cls < 3) :
    (s.changeEnd e st rel cause).line.NoRoom cls ↔ s.line.NoRoom cls := by
  unfold State.changeEnd
  split
  · exact Iff.rfl
  · have raised : ((((s.modBlock e (·.moved st rel)).blockRecord e s.blocks[e].state cause 0).reportBlock e).raiseStatus e).line.NoRoom cls ↔
        s.line.NoRoom cls := by
      rw [raiseStatus_noRoom _ _ hc, reportBlock_line]
      unfold State.blockRecord
      rw [append_line]
      exact Iff.rfl
    unfold State.reportEndChange
    dsimp only
    split
    · exact raised
    · split
      · rw [reportStateToSwitching_line, clearOffer_line]
        exact raised
      · rw [reportStateToSwitching_line]
        exact raised

theorem changeEnd_answerTo (s : State) (e : EndNo) (st : BlockState) (rel : Release) (cause : Cause) (o : OutKind) :
    (s.changeEnd e st rel cause).answerTo o.frame e = .refused ↔ s.answerTo o.frame e = .refused := by
  rw [answerTo_refused_iff o.frame_composed, answerTo_refused_iff o.frame_composed, o.frame_cls]
  exact changeEnd_noRoom s e st rel cause (by decide)

theorem changeEnd_peerId (s : State) (e : EndNo) (st : BlockState) (rel : Release) (cause : Cause) :
    (s.changeEnd e st rel cause).peerId e = s.peerId e := by
  have long : (s.changeEnd e st rel cause).blocks[e].long = s.blocks[e].long := by
    rw [changeEnd_self]
    unfold BlockEnd.moved
    split <;> rfl
  unfold State.peerId
  rw [long, cfg_of_base (changeEnd_base ..)]

theorem BlockEnd.moved_eq {b : BlockEnd} {st : BlockState} (h : b.state ≠ st) (rel : Release) : b.moved st rel = { b with
    state := st, release := rel, refusal := none, mismatch := false
    acceptUntil := if st = .accepting then b.acceptUntil else none
    cancelUntil := if st = .cancelling then b.cancelUntil else none } := if_neg h

/-- An end that returns to NORMAL with a frame of its own (R141, R151, R152). -/
theorem changeEnd_returnedWith {s : State} {e : EndNo} (h : s.blocks[e].state ≠ .normal) (cause : Cause) (o : OutKind) :
    s.returnedWith ((s.changeEnd e .normal .none cause).requestOutstanding e o []).settle e s.blocks[e] o o.frame := by
  obtain ⟨u, hu⟩ : ∃ u, u = s.changeEnd e .normal .none cause := ⟨_, rfl⟩
  rw [← hu]
  have closed : Acts .closing (u.requestOutstanding e o []) (u.requestOutstanding e o []).settle := settle_acts _
  have self : u.blocks[e] = { s.blocks[e] with
      state := .normal, release := .none, refusal := none, mismatch := false, acceptUntil := none, cancelUntil := none } := by
    rw [hu, changeEnd_self, BlockEnd.moved_eq h]
    rfl
  have answer : u.answerTo o.frame e = .refused ↔ s.answerTo o.frame e = .refused := hu ▸ changeEnd_answerTo s e .normal .none cause o
  have refused (hr : s.answerTo o.frame e = .refused) : (u.requestOutstanding e o []).blocks[e] = u.blocks[e] := by
    rw [requestOutstanding_none (answer.mpr hr)]
  have queued (hr : s.answerTo o.frame e ≠ .refused) : ∃ n, u.answerTo o.frame e = .queued n :=
    ((answerTo_cases u o.frame_composed e).resolve_left (mt answer.mp hr)) |> fun h => ⟨_, h⟩
  refine ⟨?_, fun hr => ?_, fun hr => ?_, fun e' hne => ?_⟩
  · rw [closed.blocks id]
    by_cases hr : s.answerTo o.frame e = .refused
    · rw [refused hr, self]
    · obtain ⟨n, hn⟩ := queued hr
      rw [requestOutstanding_self hn, self]
  · obtain ⟨n, hn⟩ := queued hr
    refine ⟨n, by rw [closed.blocks id, requestOutstanding_self hn], closed.slotHolds o.frame_cls ?_⟩
    have peer : u.peerId e = s.peerId e := hu ▸ changeEnd_peerId ..
    rw [← peer]
    exact requestOutstanding_slotHolds hn
  · rw [closed.blocks id, refused hr, self]
  · rw [closed.blocks id, requestOutstanding_other hne, hu, changeEnd_other s hne]

/-! ### The plungers pressed (R137, R149, R151) -/

/-- The record of an operation refused (R161). -/
def State.refusedRecord (s : State) (e : EndNo) (op cause : Nat) : Event :=
  { kind := .blockStateChanged, subject := e.val, old := s.blocks[e].state.code, new := s.blocks[e].state.code
    d1 := s.blocks[e].release.code, d2 := cause, d3 := bit s.line.link[e], d4 := op }

theorem refuseOperation_eq (s : State) (e : EndNo) (cause : Cause) (op : RefusedOp) :
    s.refuseOperation e cause op = s.append (s.refusedRecord e op.code cause.code) := rfl

theorem raiseStatus_eq (s : State) (e : EndNo) : s.raiseStatus e = { s with line := (s.raiseStatus e).line } := by
  unfold State.raiseStatus
  split
  · rfl
  · split <;> rfl

section
variable {s : State} {e : EndNo}

theorem tosPlungerPress_eq (due : s.instrumentDue e s.blocks[e].tos true = true) :
    s.tosPlungerPress e = if s.instrumented e then (s.settleTos e).pressTos e else s.settleTos e := by
  unfold State.tosPlungerPress
  rw [if_pos due]

theorem cancelPlungerPress_eq (due : s.instrumentDue e s.blocks[e].cancel true = true) :
    s.cancelPlungerPress e = if s.instrumented e then (s.settleCancel e).pressCancel e else s.settleCancel e := by
  unfold State.cancelPlungerPress
  rw [if_pos due]

theorem settleTos_self : (s.settleTos e).blocks[e] = { s.blocks[e] with tos := s.blocks[e].tos.settle debounce50 s.now } := upd_self ..

theorem settleCancel_self :
    (s.settleCancel e).blocks[e] = { s.blocks[e] with cancel := s.blocks[e].cancel.settle debounce50 s.now } := upd_self ..

theorem settleTos_peerId : (s.settleTos e).peerId e = s.peerId e := by
  unfold State.peerId
  rw [settleTos_self]
  rfl

theorem settleCancel_peerId : (s.settleCancel e).peerId e = s.peerId e := by
  unfold State.peerId
  rw [settleCancel_self]
  rfl

/-- A press of the TOS plunger at an end in OCCUPIED_IN (R149). -/
theorem pressTos_cases (hs : s.blocks[e].state = .occupiedIn) :
    (¬(s.endSectState e = .clear ∨ s.endSectState e = .resetPrep) → s.pressTos e = s.refuseOperation e .tosPlunger .tosCount) ∧
    (s.endSectState e = .clear ∨ s.endSectState e = .resetPrep →
      (s.answerTo .tos e = .refused → s.pressTos e = s.refuseOperation e .tosPlunger .tosSlots) ∧
      ∀ n, s.answerTo .tos e = .queued n →
        s.pressTos e = (s.requestOutstanding e .tos (bytes2 (s.endNet e))).changeEnd e .normal .none .tosPlunger) := by
  unfold State.pressTos
  rw [if_neg (not_not_intro hs)]
  refine ⟨fun hn => if_pos (not_or.mp hn), fun hsound => ?_⟩
  rw [if_neg fun h => hsound.elim h.1 h.2]
  refine ⟨fun hr => ?_, fun n hn => ?_⟩
  · rw [hr]
    rfl
  · rw [hn]
    rfl

/-- A TOS that has found a slot: the end is NORMAL, and the frame is outstanding (R149). -/
theorem requestOutstanding_changeEnd {o : OutKind} {p : List Byte} {n : Nat} (hn : s.answerTo o.frame e = .queued n)
    (hs : s.blocks[e].state ≠ .normal) (cause : Cause) :
    ((s.requestOutstanding e o p).changeEnd e .normal .none cause).settle.blocks[e] = { s.blocks[e] with
      state := .normal, release := .none, refusal := none, mismatch := false, acceptUntil := none, cancelUntil := none
      outstanding := some ⟨o, n⟩ } ∧
    ((s.requestOutstanding e o p).changeEnd e .normal .none cause).settle.slotHolds o.frame e (s.peerId e) p n := by
  have changed : Acts (.ofEnd e) _ ((s.requestOutstanding e o p).changeEnd e .normal .none cause) :=
    changeEnd_acts (σ := .ofEnd e) _ rfl ⟨rfl, rfl⟩ ..
  have closed := settle_acts ((s.requestOutstanding e o p).changeEnd e .normal .none cause)
  refine ⟨?_, closed.slotHolds o.frame_cls (changed.slotHolds o.frame_cls (requestOutstanding_slotHolds hn))⟩
  rw [closed.blocks id, changeEnd_self, requestOutstanding_self hn]
  exact (BlockEnd.moved_eq (b := { s.blocks[e] with outstanding := some ⟨o, n⟩ }) hs .none).trans rfl

/-! ### The presses, one by one (R149, R151, R152) -/

theorem tosPlungerPress_disregarded (due : s.instrumentDue e s.blocks[e].tos true = true)
    (h : s.instrumented e = false ∨ s.blocks[e].state ≠ .occupiedIn) : s.tosPlungerPress e = s.settleTos e := by
  rw [tosPlungerPress_eq due]
  split
  · rename_i hi
    unfold State.pressTos
    rw [settleTos_self]
    exact if_pos (h.resolve_left (by simp [hi]))
  · rfl

theorem settleTos_refuseOperation (op : RefusedOp) : (s.settleTos e).refuseOperation e .tosPlunger op = (s.settleTos e).append
    { kind := .blockStateChanged, subject := e.val, old := s.blocks[e].state.code, new := s.blocks[e].state.code
      d1 := s.blocks[e].release.code, d2 := 11, d3 := bit s.line.link[e], d4 := op.code } := by
  rw [refuseOperation_eq]
  unfold State.refusedRecord
  rw [settleTos_self]
  rfl

/-- A press that has given up a clear section: the TOS waits, and the end is NORMAL (R149). -/
theorem tosPlungerPress_queued (due : s.instrumentDue e s.blocks[e].tos true = true) (instrumented : s.instrumented e = true)
    (hs : s.blocks[e].state = .occupiedIn) (sound : s.endSectState e = .clear ∨ s.endSectState e = .resetPrep) {n : Nat}
    (hn : s.answerTo .tos e = .queued n) : Runs (.tosPlungerPress e) s fun t =>
      s.sameFrame t ∧ t.blocks[e] = { s.blocks[e] with
        tos := s.blocks[e].tos.settle (ms 50) s.now, state := .normal, release := .none, refusal := none, mismatch := false
        acceptUntil := none, cancelUntil := none, outstanding := some ⟨.tos, n⟩ } ∧
      t.slotHolds .tos e (s.peerId e) [byte (hi (s.endNet e)), byte (lo (s.endNet e))] n := by
  have pressed := tosPlungerPress_eq due
  rw [if_pos instrumented] at pressed
  have queued := ((pressTos_cases (s := s.settleTos e) (e := e) (by rw [settleTos_self]; exact hs)).2 sound).2 n hn
  have base : ((s.settleTos e).requestOutstanding e .tos (bytes2 ((s.settleTos e).endNet e))
      |>.changeEnd e .normal .none .tosPlunger).settle.base = s.base := by
    simp [State.settleTos]
  obtain ⟨block, holds⟩ := requestOutstanding_changeEnd (s := s.settleTos e) (e := e) (o := .tos)
    (p := bytes2 ((s.settleTos e).endNet e)) hn (by rw [settleTos_self]; exact fun h => by cases hs.symm.trans h) .tosPlunger
  rw [settleTos_self] at block
  rw [settleTos_peerId] at holds
  exact ⟨_, next_settle (pressed.trans queued), State.sameFrame_of_base base, block, holds⟩

/-- A press of the CANCEL plunger at an end in CLEAR_OUT, by its release (R151). -/
theorem pressCancel_eq (hs : s.blocks[e].state = .clearOut) : s.pressCancel e =
    if s.blocks[e].release = .unused ∨ s.blocks[e].release = .suspended then s.cancelEnd e .cancelPlunger
    else if s.blocks[e].release = .taken then s.refuseOperation e .cancelPlunger .cancelTaken
    else if s.blocks[e].release = .spent then
      (s.modBlock e fun b => { b with cancelUntil := some (s.now + secs s.cfg.cancellationSecs) }).changeEnd e .cancelling .none .cancelPlunger
    else s := by
  unfold State.pressCancel
  rw [if_neg (not_not_intro hs)]
  cases hr : s.blocks[e].release <;> dsimp only <;> simp only [reduceCtorEq, or_self, or_false, or_true, if_true, if_false]

theorem cancelPlungerPress_disregarded (due : s.instrumentDue e s.blocks[e].cancel true = true)
    (h : s.instrumented e = false ∨ s.blocks[e].state ≠ .clearOut ∨ s.blocks[e].release = .none) :
    s.cancelPlungerPress e = s.settleCancel e := by
  rw [cancelPlungerPress_eq due]
  split
  · rename_i hi
    by_cases hs : s.blocks[e].state = .clearOut
    · have hr : s.blocks[e].release = .none := (h.resolve_left (by simp [hi])).resolve_left (not_not_intro hs)
      rw [pressCancel_eq (by rw [settleCancel_self]; exact hs), settleCancel_self, hr]
      rfl
    · unfold State.pressCancel
      rw [settleCancel_self]
      exact if_pos hs
  · rfl

/-- A press in CLEAR_OUT that is taken, by the end's release. -/
theorem cancelPlungerPress_taken (due : s.instrumentDue e s.blocks[e].cancel true = true) (hi : s.instrumented e = true)
    (hs : s.blocks[e].state = .clearOut) : s.cancelPlungerPress e =
      if s.blocks[e].release = .unused ∨ s.blocks[e].release = .suspended then (s.settleCancel e).cancelEnd e .cancelPlunger
      else if s.blocks[e].release = .taken then (s.settleCancel e).refuseOperation e .cancelPlunger .cancelTaken
      else if s.blocks[e].release = .spent then
        ((s.settleCancel e).modBlock e fun b => { b with cancelUntil := some (s.now + secs s.cfg.cancellationSecs) }).changeEnd
          e .cancelling .none .cancelPlunger
      else s.settleCancel e := by
  rw [cancelPlungerPress_eq due, if_pos hi, pressCancel_eq (by rw [settleCancel_self]; exact hs), settleCancel_self]
  rfl

theorem cancelPlungerPress_cancels (due : s.instrumentDue e s.blocks[e].cancel true = true) (hi : s.instrumented e = true)
    (hs : s.blocks[e].state = .clearOut) (hr : s.blocks[e].release = .unused ∨ s.blocks[e].release = .suspended) :
    Runs (.cancelPlungerPress e) s fun t => s.sameFrame t ∧
      s.returnedWith t e { s.blocks[e] with cancel := s.blocks[e].cancel.settle (ms 50) s.now } .cancel .cancel := by
  have pressed := cancelPlungerPress_taken due hi hs
  rw [if_pos hr] at pressed
  have self := settleCancel_self (s := s) (e := e)
  have base : ((s.settleCancel e).cancelEnd e .cancelPlunger).settle.base = s.base := by simp [State.settleCancel]
  obtain ⟨block, queued, refused, others⟩ := changeEnd_returnedWith (s := s.settleCancel e) (e := e)
    (by rw [self]; exact fun h => by cases hs.symm.trans h) .cancelPlunger .cancel
  rw [self] at block refused
  rw [settleCancel_peerId] at queued
  refine ⟨_, next_settle pressed, State.sameFrame_of_base base, block, queued, refused, fun e' hne => ?_⟩
  exact (others e' hne).trans (upd_ne _ _ (Ne.symm hne))

theorem cancelPlungerPress_waits (due : s.instrumentDue e s.blocks[e].cancel true = true) (hi : s.instrumented e = true)
    (hs : s.blocks[e].state = .clearOut) (hr : s.blocks[e].release = .spent) : Runs (.cancelPlungerPress e) s fun t =>
      s.sameFrame t ∧ t.blocks[e] = { s.blocks[e] with
        cancel := s.blocks[e].cancel.settle (ms 50) s.now, state := .cancelling, release := .none, refusal := none, mismatch := false
        acceptUntil := none, cancelUntil := some (s.now + secs s.cfg.cancellationSecs) } := by
  have pressed := cancelPlungerPress_taken due hi hs
  rw [hr, if_neg (by decide), if_neg (by decide), if_pos rfl] at pressed
  obtain ⟨u, hu⟩ : ∃ u, u = (s.settleCancel e).modBlock e fun b => { b with cancelUntil := some (s.now + secs s.cfg.cancellationSecs) } :=
    ⟨_, rfl⟩
  rw [← hu] at pressed
  have timed : u.blocks[e] = { s.blocks[e] with
      cancel := s.blocks[e].cancel.settle (ms 50) s.now, cancelUntil := some (s.now + secs s.cfg.cancellationSecs) } := by
    rw [hu, State.modBlock_blocks, upd_self, settleCancel_self]
    rfl
  have closed := settle_acts (u.changeEnd e .cancelling .none .cancelPlunger)
  have base : (u.changeEnd e .cancelling .none .cancelPlunger).settle.base = s.base := by
    rw [settle_base, changeEnd_base, hu]
    rfl
  refine ⟨_, next_settle pressed, State.sameFrame_of_base base, ?_⟩
  rw [closed.blocks id, changeEnd_self, BlockEnd.moved_eq (by rw [timed]; exact fun h => by cases hs.symm.trans h), timed]
  rfl

theorem settleCancel_refuseOperation (op : RefusedOp) : (s.settleCancel e).refuseOperation e .cancelPlunger op = (s.settleCancel e).append
    { kind := .blockStateChanged, subject := e.val, old := s.blocks[e].state.code, new := s.blocks[e].state.code
      d1 := s.blocks[e].release.code, d2 := 13, d3 := bit s.line.link[e], d4 := op.code } := by
  rw [refuseOperation_eq]
  unfold State.refusedRecord
  rw [settleCancel_self]
  rfl

/-! ### The timers (R144, R152) -/

theorem cancellationTimerExpiry_eq (ha : s.active = true) (hx : expired s.now s.blocks[e].cancelUntil = true) : s.cancellationTimerExpiry e =
    if s.blocks[e].state = .cancelling then s.cancelEnd e .cancelExpired else s.modBlock e fun b => { b with cancelUntil := none } := by
  unfold State.cancellationTimerExpiry
  rw [if_pos (by rw [ha, hx]; rfl)]
  split
  · rename_i h
    rw [if_pos h]
  · rename_i h
    rw [if_neg h]

theorem refusalMarkExpiry_eq (ha : s.active = true) (hx : expired s.now (s.blocks[e].refusal.map (·.until_)) = true) :
    s.refusalMarkExpiry e = (s.modBlock e fun b => { b with refusal := none }).raiseStatus e := by
  unfold State.refusalMarkExpiry
  rw [if_pos (by rw [ha, hx]; rfl)]

end

/-- Settles O50: the presses by the state, the release and the section, and the timers and releases. -/
theorem plungersActByTheState : Obligations.PlungersActByTheState := by
  unfold Obligations.PlungersActByTheState
  intro s e hq
  dsimp only
  have settled : (s.settleTos e).quiet ∧ (s.settleCancel e).quiet := ⟨hq, hq⟩
  obtain ⟨tosQuiet, cancelQuiet⟩ := settled
  refine ⟨fun due => ⟨fun hn => ?_, fun hi hs => ⟨fun hn => ?_, fun sound hr => ?_, fun n sound hn => ?_⟩⟩,
    fun due => ⟨fun hn => ?_, fun hi hs => ⟨fun hr => ?_, fun hr => ?_, fun hr => ?_⟩⟩, fun ha hx => ⟨fun hs => ?_, fun hs => ?_⟩,
    fun due => ?_, fun due => ?_, fun c due => ?_, fun ha hx => ?_⟩
  · exact next_quiet (tosPlungerPress_disregarded due hn) tosQuiet
  · have refused := (pressTos_cases (s := s.settleTos e) (e := e) (by rw [settleTos_self]; exact hs)).1 hn
    have pressed := (tosPlungerPress_eq due).trans ((if_pos hi).trans (refused.trans (settleTos_refuseOperation .tosCount)))
    exact next_quiet pressed (append_quiet tosQuiet _)
  · have refused := ((pressTos_cases (s := s.settleTos e) (e := e) (by rw [settleTos_self]; exact hs)).2 sound).1 hr
    have pressed := (tosPlungerPress_eq due).trans ((if_pos hi).trans (refused.trans (settleTos_refuseOperation .tosSlots)))
    exact next_quiet pressed (append_quiet tosQuiet _)
  · exact tosPlungerPress_queued due hi hs sound hn
  · exact next_quiet (cancelPlungerPress_disregarded due hn) cancelQuiet
  · exact cancelPlungerPress_cancels due hi hs hr
  · have pressed := cancelPlungerPress_taken due hi hs
    rw [if_neg (by rw [hr]; decide), if_pos hr, settleCancel_refuseOperation] at pressed
    exact next_quiet pressed (append_quiet cancelQuiet _)
  · exact cancelPlungerPress_waits due hi hs hr
  · have ended := (cancellationTimerExpiry_eq ha hx).trans (if_pos hs)
    have base : (s.cancelEnd e .cancelExpired).settle.base = s.base := by simp
    exact ⟨_, next_settle ended, State.sameFrame_of_base base, changeEnd_returnedWith (by rw [hs]; decide) .cancelExpired .cancel⟩
  · exact next_quiet ((cancellationTimerExpiry_eq ha hx).trans (if_neg hs)) hq
  · have released : s.plungerOrKeyRelease (.tosPlunger e) = s.settleTos e := if_pos due
    exact next_quiet released tosQuiet
  · have released : s.plungerOrKeyRelease (.cancelPlunger e) = s.settleCancel e := if_pos due
    exact next_quiet released cancelQuiet
  · have released : s.plungerOrKeyRelease (.resetKey c) = s.settleKey c := if_pos due
    exact next_quiet released hq
  · obtain ⟨u, hu⟩ : ∃ u, u = s.modBlock e fun b => { b with refusal := none } := ⟨_, rfl⟩
    have cleared : s.refusalMarkExpiry e = u.raiseStatus e := by rw [refusalMarkExpiry_eq ha hx, hu]
    have quiet : (u.raiseStatus e).quiet := by
      unfold State.quiet
      rw [raiseStatus_switching, hu]
      exact hq
    refine ⟨_, next_quiet cleared quiet, ?_, ?_, raiseStatus_promised u e⟩
    · rw [raiseStatus_eq, hu]
      rfl
    · rw [raiseStatus_blocks, hu]
      rfl

end Sys2Proof.Machine
end

section
/-! PROOFS. The orders that the switching controller gives to a block end (R159), the re-pairing of its section (R68, R174) and the change of the part
state (R179): what a run of them does, and what it leaves. -/

namespace Sys2Proof.Machine

/-! ### An end's bell work ended (R121) -/

theorem formOutbound_abandoned (s : State) (e : EndNo) {r : CodeRecord} (ht : r.termination = .abandoned) (hi : r.index = none) :
    ∃ x : Event, x.kind = .codeSent ∧
      s.formOutbound e r = (s.modBell e fun b => { b with lastOut := some { r with notSent := true } }).append x := by
  unfold State.formOutbound State.sendCode
  rw [hi, if_pos ht]
  exact ⟨_, rfl, rfl⟩

/-- A code that ends ABANDONED asks for no frame: the bell's own data change, and CODE_SENT is recorded (R126). -/
theorem endCode_abandoned (s : State) (e : EndNo) : ∃ (r : CodeRecord) (x : Event), x.kind = .codeSent ∧
    s.endCode e .abandoned .idle = ((s.modBell e fun b => { b with parser := .idle, groups := [], codeUntil := none }).modBell e
      fun b => { b with lastOut := some r }).append x := by
  obtain ⟨x, hx, formed⟩ := formOutbound_abandoned (s.modBell e fun b => { b with parser := .idle, groups := [], codeUntil := none }) e
    (r := { groups := s.bells[e].groups, termination := .abandoned, index := s.cfg.recordIndex .abandoned s.bells[e].groups
            time := s.bells[e].firstStrike }) rfl rfl
  exact ⟨_, x, hx, formed⟩

theorem bellInactive_acts {σ : Scope} (s : State) {e : EndNo} (hm : σ.moves e) : Acts σ s (s.bellInactive e) := by
  have changed (u : State) (f : Bell → Bell) (ho : ∀ b, (f b).offer = b.offer) (hp : ∀ b, b.playout = [] → (f b).playout = []) :
      Acts σ u (u.modBell e f) := (Act.bell hm (fun h => (ho _).trans h) (hp _)).acts
  have ended : Acts σ s (match s.bells[e].parser with
      | .collecting => s.endCode e .abandoned .idle
      | _ => s) := by
    split
    · obtain ⟨r, x, hx, coded⟩ := endCode_abandoned s e
      rw [coded]
      refine Acts.trans ?_ (Act.record ?_).acts
      · refine Acts.trans (changed s _ ?_ ?_) (changed _ _ ?_ ?_)
        · exact fun _ => rfl
        · exact fun _ h => h
        · exact fun _ => rfl
        · exact fun _ h => h
      · unfold Scope.tells
        rw [hx]
        exact ⟨e, hm⟩
    · exact .refl s
  exact ended.trans (changed _ _ (fun _ => rfl) fun _ _ => rfl)

theorem bellInactive_leaves {α : Type} (p : State → α) (append : ∀ s r, p (State.append s r) = p s)
    (bell : ∀ s e f, p (State.modBell s e f) = p s) (s : State) (e : EndNo) : p (s.bellInactive e) = p s := by
  refine (bell _ _ _).trans ?_
  split
  · obtain ⟨r, x, -, coded⟩ := endCode_abandoned s e
    rw [coded, append, bell, bell]
  · rfl

theorem bellInactive_sects (s : State) (e : EndNo) : (s.bellInactive e).sects = s.sects :=
  bellInactive_leaves State.sects append_sects (fun _ _ _ => rfl) s e

theorem bellInactive_blocks (s : State) (e : EndNo) : (s.bellInactive e).blocks = s.blocks :=
  bellInactive_leaves State.blocks append_blocks (fun _ _ _ => rfl) s e

theorem bellInactive_playout (s : State) (e : EndNo) : (s.bellInactive e).bells[e].playout = [] := by
  unfold State.bellInactive
  rw [State.modBell_bells, upd_self]

/-! ### An end ordered into a state (R159) -/

section
variable (s : State) (e : EndNo) (st : BlockState)

/-- The record of an end that is ordered into a state. -/
def BlockEnd.orderedTo (b : BlockEnd) (st : BlockState) : BlockEnd := b.ordered.moved st .none

theorem orderState_acts {σ : Scope} (hm : σ.moves e) (ha : σ.asks .status e) : Acts σ s (s.orderState e st) := by
  have changed : Acts σ s ((s.modBlock e BlockEnd.ordered).changeEnd e st .none .switching) :=
    (Act.block hm).acts.trans (changeEnd_acts _ hm ha ..)
  have raised (u : State) : Acts σ u (if s.blocks[e].refusal.isSome then u.raiseStatus e else u) := by
    split
    · exact raiseStatus_acts u ha
    · exact .refl u
  unfold State.orderState
  dsimp only
  split
  · exact (changed.trans (raised _)).trans (bellInactive_acts _ hm)
  · exact changed.trans (raised _)

/-- Beside the end's own change an order leaves what STATUS, records and bells leave. -/
theorem orderState_leaves {α : Type} (p : State → α) (append : ∀ s r, p (State.append s r) = p s)
    (bell : ∀ s e f, p (State.modBell s e f) = p s) (raise : ∀ s e, p (State.raiseStatus s e) = p s) :
    p (s.orderState e st) = p ((s.modBlock e BlockEnd.ordered).changeEnd e st .none .switching) := by
  have raised (u : State) : p (if s.blocks[e].refusal.isSome then u.raiseStatus e else u) = p u := by
    split
    · exact raise ..
    · rfl
  unfold State.orderState
  dsimp only
  split
  · exact (bellInactive_leaves p append bell _ e).trans (raised _)
  · exact raised _

theorem orderState_sects : (s.orderState e st).sects = s.sects := by
  rw [orderState_leaves s e st State.sects append_sects (fun _ _ _ => rfl) raiseStatus_sects, changeEnd_sects]
  rfl

theorem orderState_self : (s.orderState e st).blocks[e] = s.blocks[e].orderedTo st := by
  rw [orderState_leaves s e st State.blocks append_blocks (fun _ _ _ => rfl) raiseStatus_blocks, changeEnd_self, State.modBlock_blocks, upd_self]
  rfl

theorem orderState_promised (h : s.blocks[e].state ≠ st) : (s.orderState e st).statusPromised e := by
  have moves : (s.modBlock e BlockEnd.ordered).blocks[e].state ≠ st := by
    rw [State.modBlock_blocks, upd_self]
    exact h
  have changed := changeEnd_promised moves .none .switching
  have raised : State.statusPromised (if s.blocks[e].refusal.isSome then
      ((s.modBlock e BlockEnd.ordered).changeEnd e st .none .switching).raiseStatus e
      else (s.modBlock e BlockEnd.ordered).changeEnd e st .none .switching) e := by
    split
    · exact raiseStatus_promised _ e
    · exact changed
  unfold State.orderState
  dsimp only
  split
  · exact (bellInactive_acts (σ := .ofEnd e) _ rfl).promised raised
  · exact raised

theorem orderState_inactive_playout : (s.orderState e .inactive).bells[e].playout = [] := bellInactive_playout _ e

end

theorem orderedTo_state (b : BlockEnd) (st : BlockState) : (b.orderedTo st).state = st := BlockEnd.moved_state ..

theorem orderedTo_release (b : BlockEnd) (st : BlockState) : (b.orderedTo st).release = .none := BlockEnd.moved_release ..

/-- An order into a state leaves the pairing and the outstanding frame, and sets no mismatch mark. -/
theorem orderedTo_paired (b : BlockEnd) (st : BlockState) : (b.orderedTo st).long = b.long ∧ (b.orderedTo st).outstanding = b.outstanding ∧
    (b.mismatch = false → (b.orderedTo st).mismatch = false) := by
  unfold BlockEnd.orderedTo BlockEnd.moved
  split
  · exact ⟨rfl, rfl, fun h => h⟩
  · exact ⟨rfl, rfl, fun _ => rfl⟩

/-! ### A section re-paired, or left (R68, R78) -/

theorem rePair_rePair (x : Sect) : x.rePair.rePair = x.rePair := by
  unfold Sect.rePair
  cases x.latch <;> rfl

/-- From `s` to `t` the section of an end has not changed. -/
def State.sectKept (s t : State) (e : EndNo) : Prop := ∀ c, s.sectOf e = some c → t.sects[c] = s.sects[c]

/-- From `s` to `t` every end's section has been re-paired, or it has been left. -/
structure State.Repairs (s t : State) : Prop where
  cfg : t.cfg = s.cfg
  now : t.now = s.now
  recorded : ∃ l, Recorded s t l
  sect : ∀ e, s.rePaired t e ∨ s.sectKept t e

/-- From `s` to `t` orders have been carried out that move none but the ends of `E`: what is left, and what becomes of the sections. -/
structure State.Orders (E : EndNo → Prop) (s t : State) : Prop extends State.Repairs s t where
  switching : Switching.Kept True s.switching t.switching
  promised : ∀ e, s.statusPromised e → t.statusPromised e
  playout : ∀ e : EndNo, s.bells[e].playout = [] → t.bells[e].playout = []
  others : ∀ e : EndNo, ¬E e → t.blocks[e] = s.blocks[e]

section
variable {E : EndNo → Prop} {s t u : State} {e : EndNo}

theorem State.Repairs.sectOf (h : s.Repairs t) (e : EndNo) : t.sectOf e = s.sectOf e := by simp only [State.sectOf, h.cfg]

theorem State.Repairs.partTime (h : s.Repairs t) : t.partTime = s.partTime := by simp only [State.partTime, h.now]

theorem State.Repairs.first (h : s.Repairs t) : t.first = s.first := by simp only [State.first, h.cfg]

theorem State.Repairs.second (h : s.Repairs t) : t.second = s.second := by simp only [State.second, h.cfg]

/-- A section that has been re-paired stays so through what follows. -/
theorem State.Repairs.rePaired_before (h : s.Repairs t) (h' : t.Repairs u) (hp : s.rePaired t e) : s.rePaired u e := by
  intro c hc
  obtain ⟨data, ended⟩ := hp c hc
  have data' : t.sects[c] = s.sects[c].rePair := data
  have same : u.sects[c] = t.sects[c] := by
    rcases h'.sect e with hr | hk
    · obtain ⟨again, -⟩ := hr c ((h.sectOf e).trans hc)
      have again' : u.sects[c] = t.sects[c].rePair := again
      rw [again', data', rePair_rePair]
    · exact hk c ((h.sectOf e).trans hc)
  refine ⟨same.trans data, fun pending => ?_⟩
  obtain ⟨l, hl, mem⟩ := ended pending
  obtain ⟨m, hm⟩ := h'.recorded
  refine ⟨l ++ m, recorded_trans hl hm, List.mem_append_left _ ?_⟩
  rwa [sectState_congr h'.cfg same]

/-- A section is re-paired where it has been left before. -/
theorem State.Repairs.rePaired_after (h : s.Repairs t) (hk : s.sectKept t e) (hp : t.rePaired u e) : s.rePaired u e := by
  intro c hc
  have same := hk c hc
  obtain ⟨data, ended⟩ := hp c ((h.sectOf e).trans hc)
  rw [same, h.partTime, sectState_congr h.cfg same] at ended
  rw [same] at data
  refine ⟨data, fun pending => ?_⟩
  obtain ⟨l, hl, mem⟩ := ended pending
  obtain ⟨m, hm⟩ := h.recorded
  exact ⟨m ++ l, recorded_trans hm hl, List.mem_append_right _ mem⟩

/-- A section that is re-paired somewhere in a run of re-pairings is re-paired by the run. -/
theorem State.Repairs.rePaired (h : s.Repairs t) (h' : t.Repairs u) (hp : s.rePaired t e ∨ t.rePaired u e) : s.rePaired u e := by
  rcases hp with hp | hp
  · exact h.rePaired_before h' hp
  · rcases h.sect e with hr | hk
    · exact h.rePaired_before h' hr
    · exact h.rePaired_after hk hp

theorem State.Repairs.trans (h : s.Repairs t) (h' : t.Repairs u) : s.Repairs u where
  cfg := h'.cfg.trans h.cfg
  now := h'.now.trans h.now
  recorded := by
    obtain ⟨l, hl⟩ := h.recorded
    obtain ⟨m, hm⟩ := h'.recorded
    exact ⟨_, recorded_trans hl hm⟩
  sect e := by
    rcases h'.sect e with hr | hk'
    · exact .inl (h.rePaired h' (.inr hr))
    · rcases h.sect e with hr | hk
      · exact .inl (h.rePaired h' (.inl hr))
      · exact .inr fun c hc => (hk' c ((h.sectOf e).trans hc)).trans (hk c hc)

theorem repairs_of_eq (cfg : t.cfg = s.cfg) (now : t.now = s.now) (sects : t.sects = s.sects) (recorded : ∃ l, Recorded s t l) : s.Repairs t :=
  ⟨cfg, now, recorded, fun _ => .inr fun _ _ => by rw [sects]⟩

theorem modSwitching_repairs (s : State) (f : Switching → Switching) : s.Repairs (s.modSwitching f) :=
  repairs_of_eq rfl rfl rfl ⟨[], recorded_refl rfl⟩

theorem State.Orders.trans (h : s.Orders E t) (h' : t.Orders E u) : s.Orders E u where
  toRepairs := h.toRepairs.trans h'.toRepairs
  switching := h.switching.trans h'.switching
  promised e := h'.promised e ∘ h.promised e
  playout e := h'.playout e ∘ h.playout e
  others e he := (h'.others e he).trans (h.others e he)

theorem State.Orders.mono {F : EndNo → Prop} (h : s.Orders E t) (hE : ∀ e, E e → F e) : s.Orders F t :=
  { h with others := fun e he => h.others e fun h => he (hE e h) }

theorem State.Orders.refl (s : State) : s.Orders E s :=
  ⟨repairs_of_eq rfl rfl rfl ⟨[], recorded_refl rfl⟩, .refl _ _, fun _ => id, fun _ => id, fun _ _ => rfl⟩

/-- A run of acts at one end that leaves the sections. -/
theorem Acts.orders (h : Acts (.ofEnd e) s t) (hs : t.sects = s.sects) : s.Orders (· = e) t where
  cfg := h.cfg
  now := (State.base_eq h.base).1
  switching := (h.switching id).mono fun _ => trivial
  promised _ := h.promised
  playout e := (h.bell_empty e).2
  others _ he := h.blocks he
  recorded := let ⟨l, hl, _⟩ := h.records; ⟨l, hl⟩
  sect _ := .inr fun c _ => by rw [hs]

theorem orderState_orders (s : State) (e : EndNo) (st : BlockState) : s.Orders (· = e) (s.orderState e st) :=
  (orderState_acts (σ := .ofEnd e) s e st rfl ⟨rfl, rfl⟩).orders (orderState_sects ..)

/-- A step that moves no end, no bell and no section. -/
theorem State.Orders.of_eq (cfg : t.cfg = s.cfg) (now : t.now = s.now) (switching : t.switching = s.switching)
    (promised : ∀ e, s.statusPromised e → t.statusPromised e) (bells : t.bells = s.bells) (blocks : t.blocks = s.blocks)
    (sects : t.sects = s.sects) (recorded : ∃ l, Recorded s t l) : s.Orders E t :=
  ⟨repairs_of_eq cfg now sects recorded, switching ▸ .refl _ _, promised, fun _ h => by rwa [bells], fun _ _ => by rw [blocks]⟩

end

theorem switchRecord_orders {E : EndNo → Prop} (s : State) (k : Concern) (d : Nat) (o : SwitchOutcome) (r : Option SwitchReason)
    (c : Option SwitchCause) : s.Orders E (s.switchRecord k d o r c) := by
  obtain ⟨x, hx, -⟩ := switchRecord_recorded s k d o r c
  have base : (s.switchRecord k d o r c).base = s.base := by simp
  exact .of_eq (cfg_of_base base) (State.base_eq base).1 (by simp) (fun e h => by rwa [statusPromised_iff, switchRecord_line])
    (by simp) (by simp) (by simp) ⟨_, hx⟩

theorem setPartState_orders {E : EndNo → Prop} (s : State) (p : PartState) : s.Orders E (s.setPartState p) :=
  .of_eq rfl rfl rfl (fun _ => id) rfl rfl rfl ⟨[], recorded_refl rfl⟩

/-! ### A section re-paired (R68, R174) -/

theorem rePairSect_line (s : State) (e : EndNo) : (s.rePairSect e).line = s.line := cutSect_line s e _ rePair_remote

theorem rePairSect_blocks (s : State) (e : EndNo) : (s.rePairSect e).blocks = s.blocks := cutSect_blocks s e _ rePair_remote

theorem rePairSect_bells (s : State) (e : EndNo) : (s.rePairSect e).bells = s.bells := cutSect_bells s e _ rePair_remote

theorem rePairSect_sect {s : State} {e : EndNo} {c : SectNo} (hc : s.sectOf e = some c) : (s.rePairSect e).sects[c] = s.sects[c].rePair := by
  rw [rePairSect_eq, cutSect_sects, hc]
  exact upd_self ..

theorem rePairSect_rePaired (s : State) (e : EndNo) : s.rePaired (s.rePairSect e) e := by
  intro c hc
  refine ⟨rePairSect_sect hc, fun pending => ?_⟩
  obtain ⟨l, hl, ended⟩ := cutSect_records s e .pairingChanged rePair_remote
  refine ⟨l, hl, ?_⟩
  have state : (s.rePairSect e).sectState c = sectState .block s.sects[c].rePair := by
    unfold State.sectState
    rw [rePairSect_sect hc, cfg_of_base (rePairSect_base s e), (sectOf_some hc).2.1]
  rw [state]
  exact ended c hc pending

theorem rePairSect_sectKept (s : State) {e e' : EndNo} (h : e' ≠ e) : s.sectKept (s.rePairSect e) e' := by
  intro c hc
  rw [rePairSect_eq, cutSect_sects]
  split
  · rename_i c' hc'
    refine upd_ne _ _ fun same => h ?_
    exact Option.some.inj ((sectEnd_of_sectOf hc).symm.trans ((congrArg s.sectEnd same.symm).trans (sectEnd_of_sectOf hc')))
  · rfl

theorem rePairSect_orders {E : EndNo → Prop} (s : State) (e : EndNo) : s.Orders E (s.rePairSect e) where
  cfg := cfg_of_base (rePairSect_base s e)
  now := (State.base_eq (rePairSect_base s e)).1
  switching := (cutSect_switching s e _ rePair_remote).mono False.elim
  promised e' h := by rwa [statusPromised_iff, rePairSect_line]
  playout e' h := by rwa [rePairSect_bells]
  others e' _ := by rw [rePairSect_blocks]
  recorded := let ⟨l, hl, _⟩ := cutSect_records s e .pairingChanged rePair_remote; ⟨l, hl⟩
  sect e' := by
    by_cases h : e' = e
    · exact .inl (h ▸ rePairSect_rePaired s e)
    · exact .inr (rePairSect_sectKept s h)

/-! ### A link judged afresh (R113) -/

theorem setLink_restored_orders {E : EndNo → Prop} (s : State) (e : EndNo) (d4 : Nat) : s.Orders E (s.setLink e true d4) := by
  have base := setLink_base s e true d4
  have linked : Recorded s (s.modLine fun l => { l with link := l.link.set e true }) [] := recorded_refl rfl
  have same : s.setLink e true d4 = (s.modLine fun l => { l with link := l.link.set e true }).linkRecord e true d4 := rfl
  refine .of_eq (cfg_of_base base) (State.base_eq base).1 ?_ (fun e' h => ?_) ?_ ?_ ?_ ⟨_, recorded_trans linked (linkRecord_recorded ..)⟩
  · rw [same, linkRecord_switching]
    rfl
  · rw [statusPromised_iff, same, linkRecord_line]
    exact h
  · rw [same, linkRecord_bells]
    rfl
  · rw [same, linkRecord_blocks]
    rfl
  · rw [same, linkRecord_sects]
    rfl

/-- A link that is lost leaves a section that holds no net and no request. -/
theorem State.LinkLost.orders {s t : State} {e : EndNo} {d4 : Nat} (lost : s.LinkLost t e d4)
    (h : ∀ c, s.sectOf e = some c → s.sects[c].unlinked = s.sects[c]) : s.Orders (· = e) t where
  cfg := cfg_of_base lost.base
  now := (State.base_eq lost.base).1
  switching := lost.switching
  promised := lost.promised
  playout e' he := by
    by_cases hne : e' = e
    · rw [hne]
      exact lost.bell.2
    · rwa [(lost.others e' hne).2.2]
  others e' he := (lost.others e' he).1
  recorded := let ⟨l, hl, _⟩ := lost.recorded; ⟨l, hl⟩
  sect e' := by
    refine .inr fun c hc => ?_
    by_cases hne : e' = e
    · subst hne
      rw [lost.sects, hc]
      exact (upd_self ..).trans (h c hc)
    · exact (lost.spares (Ne.symm hne)).sect c hc

theorem judgeLink_cases (s : State) (e : EndNo) (d4Up d4Lost : Nat) : s.judgeLink e d4Up d4Lost = s ∨
    (s.peerHeard e = true ∧ s.judgeLink e d4Up d4Lost = s.setLink e true d4Up) ∨ s.judgeLink e d4Up d4Lost = s.setLink e false d4Lost := by
  unfold State.judgeLink
  split
  · exact .inl rfl
  · cases h : s.peerHeard e with
    | true => exact .inr (.inl ⟨rfl, rfl⟩)
    | false => exact .inr (.inr rfl)

theorem judgeLink_orders (s : State) (e : EndNo) (d4Up d4Lost : Nat)
    (h : ∀ c, s.sectOf e = some c → s.sects[c].unlinked = s.sects[c]) : s.Orders (· = e) (s.judgeLink e d4Up d4Lost) := by
  rcases judgeLink_cases s e d4Up d4Lost with same | ⟨-, up⟩ | lost
  · rw [same]
    exact .refl s
  · exact up ▸ setLink_restored_orders ..
  · exact lost ▸ (setLink_lost ..).orders h

/-- The release apart, the judgement of a link leaves its end. -/
theorem judgeLink_self (s : State) (e : EndNo) (d4Up d4Lost : Nat) :
    (s.judgeLink e d4Up d4Lost).blocks[e] = { s.blocks[e] with release := (s.judgeLink e d4Up d4Lost).blocks[e].release } := by
  rcases judgeLink_cases s e d4Up d4Lost with same | ⟨-, up⟩ | lost
  · rw [same]
  · rw [up, show (s.setLink e true d4Up).blocks = s.blocks from linkRecord_blocks ..]
  · rw [lost, (setLink_lost s e _).block]

/-! ### An end ordered to a pairing (R159) -/

/-- From `s` to `t` an end has been ordered to a pairing (R159, R68). -/
structure State.PairedTo (s t : State) (e : EndNo) (long : Bool) : Prop where
  orders : s.Orders (· = e) t
  base : t.base = s.base
  long : t.blocks[e].long = long
  mismatch : t.blocks[e].mismatch = false
  outstanding : t.blocks[e].outstanding = none
  state : t.blocks[e].state = s.blocks[e].state
  playout : t.bells[e].playout = []
  promised : t.statusPromised e
  rePaired : s.rePaired t e

theorem orderPairing_pairedTo (s : State) (e : EndNo) (long : Bool) : s.PairedTo (s.orderPairing e long) e long := by
  obtain ⟨a, ha⟩ : ∃ a, a = s.modBlock e fun b => { b.ordered with long := long, outstanding := none, mismatch := false } := ⟨_, rfl⟩
  obtain ⟨b, hb⟩ : ∃ b, b = a.changeEnd e a.blocks[e].state .none .switching := ⟨_, rfl⟩
  obtain ⟨c, hc⟩ : ∃ c, c = (b.rePairSect e).flushPlayout e := ⟨_, rfl⟩
  have whole : s.orderPairing e long = (c.judgeLink e 0 1).raiseStatus e := by
    rw [hc, hb, ha]
    rfl
  have changed : Acts (.ofEnd e) s b := by
    rw [hb, ha]
    exact (Act.block (by exact rfl)).acts.trans (changeEnd_acts (σ := .ofEnd e) _ rfl ⟨rfl, rfl⟩ ..)
  have first : s.Orders (· = e) b := changed.orders (by rw [hb, changeEnd_sects, ha]; rfl)
  have second : b.Orders (· = e) (b.rePairSect e) := rePairSect_orders b e
  have third : (b.rePairSect e).Orders (· = e) c := by
    rw [hc]
    exact (flushPlayout_acts (σ := .ofEnd e) _ rfl).orders (flushPlayout_sects ..)
  have unlinked (n : SectNo) (hn : c.sectOf e = some n) : c.sects[n].unlinked = c.sects[n] := by
    have found : b.sectOf e = some n := by rw [← hn, third.sectOf, second.sectOf]
    have data : c.sects[n] = b.sects[n].rePair := by rw [hc, flushPlayout_sects, rePairSect_sect found]
    rw [data]
    rfl
  have fourth : c.Orders (· = e) (c.judgeLink e 0 1) := judgeLink_orders c e 0 1 unlinked
  have fifth : (c.judgeLink e 0 1).Orders (· = e) ((c.judgeLink e 0 1).raiseStatus e) :=
    (raiseStatus_acts (σ := .ofEnd e) _ ⟨rfl, rfl⟩).orders (raiseStatus_sects ..)
  have block : (s.orderPairing e long).blocks[e] = { s.blocks[e].ordered with
      long := long, outstanding := none, mismatch := false, release := (s.orderPairing e long).blocks[e].release } := by
    have self : a.blocks[e] = { s.blocks[e].ordered with long := long, outstanding := none, mismatch := false } := by
      rw [ha, State.modBlock_blocks, upd_self]
    rw [whole, raiseStatus_blocks, judgeLink_self, hc, flushPlayout_blocks, rePairSect_blocks, hb, changeEnd_self, self, BlockEnd.moved, if_pos rfl]
  have later := fourth.trans fifth
  refine ⟨?_, orderPairing_base .., by rw [block], by rw [block], by rw [block], by rw [block]; rfl, ?_, ?_, ?_⟩
  · rw [whole]
    exact ((first.trans second).trans third).trans later
  · rw [whole]
    refine later.playout e ?_
    rw [hc]
    unfold State.flushPlayout
    rw [State.modBell_bells, upd_self]
  · rw [whole]
    exact raiseStatus_promised ..
  · rw [whole]
    exact first.rePaired ((second.trans third).trans later).toRepairs
      (.inr (second.rePaired_before (third.trans later).toRepairs (rePairSect_rePaired b e)))

end Sys2Proof.Machine
end

section
/-! PROOFS. Both designated ends ordered and their sections re-paired: the part's entry into OUT and its return to IN (R169, R172 to R175). -/

namespace Sys2Proof.Machine

/-! ### Both designated ends -/

/-- An end is one of the two designated ends. -/
def State.isDesignated (s : State) (e : EndNo) : Prop := e = s.first ∨ e = s.second

section
variable (s : State) (st : BlockState)

theorem orderBoth_first : s.Orders s.isDesignated (s.orderState s.first st) :=
  (orderState_orders s s.first st).mono fun _ h => .inl h

theorem orderBoth_second : (s.orderState s.first st).Orders s.isDesignated (s.orderBoth st) :=
  (orderState_orders _ s.second st).mono fun _ h => .inr h

theorem orderBoth_orders : s.Orders s.isDesignated (s.orderBoth st) := (orderBoth_first s st).trans (orderBoth_second s st)

/-- What the order brings a designated end to, where a second one brings it there again. -/
theorem orderBoth_designated {Q : State → EndNo → Prop} (order : ∀ u e, Q (State.orderState u e st) e)
    (keep : ∀ u e e', Q u e → Q (State.orderState u e' st) e) {e : EndNo} (he : s.isDesignated e) : Q (s.orderBoth st) e := by
  rcases he with rfl | rfl
  · exact keep _ _ _ (order s s.first)
  · exact order _ s.second

/-- What an order into a state keeps of every end's record. -/
theorem orderState_block_keeps {P : BlockEnd → Prop} (keep : ∀ b, P b → P (b.orderedTo st)) (u : State) (e e' : EndNo) (h : P u.blocks[e]) :
    P (u.orderState e' st).blocks[e] := by
  by_cases same : e' = e
  · subst same
    rw [orderState_self]
    exact keep _ h
  · rwa [(orderState_orders u e' st).others e (Ne.symm same)]

theorem orderBoth_keeps {P : BlockEnd → Prop} (keep : ∀ b, P b → P (b.orderedTo st)) {e : EndNo} (h : P s.blocks[e]) :
    P (s.orderBoth st).blocks[e] :=
  orderState_block_keeps st keep _ e _ (orderState_block_keeps st keep s e _ h)

theorem orderBoth_block {e : EndNo} (he : s.isDesignated e) :
    (s.orderBoth st).blocks[e].state = st ∧ (s.orderBoth st).blocks[e].release = .none :=
  orderBoth_designated s st (Q := fun u e => u.blocks[e].state = st ∧ u.blocks[e].release = .none)
    (fun u e => by rw [orderState_self]; exact ⟨orderedTo_state .., orderedTo_release ..⟩)
    (fun u e e' h => orderState_block_keeps st (P := fun b => b.state = st ∧ b.release = .none)
      (fun b _ => ⟨orderedTo_state .., orderedTo_release ..⟩) u e e' h) he

theorem orderBoth_promised {e : EndNo} (he : s.isDesignated e) (h : s.blocks[e].state ≠ st) : (s.orderBoth st).statusPromised e := by
  by_cases first : e = s.first
  · subst first
    exact (orderBoth_second s st).promised _ (orderState_promised s s.first st h)
  · obtain rfl : e = s.second := he.resolve_left first
    refine orderState_promised _ s.second st ?_
    rwa [(orderState_orders s s.first st).others s.second first]

theorem rePairBoth_second : (s.rePairSect s.first).Orders s.isDesignated s.rePairBoth := rePairSect_orders ..

theorem rePairBoth_orders : s.Orders s.isDesignated s.rePairBoth :=
  (rePairSect_orders s s.first).trans (rePairBoth_second s)

theorem rePairBoth_blocks : s.rePairBoth.blocks = s.blocks := by
  unfold State.rePairBoth
  rw [rePairSect_blocks, rePairSect_blocks]

theorem rePairBoth_rePaired {e : EndNo} (he : s.isDesignated e) : s.rePaired s.rePairBoth e := by
  have first : s.Orders s.isDesignated (s.rePairSect s.first) := rePairSect_orders s s.first
  rcases he with rfl | rfl
  · exact first.rePaired (rePairBoth_second s).toRepairs (.inl (rePairSect_rePaired s s.first))
  · exact first.rePaired (rePairBoth_second s).toRepairs (.inr (rePairSect_rePaired _ s.second))

end

/-! ### What both changes of the part do -/

/-- From `s` to `t` both designated ends have been ordered into a state and their sections re-paired. -/
structure State.Ordered (s t : State) (st : BlockState) : Prop where
  orders : s.Orders s.isDesignated t
  block : ∀ e, s.isDesignated e → t.blocks[e].state = st ∧ t.blocks[e].release = .none
  keeps : ∀ {P : BlockEnd → Prop}, (∀ b, P b → P (b.orderedTo st)) → ∀ e : EndNo, P s.blocks[e] → P t.blocks[e]
  promised : ∀ e, s.isDesignated e → s.blocks[e].state ≠ st → t.statusPromised e
  rePaired : ∀ e, s.isDesignated e → s.rePaired t e
  playout : ∀ e, s.isDesignated e → st = .inactive → t.bells[e].playout = []

/-- The orders to both ends and the re-pairing of both, with other orders that move no end before and after. -/
theorem orderBoth_ordered {s a d : State} {st : BlockState} (before : s.Orders (fun _ => False) a) 
    (after : ((a.orderBoth st).rePairBoth).Orders (fun _ => False) d) : s.Ordered d st := by
  have designated (e : EndNo) (he : s.isDesignated e) : a.isDesignated e := by
    unfold State.isDesignated
    rwa [before.first, before.second]
  have back (e : EndNo) (he : a.isDesignated e) : s.isDesignated e := by
    unfold State.isDesignated
    rwa [← before.first, ← before.second]
  have both := orderBoth_orders a st
  have onward (e : EndNo) (he : s.isDesignated e) : (a.orderBoth st).isDesignated e := by
    unfold State.isDesignated
    rw [both.first, both.second]
    exact designated e he
  have paired : (a.orderBoth st).Orders a.isDesignated (a.orderBoth st).rePairBoth :=
    (rePairBoth_orders _).mono fun e he => by
      unfold State.isDesignated at he
      rwa [both.first, both.second] at he
  have blocks : d.blocks = (a.orderBoth st).blocks := by
    refine Vector.ext fun i hi => ?_
    have same := after.others ⟨i, hi⟩ id
    rw [rePairBoth_blocks] at same
    exact same
  have start : s.Orders s.isDesignated a := before.mono fun _ h => h.elim
  have rest : (a.orderBoth st).Orders a.isDesignated d := paired.trans (after.mono fun _ h => h.elim)
  have unmoved (e : EndNo) : a.blocks[e] = s.blocks[e] := before.others e id
  refine ⟨start.trans ((both.trans rest).mono back), fun e he => ?_, fun keep e h => ?_, fun e he h => ?_, fun e he => ?_, fun e he hst => ?_⟩
  · rw [blocks]
    exact orderBoth_block a st (designated e he)
  · rw [blocks]
    exact orderBoth_keeps a st keep (by rwa [unmoved])
  · exact rest.promised e (orderBoth_promised a st (designated e he) (by rwa [unmoved]))
  · exact (start.trans (both.mono back)).rePaired rest.toRepairs
      (.inr (paired.rePaired after.toRepairs (.inl (rePairBoth_rePaired _ (onward e he)))))
  · subst hst
    refine rest.playout e ?_
    exact orderBoth_designated a .inactive (Q := fun u e => u.bells[e].playout = []) (fun u e => orderState_inactive_playout u e)
      (fun u e e' h => (orderState_orders u e' .inactive).playout e h) (designated e he)

/-- The controller's own data at its entry into OUT. -/
def Switching.enteringOut (w : Switching) : Switching :=
  { w with state := .out, agreement := none, startWatch := false, overheard1 := none, overheard2 := none, failing := none }

/-- The controller's own data at its return to IN. -/
def Switching.returningIn (w : Switching) : Switching := { w with state := .inUse, agreement := none }

theorem enterOut_ordered (s : State) (o : SwitchOutcome) (k : Concern) :
    (s.modSwitching Switching.enteringOut).Ordered (s.enterOut o k) .inactive :=
  orderBoth_ordered ((switchRecord_orders _ k Direction.out.code o none none).trans (setPartState_orders _ .switchedOut)) (.refl _)

theorem returnIn_ordered (s : State) (o : SwitchOutcome) (k : Concern) :
    (s.modSwitching Switching.returningIn).Ordered (s.returnIn o k) .normal :=
  orderBoth_ordered (switchRecord_orders _ k Direction.into.code o none none) (setPartState_orders _ .running)

theorem enterOut_loader (s : State) (o : SwitchOutcome) (k : Concern) :
    (s.enterOut o k).loader = { s.loader with partState := .switchedOut } := by
  obtain ⟨-, -, loader, -⟩ := State.base_eq (enterOut_base s o k)
  exact loader

theorem returnIn_loader (s : State) (o : SwitchOutcome) (k : Concern) : (s.returnIn o k).loader = { s.loader with partState := .running } := by
  obtain ⟨-, -, loader, -⟩ := State.base_eq (returnIn_base s o k)
  exact loader

/-- The locks are de-energised at the entry into OUT (R9, R169). -/
theorem enterOut_outputs (s : State) (o : SwitchOutcome) (k : Concern) (i : LeverNo) : (s.enterOut o k).levers[i].output = false := by
  obtain ⟨-, -, -, -, levers, -⟩ := State.base_eq (enterOut_base s o k)
  rw [levers]
  exact outputs_off (by simp [State.driveAll, State.isRunning, State.modLoader]) (driveAll_lockLaw _) i

end Sys2Proof.Machine
end

section
/-! PROOFS. A taken frame's sender, the end it maps to, and the STATUS frames overheard (R104, R105, R113, R171, R172, R175): O39. -/

namespace Sys2Proof.Machine

/-! ### The links of the sender's ends (R104 step 1, R113) -/

/-- Links have come up, and those of a sender alone. -/
structure State.LinksUp (s t : State) (sender : Nat) : Prop where
  cfg : t.cfg = s.cfg
  blocks : t.blocks = s.blocks
  heard : t.line.heard = s.line.heard
  others : ∀ e : EndNo, s.peerId e ≠ sender → t.line.link[e] = s.line.link[e]
  up : ∀ e : EndNo, s.line.link[e] = true → t.line.link[e] = true

theorem State.LinksUp.peerId {s t : State} {sender : Nat} (h : s.LinksUp t sender) (e : EndNo) : t.peerId e = s.peerId e := by
  simp only [State.peerId, h.cfg, h.blocks]

theorem State.LinksUp.trans {s t u : State} {sender : Nat} (h : s.LinksUp t sender) (h' : t.LinksUp u sender) : s.LinksUp u sender where
  cfg := h'.cfg.trans h.cfg
  blocks := h'.blocks.trans h.blocks
  heard := h'.heard.trans h.heard
  others e he := (h'.others e (by rwa [h.peerId])).trans (h.others e he)
  up e := h'.up e ∘ h.up e

/-- An end is judged, where its current peer is the sender. -/
def State.judgeHeard (s : State) (f : RxFrame) (e : EndNo) : State :=
  if s.endConfigured e && decide (s.peerId e = f.sender) then s.judgeLink e f.kind.code 0 else s

theorem judgeHeard_linksUp {s : State} {f : RxFrame} (heard : s.line.heard[identityIndex f.sender].running = true) (e : EndNo) :
    s.LinksUp (s.judgeHeard f e) f.sender ∧
      (s.cfg.ends[e].configured = true → s.peerId e = f.sender → (s.judgeHeard f e).line.link[e] = true) := by
  have refl : s.LinksUp s f.sender := ⟨rfl, rfl, rfl, fun _ _ => rfl, fun _ => id⟩
  unfold State.judgeHeard State.endConfigured
  by_cases mine : s.cfg.ends[e].configured = true ∧ s.peerId e = f.sender
  · rw [if_pos (by simpa using mine)]
    have peerHeard : s.peerHeard e = true := by
      unfold State.peerHeard
      simp only [mine.2]
      exact heard
    unfold State.judgeLink
    rw [peerHeard]
    by_cases up : true = s.line.link[e]
    · rw [if_pos up]
      exact ⟨refl, fun _ _ => up.symm⟩
    · rw [if_neg up]
      have line : (s.setLink e true f.kind.code).line = { s.line with link := s.line.link.set e true } := linkRecord_line ..
      refine ⟨⟨cfg_of_base (setLink_base ..), linkRecord_blocks .., by rw [if_pos rfl, line], fun e' he => ?_, fun e' he => ?_⟩,
        fun _ _ => ?_⟩
      · rw [if_pos rfl, line]
        exact slot_set_ne _ _ fun same => he (same ▸ mine.2)
      · rw [if_pos rfl, line]
        by_cases same : e = e'
        · exact same ▸ slot_set_self ..
        · exact (slot_set_ne _ _ same).trans he
      · rw [if_pos rfl, line]
        exact slot_set_self ..
  · rw [if_neg (by simpa using mine)]
    exact ⟨refl, fun configured peer => absurd ⟨configured, peer⟩ mine⟩

theorem foldl_judgeHeard (l : List EndNo) {s : State} {f : RxFrame} (heard : s.line.heard[identityIndex f.sender].running = true) :
    s.LinksUp (l.foldl (State.judgeHeard · f ·) s) f.sender ∧ ∀ e ∈ l, s.cfg.ends[e].configured = true → s.peerId e = f.sender →
      (l.foldl (State.judgeHeard · f ·) s).line.link[e] = true := by
  induction l generalizing s with
  | nil => exact ⟨⟨rfl, rfl, rfl, fun _ _ => rfl, fun _ => id⟩, fun e he => absurd he (by simp)⟩
  | cons a l ih =>
    obtain ⟨step, judged⟩ := judgeHeard_linksUp heard a
    obtain ⟨rest, later⟩ := ih (s := s.judgeHeard f a) (by rwa [step.heard])
    rw [List.foldl_cons]
    refine ⟨step.trans rest, fun e he configured peer => ?_⟩
    rcases List.mem_cons.mp he with rfl | he
    · exact rest.up e (judged configured peer)
    · exact later e he (by rwa [step.cfg]) (by rwa [step.peerId])

theorem mem_ends (e : EndNo) : e ∈ ends := List.mem_finRange e

theorem hear_links (s : State) (f : RxFrame) :
    (∀ e : EndNo, s.cfg.ends[e].configured = true → s.peerId e = f.sender → (s.hear f).line.link[e] = true) ∧
    (∀ e : EndNo, s.peerId e ≠ f.sender → (s.hear f).line.link[e] = s.line.link[e]) := by
  obtain ⟨u, hu⟩ : ∃ u, u = s.modLine fun l => { l with
    heard := l.heard.set (identityIndex f.sender) { last := some s.now, running := true } } := ⟨_, rfl⟩
  have heard : u.line.heard[identityIndex f.sender].running = true := by
    rw [hu, State.modLine_line, slot_set_self]
  obtain ⟨ups, up⟩ := foldl_judgeHeard ends heard
  rw [← show s.hear f = ends.foldl (State.judgeHeard · f ·) u by rw [hu]; rfl] at ups up
  subst hu
  exact ⟨fun e => up e (mem_ends e), ups.others⟩

/-! ### The end a frame maps to (R105) -/

/-- The one end for which something holds is the one that is found. -/
theorem ends_find_unique {p : EndNo → Bool} {e : EndNo} (h : p e = true) (unique : ∀ e', p e' = true → e' = e) : ends.find? p = some e := by
  cases found : ends.find? p with
  | none => exact absurd h (List.find?_eq_none.mp found e (mem_ends e))
  | some e' => rw [unique e' (List.find?_some found)]

theorem mappedEnd_iff (s : State) (f : RxFrame) (e : EndNo) :
    (s.endConfigured e && decide (s.peerId e = f.sender) && decide (s.peerEnd e = f.senderEnd)) = true ↔
      s.cfg.ends[e].configured = true ∧ s.peerId e = f.sender ∧ s.peerEnd e = f.senderEnd := by
  simp only [State.endConfigured, Bool.and_eq_true, decide_eq_true_eq, and_assoc]

theorem mappedEnd_some {s : State} {f : RxFrame} {e : EndNo} (h : s.mappedEnd f = some e) :
    s.cfg.ends[e].configured = true ∧ s.peerId e = f.sender ∧ s.peerEnd e = f.senderEnd := by
  have found := List.find?_some h
  exact (mappedEnd_iff s f e).mp found

theorem addressed_iff (s : State) (f : RxFrame) : s.addressed f = true ↔ f.dest = s.cfg.identity ∨ f.dest = 0 := by
  simp only [State.addressed, Bool.or_eq_true, decide_eq_true_eq]

theorem deliverMapped_cases (s : State) (f : RxFrame) :
    ((s.deliverMapped f).2 = true → (f.dest = s.cfg.identity ∨ f.dest = 0) ∧
      ∃ e : EndNo, s.cfg.ends[e].configured = true ∧ s.peerId e = f.sender ∧ s.peerEnd e = f.senderEnd ∧
        (s.deliverMapped f).1 = s.deliver e f) ∧
    ((s.deliverMapped f).2 = false → (s.deliverMapped f).1 = s) := by
  unfold State.deliverMapped
  split
  · rename_i e he
    obtain ⟨configured, peer, peerEnd⟩ := mappedEnd_some he
    by_cases addressed : s.addressed f = true
    · rw [if_pos addressed]
      exact ⟨fun _ => ⟨(addressed_iff s f).mp addressed, e, configured, peer, peerEnd, rfl⟩, fun h => (by cases h)⟩
    · rw [if_neg addressed]
      exact ⟨fun h => (by cases h), fun _ => rfl⟩
  · exact ⟨fun h => (by cases h), fun _ => rfl⟩

/-! ### STATUS frames overheard: the far box in DIRECT pairing (R171) -/

theorem direct_iff (x : StatusFields) : x.direct = true ↔ x.long = false ∧ x.state ≠ 8 := by
  simp only [StatusFields.direct, Bool.and_eq_true, Bool.not_eq_true', decide_eq_true_eq]
  rfl

theorem fromFarBox_iff (s : State) (e : EndNo) (f : RxFrame) : s.fromFarBox e f = true ↔
    s.cfg.ends[e].configured = true ∧ s.blocks[e].long = true ∧ s.cfg.ends[e].altId = f.sender ∧
      s.cfg.ends[e].altEnd = f.senderEnd ∧ s.cfg.ends[e].directId = f.dest := by
  simp only [State.fromFarBox, State.endConfigured, Bool.and_eq_true, decide_eq_true_eq, and_assoc]

/-- A reversion is an order to DIRECT pairing after its record. -/
theorem revertFarDirect_some {s : State} {f : RxFrame} (direct : (statusFields f.payload).direct = true) (free : s.switching.hold = none)
    {e : EndNo} (found : ends.find? (fun e => s.fromFarBox e f) = some e) :
    ∃ v, s.Orders (fun _ => False) v ∧ v.blocks = s.blocks ∧ s.revertFarDirect f = v.orderPairing e false := by
  obtain ⟨k, hk⟩ : ∃ k : State, k = { s with freeCount := s.freeCount + 1 } := ⟨_, rfl⟩
  have counted : s.Orders (fun _ => False) k := by
    rw [hk]
    exact .of_eq rfl rfl rfl (fun _ => id) rfl rfl rfl ⟨[], recorded_refl rfl⟩
  refine ⟨k.switchRecord (.one e f.sender) (directionBit (Config.farDirectDirection s.freeCount)) .reverted none (some .farDirect),
    counted.trans (switchRecord_orders ..), ?_, ?_⟩
  · rw [switchRecord_blocks, hk]
  · unfold State.revertFarDirect
    rw [if_pos (by rw [direct, free]; rfl), found, hk]

theorem revertFarDirect_none {s : State} {f : RxFrame}
    (h : ¬((statusFields f.payload).direct = true ∧ s.switching.hold = none ∧ ∃ e, s.fromFarBox e f = true)) : s.revertFarDirect f = s := by
  unfold State.revertFarDirect
  split
  · rename_i may
    obtain ⟨direct, free⟩ := (Bool.and_eq_true ..).mp may
    split
    · rename_i e he
      exact absurd ⟨direct, Option.isNone_iff_eq_none.mp free, e, List.find?_some (p := fun e => s.fromFarBox e f) he⟩ h
    · rfl
  · rfl

theorem revertFarDirect_orders (s : State) (f : RxFrame) : s.Orders (fun _ => True) (s.revertFarDirect f) := by
  by_cases h : (statusFields f.payload).direct = true ∧ s.switching.hold = none ∧ ∃ e, s.fromFarBox e f = true
  · obtain ⟨direct, free, e, he⟩ := h
    cases found : ends.find? fun e => s.fromFarBox e f with
    | none => exact absurd he (List.find?_eq_none.mp found e (mem_ends e))
    | some e =>
      obtain ⟨v, before, -, reverted⟩ := revertFarDirect_some direct free found
      rw [reverted]
      exact (before.mono fun _ _ => trivial).trans ((orderPairing_pairedTo v e false).orders.mono fun _ _ => trivial)
  · rw [revertFarDirect_none h]
    exact .refl s

/-! ### STATUS frames overheard: across the part (R172, R175) -/

theorem acrossPart_iff (s : State) (a b : EndNo) (f : RxFrame) : s.acrossPart a b f = true ↔
    s.cfg.switchable = true ∧ (s.cfg.ends[a].configured = true ∧ s.cfg.ends[a].directId = f.sender ∧ s.cfg.ends[a].directEnd = f.senderEnd) ∧
      f.dest = s.cfg.ends[b].directId := by
  simp only [State.acrossPart, State.isDirectPeer, State.endConfigured, Bool.and_eq_true, decide_eq_true_eq, and_assoc]

theorem isDirectPeer_iff (s : State) (e : EndNo) (f : RxFrame) : s.isDirectPeer e f.sender f.senderEnd = true ↔
    s.cfg.ends[e].configured = true ∧ s.cfg.ends[e].directId = f.sender ∧ s.cfg.ends[e].directEnd = f.senderEnd := by
  simp only [State.isDirectPeer, State.endConfigured, Bool.and_eq_true, decide_eq_true_eq, and_assoc]

/-- The overheard record with a STATUS taken. -/
def State.withOverheard (s : State) (f : RxFrame) (w : Switching) : Switching :=
  { w with
    overheard1 := if s.acrossPart s.first s.second f then some (s.overheardEntry f.payload) else w.overheard1
    overheard2 := if s.acrossPart s.second s.first f then some (s.overheardEntry f.payload) else w.overheard2 }

theorem recordOverheard_eq (s : State) (f : RxFrame) : s.recordOverheard f = s.modSwitching (s.withOverheard f) := by
  unfold State.recordOverheard State.withOverheard
  dsimp only
  split <;> split <;> rfl

/-- A delivered STATUS in DIRECT pairing of a designated end's direct peer (R172). -/
def State.resumedBy (s : State) (f : RxFrame) (delivered : Bool) : Prop :=
  delivered = true ∧ (statusFields f.payload).direct = true ∧
    (s.isDirectPeer s.first f.sender f.senderEnd = true ∨ s.isDirectPeer s.second f.sender f.senderEnd = true)

theorem overhearOut_resumes {s : State} {f : RxFrame} {delivered : Bool} (h : s.resumedBy f delivered) :
    ∃ k, s.overhearOut f delivered = s.returnIn .resumed k := by
  obtain ⟨taken, direct, facing⟩ := h
  unfold State.overhearOut
  split
  · rename_i e _
    rw [if_pos (by rw [taken, direct]; rfl)]
    exact ⟨_, rfl⟩
  · rename_i none
    have := List.find?_eq_none.mp none
    rcases facing with facing | facing
    · exact absurd facing (this s.first (by simp))
    · exact absurd facing (this s.second (by simp))

theorem overhearOut_records {s : State} {f : RxFrame} {delivered : Bool} (h : ¬s.resumedBy f delivered) :
    s.overhearOut f delivered = s.recordOverheard f := by
  unfold State.overhearOut
  split
  · rename_i e he
    refine if_neg fun may => h ?_
    obtain ⟨taken, direct⟩ := (Bool.and_eq_true ..).mp may
    refine ⟨taken, direct, ?_⟩
    have facing := List.find?_some he
    rcases List.mem_cons.mp (List.mem_of_find?_eq_some he) with rfl | mem
    · exact .inl facing
    · exact .inr (List.mem_singleton.mp mem ▸ facing)
  · rfl

theorem overhearAtStart_enters {s : State} {f : RxFrame} (watch : s.switching.startWatch = true) (long : (statusFields f.payload).long = true)
    (across : s.acrossPart s.first s.second f = true ∨ s.acrossPart s.second s.first f = true) :
    ∃ k, s.overhearAtStart f = s.enterOut .outAtStart k := by
  unfold State.overhearAtStart
  rw [if_pos (by rw [watch, long]; rfl)]
  by_cases first : s.acrossPart s.first s.second f = true
  · rw [if_pos first]
    exact ⟨_, rfl⟩
  · rw [if_neg first, if_pos (across.resolve_left first)]
    exact ⟨_, rfl⟩

theorem overhearAtStart_stays {s : State} {f : RxFrame} (h : ¬(s.switching.startWatch = true ∧ (statusFields f.payload).long = true ∧
    (s.acrossPart s.first s.second f = true ∨ s.acrossPart s.second s.first f = true))) : s.overhearAtStart f = s := by
  unfold State.overhearAtStart
  split
  · rename_i may
    obtain ⟨watch, long⟩ := (Bool.and_eq_true ..).mp may
    rw [if_neg fun first => h ⟨watch, long, .inl first⟩, if_neg fun second => h ⟨watch, long, .inr second⟩]
  · rfl

/-- What follows a reversion in the same event: a change of the controller's own data, and orders into a state (R172, R175). -/
theorem statusOverheard_rest (s : State) (f : RxFrame) (delivered : Bool) : ∃ g : Switching → Switching,
    ((s.revertFarDirect f).modSwitching g).Orders (fun _ => True) (s.statusOverheard f delivered) ∧
    ∀ {P : BlockEnd → Prop}, (∀ b st, P b → P (b.orderedTo st)) → ∀ e : EndNo, P (s.revertFarDirect f).blocks[e] →
      P (s.statusOverheard f delivered).blocks[e] := by
  obtain ⟨r, hr⟩ : ∃ r, r = s.revertFarDirect f := ⟨_, rfl⟩
  rw [← hr]
  have own (g : Switching → Switching) (t : State) (ht : t = r.modSwitching g) : ∃ g : Switching → Switching,
      (r.modSwitching g).Orders (fun _ => True) t ∧ ∀ {P : BlockEnd → Prop}, (∀ b st, P b → P (b.orderedTo st)) →
        ∀ e : EndNo, P r.blocks[e] → P t.blocks[e] := by
    rw [ht]
    exact ⟨g, .refl _, fun _ _ h => h⟩
  have ordered {g : Switching → Switching} {t : State} {st : BlockState} (h : (r.modSwitching g).Ordered t st) :
      ∃ g : Switching → Switching, (r.modSwitching g).Orders (fun _ => True) t ∧ ∀ {P : BlockEnd → Prop},
        (∀ b st, P b → P (b.orderedTo st)) → ∀ e : EndNo, P r.blocks[e] → P t.blocks[e] :=
    ⟨g, h.orders.mono fun _ _ => trivial, fun keep e he => h.keeps (fun b => keep b st) e he⟩
  unfold State.statusOverheard
  rw [← hr]
  dsimp only
  split
  · split
    · by_cases enters : r.switching.startWatch = true ∧ (statusFields f.payload).long = true ∧
          (r.acrossPart r.first r.second f = true ∨ r.acrossPart r.second r.first f = true)
      · obtain ⟨watch, long, across⟩ := enters
        obtain ⟨k, entered⟩ := overhearAtStart_enters watch long across
        exact ordered (entered ▸ enterOut_ordered r .outAtStart k)
      · exact own id _ (overhearAtStart_stays enters)
    · exact own id _ rfl
    · by_cases resumes : r.resumedBy f delivered
      · obtain ⟨k, returned⟩ := overhearOut_resumes resumes
        exact ordered (returned ▸ returnIn_ordered r .resumed k)
      · exact own _ _ ((overhearOut_records resumes).trans (recordOverheard_eq r f))
    · exact own _ _ (recordOverheard_eq r f)
  · exact own id _ rfl

/-! ### The cases of a STATUS overheard -/

section
variable {s : State} {f : RxFrame} {delivered : Bool}

theorem overhear_status (h : f.kind = .status) : s.overhear f delivered = s.statusOverheard f delivered := by
  unfold State.overhear
  rw [h]

theorem statusOverheard_plain (h : s.cfg.switchable = false) : s.statusOverheard f delivered = s.revertFarDirect f := by
  unfold State.statusOverheard
  dsimp only
  rw [if_neg (by rw [(revertFarDirect_orders s f).cfg, h]; decide)]

/-- What the controller does with a STATUS in each of its states. -/
def State.overheardIn (r : State) (st : SwitchState) (f : RxFrame) (delivered : Bool) : State :=
  match st with
  | .inUse => r.overhearAtStart f
  | .proposingOut => r
  | .out => r.overhearOut f delivered
  | .proposingIn => r.recordOverheard f

theorem statusOverheard_switchable (h : s.cfg.switchable = true) :
    s.statusOverheard f delivered = (s.revertFarDirect f).overheardIn s.switching.state f delivered := by
  have before := revertFarDirect_orders s f
  unfold State.statusOverheard
  dsimp only
  rw [if_pos (by rw [before.cfg, h]), ← before.switching.state]
  rfl

/-- The far box in DIRECT pairing brings its end to DIRECT, whatever follows in the event (R171). -/
theorem statusOverheard_reverts (direct : (statusFields f.payload).direct = true) (free : s.switching.hold = none) {e : EndNo}
    (far : s.fromFarBox e f = true) (unique : ∀ e', s.fromFarBox e' f = true → e' = e) :
    let t := s.statusOverheard f delivered
    t.blocks[e].long = false ∧ t.blocks[e].mismatch = false ∧ t.blocks[e].outstanding = none ∧ t.bells[e].playout = [] ∧
      t.statusPromised e ∧ s.rePaired t e ∧ (s.cfg.switchable = false → t.blocks[e].state = s.blocks[e].state) := by
  obtain ⟨v, before, blocks, reverted⟩ := revertFarDirect_some direct free (ends_find_unique far unique)
  have paired : v.PairedTo (s.revertFarDirect f) e false := reverted ▸ orderPairing_pairedTo v e false
  obtain ⟨g, rest, keeps⟩ := statusOverheard_rest s f delivered
  obtain ⟨long, mismatch, outstanding⟩ := keeps (P := fun b => b.long = false ∧ b.mismatch = false ∧ b.outstanding = none)
    (fun b st ⟨hl, hm, ho⟩ =>
      have ⟨long, outstanding, mismatch⟩ := orderedTo_paired b st
      ⟨long.trans hl, mismatch hm, outstanding.trans ho⟩) e ⟨paired.long, paired.mismatch, paired.outstanding⟩
  have later : (s.revertFarDirect f).Repairs (s.statusOverheard f delivered) := (modSwitching_repairs _ g).trans rest.toRepairs
  refine ⟨long, mismatch, outstanding, rest.playout e paired.playout, rest.promised e paired.promised,
    (before.toRepairs.trans paired.orders.toRepairs).rePaired later (.inl (before.toRepairs.rePaired paired.orders.toRepairs (.inr paired.rePaired))),
    fun plain => ?_⟩
  rw [statusOverheard_plain plain, paired.state, blocks]

theorem isDirectPeer_congr {t : State} (h : t.cfg = s.cfg) (e : EndNo) (id e' : Nat) : t.isDirectPeer e id e' = s.isDirectPeer e id e' := by
  simp only [State.isDirectPeer, State.endConfigured, h]

theorem acrossPart_congr {t : State} (h : t.cfg = s.cfg) (a b : EndNo) : t.acrossPart a b f = s.acrossPart a b f := by
  simp only [State.acrossPart, isDirectPeer_congr h, h]

theorem resumedBy_congr {t : State} (h : t.cfg = s.cfg) : t.resumedBy f delivered ↔ s.resumedBy f delivered := by
  unfold State.resumedBy
  rw [isDirectPeer_congr h, isDirectPeer_congr h, show t.first = s.first by simp only [State.first, h],
    show t.second = s.second by simp only [State.second, h]]

/-- A STATUS that resumes the part's working in OUT (R172). -/
theorem statusOverheard_resumes (switchable : s.cfg.switchable = true) (out : s.switching.state = .out) (h : s.resumedBy f delivered) :
    let t := s.statusOverheard f delivered
    t.switching.state = .inUse ∧ t.loader.partState = .running ∧
      ∀ e, s.isDesignated e → t.blocks[e].state = .normal ∧ t.blocks[e].release = .none ∧ s.rePaired t e := by
  have before := revertFarDirect_orders s f
  obtain ⟨k, returned⟩ := overhearOut_resumes ((resumedBy_congr before.cfg).mpr h)
  have whole : s.statusOverheard f delivered = (s.revertFarDirect f).returnIn .resumed k := by
    rw [statusOverheard_switchable switchable, out]
    exact returned
  have ordered := returnIn_ordered (s.revertFarDirect f) .resumed k
  have designated (e : EndNo) (he : s.isDesignated e) : (s.revertFarDirect f).isDesignated e := by
    unfold State.isDesignated
    rwa [before.first, before.second]
  rw [whole]
  refine ⟨ordered.orders.switching.state, by rw [returnIn_loader], fun e he => ?_⟩
  obtain ⟨state, release⟩ := ordered.block e (designated e he)
  have later := (modSwitching_repairs (s.revertFarDirect f) Switching.returningIn).trans ordered.orders.toRepairs
  exact ⟨state, release, before.rePaired later (.inr (ordered.rePaired e (designated e he)))⟩

/-- A STATUS that is no more than an overheard entry, in OUT and PROPOSING_IN (R172). -/
theorem statusOverheard_entered (h : (s.switching.state = .out ∧ ¬(s.cfg.switchable = true ∧ s.resumedBy f delivered)) ∨
      s.switching.state = .proposingIn) :
    let t := s.statusOverheard f delivered
    t.switching.state = s.switching.state ∧ t.loader = s.loader ∧
      t.switching.overheard1 =
        (if s.acrossPart s.first s.second f then some (s.overheardEntry f.payload) else s.switching.overheard1) ∧
      t.switching.overheard2 =
        (if s.acrossPart s.second s.first f then some (s.overheardEntry f.payload) else s.switching.overheard2) := by
  have before := revertFarDirect_orders s f
  have base : (s.revertFarDirect f).base = s.base := by simp
  obtain ⟨-, -, loader, -⟩ := State.base_eq base
  have entry : (s.revertFarDirect f).overheardEntry f.payload = s.overheardEntry f.payload := by
    simp only [State.overheardEntry, before.now]
  have heard1 : (s.revertFarDirect f).switching.overheard1 = s.switching.overheard1 := by rw [before.switching.rest]
  have heard2 : (s.revertFarDirect f).switching.overheard2 = s.switching.overheard2 := by rw [before.switching.rest]
  cases switchable : s.cfg.switchable with
  | false =>
    have apart (a b : EndNo) : s.acrossPart a b f = false := by simp [State.acrossPart, switchable]
    rw [statusOverheard_plain switchable, apart, apart]
    exact ⟨before.switching.state, loader, heard1, heard2⟩
  | true =>
    have recorded : s.statusOverheard f delivered = (s.revertFarDirect f).recordOverheard f := by
      rw [statusOverheard_switchable switchable]
      rcases h with ⟨out, resumes⟩ | proposing
      · rw [out]
        exact overhearOut_records fun h => resumes ⟨switchable, (resumedBy_congr before.cfg).mp h⟩
      · rw [proposing]
        rfl
    rw [recorded, recordOverheard_eq]
    dsimp only [State.modSwitching_switching]
    unfold State.withOverheard
    rw [acrossPart_congr before.cfg, acrossPart_congr before.cfg, entry, heard1, heard2, before.first, before.second]
    exact ⟨before.switching.state, loader, rfl, rfl⟩

/-- A STATUS in LONG pairing across the part, while the start watch is set in IN (R175). -/
theorem statusOverheard_outAtStart (inUse : s.switching.state = .inUse) (watch : s.switching.startWatch = true)
    (long : (statusFields f.payload).long = true)
    (across : s.acrossPart s.first s.second f = true ∨ s.acrossPart s.second s.first f = true) :
    ∃ k, s.statusOverheard f delivered = s.enterOut .outAtStart k := by
  have reverted : s.revertFarDirect f = s := revertFarDirect_none fun ⟨direct, _⟩ => by
    cases ((direct_iff _).mp direct).1.symm.trans long
  have switchable : s.cfg.switchable = true := by
    rcases across with h | h
    · exact ((acrossPart_iff ..).mp h).1
    · exact ((acrossPart_iff ..).mp h).1
  obtain ⟨k, entered⟩ := overhearAtStart_enters watch long across
  refine ⟨k, ?_⟩
  rw [statusOverheard_switchable switchable, inUse, reverted]
  exact entered

/-- A STATUS that does nothing. -/
theorem statusOverheard_stays
    (reverts : ¬((statusFields f.payload).direct = true ∧ s.switching.hold = none ∧ ∃ e, s.fromFarBox e f = true))
    (h : s.cfg.switchable = false ∨ s.switching.state = .proposingOut ∨ (s.switching.state = .inUse ∧
      ¬(s.switching.startWatch = true ∧ (statusFields f.payload).long = true ∧
        (s.acrossPart s.first s.second f = true ∨ s.acrossPart s.second s.first f = true)))) :
    s.statusOverheard f delivered = s := by
  have same := revertFarDirect_none reverts
  cases switchable : s.cfg.switchable with
  | false => rw [statusOverheard_plain switchable, same]
  | true =>
    rw [statusOverheard_switchable switchable, same]
    rcases h with plain | proposing | ⟨inUse, stays⟩
    · cases switchable.symm.trans plain
    · rw [proposing]
      rfl
    · rw [inUse]
      exact overhearAtStart_stays stays

end

/-- Settles O39: the links of the sender's ends one after the other, the one end that a frame maps to, and a STATUS overheard case by case. -/
theorem takenFrameBringsTheLinkUp : Obligations.TakenFrameBringsTheLinkUp := by
  unfold Obligations.TakenFrameBringsTheLinkUp
  intro s f
  obtain ⟨up, others⟩ := hear_links s f
  obtain ⟨delivered, undelivered⟩ := deliverMapped_cases s f
  refine ⟨up, others, delivered, undelivered, fun e addressed configured peer peerEnd unique => ?_, fun status delivered => ?_⟩
  · have mapped : s.mappedEnd f = some e := ends_find_unique ((mappedEnd_iff s f e).mpr ⟨configured, peer, peerEnd⟩) fun e' he' =>
      have ⟨configured, peer, peerEnd⟩ := (mappedEnd_iff s f e').mp he'
      unique e' configured peer peerEnd
    unfold State.deliverMapped
    rw [mapped]
    exact if_pos ((addressed_iff s f).mpr addressed)
  · rw [overhear_status status]
    dsimp only
    have designated (e : EndNo) (he : e ∈ [s.first, s.second]) : s.isDesignated e := by simpa [State.isDesignated] using he
    have resumption : (s.cfg.switchable = true ∧ delivered = true ∧
        ((statusFields f.payload).long = false ∧ (statusFields f.payload).state ≠ 8) ∧
        ((s.cfg.ends[s.first].configured = true ∧ s.cfg.ends[s.first].directId = f.sender ∧ s.cfg.ends[s.first].directEnd = f.senderEnd) ∨
          (s.cfg.ends[s.second].configured = true ∧ s.cfg.ends[s.second].directId = f.sender ∧
            s.cfg.ends[s.second].directEnd = f.senderEnd))) ↔ s.cfg.switchable = true ∧ s.resumedBy f delivered := by
      unfold State.resumedBy
      rw [direct_iff, isDirectPeer_iff, isDirectPeer_iff]
    refine ⟨fun e direct free far unique => ?_, fun out resumes => ?_, fun h => ?_, fun inUse watch long across => ?_, fun reverts h => ?_⟩
    · exact statusOverheard_reverts ((direct_iff _).mpr direct) free ((fromFarBox_iff ..).mpr far) fun e' he' =>
        unique e' ((fromFarBox_iff ..).mp he')
    · obtain ⟨switchable, resumed⟩ := resumption.mp resumes
      obtain ⟨state, running, ends⟩ := statusOverheard_resumes switchable out resumed
      exact ⟨state, running, fun e he => ends e (designated e he)⟩
    · rw [resumption] at h
      obtain ⟨state, loader, heard1, heard2⟩ := statusOverheard_entered h
      refine ⟨state, loader, fun across => ?_, fun across => ?_, fun across => ?_, fun across => ?_⟩
      · exact heard1.trans (if_pos ((acrossPart_iff ..).mpr across))
      · exact heard1.trans (if_neg fun h => across ((acrossPart_iff ..).mp h))
      · exact heard2.trans (if_pos ((acrossPart_iff ..).mpr across))
      · exact heard2.trans (if_neg fun h => across ((acrossPart_iff ..).mp h))
    · obtain ⟨k, entered⟩ := statusOverheard_outAtStart (delivered := delivered) inUse watch long
        (across.imp (acrossPart_iff ..).mpr (acrossPart_iff ..).mpr)
      have ordered := enterOut_ordered s .outAtStart k
      have kept := ordered.orders.switching
      rw [entered]
      refine ⟨kept.state, kept.watch.elim (fun h => h) And.right, by rw [kept.rest]; rfl, by rw [kept.rest]; rfl, enterOut_loader ..,
        enterOut_outputs s .outAtStart k, fun e he => ?_⟩
      obtain ⟨state, release⟩ := ordered.block e (designated e he)
      exact ⟨state, release, ordered.rePaired e (designated e he)⟩
    · refine statusOverheard_stays (fun ⟨direct, free, e, far⟩ => reverts ⟨(direct_iff _).mp direct, free, e, (fromFarBox_iff ..).mp far⟩) ?_
      rwa [acrossPart_iff, acrossPart_iff]

end Sys2Proof.Machine
end

section
/-! PROOFS. The judgement of a standing proposal and its abandonment (R165, R170, R175). -/

namespace Sys2Proof.Machine

/-! ### The standing conditions (R165) -/

/-- The standing conditions depend on the configuration, the ends, the sections and the evaluator alone. -/
theorem standingConditions_congr {s t : State} (hc : t.cfg = s.cfg) (hb : t.blocks = s.blocks) (hs : t.sects = s.sects)
    (he : t.evaluator = s.evaluator) : t.standingConditions = s.standingConditions := by
  have first : t.first = s.first := by simp only [State.first, hc]
  have second : t.second = s.second := by simp only [State.second, hc]
  have concern (a b : Bool) : t.concern a b = s.concern a b := by simp only [State.concern, first, second, hc]
  have designated (r : SwitchReason) (bad bad' : EndNo → Bool) (h : bad = bad') : t.designatedCheck r bad = s.designatedCheck r bad' := by
    simp only [State.designatedCheck, h, first, second, concern]
  have endSectState (e : EndNo) : t.endSectState e = s.endSectState e := by
    have sectOf : t.sectOf e = s.sectOf e := by simp only [State.sectOf, hc]
    unfold State.endSectState
    rw [sectOf]
    split
    · exact sectState_congr hc (by rw [hs])
    · rfl
  have normal : t.checkNormal = s.checkNormal := designated _ _ _ (by simp only [hb])
  have counts : t.checkCounts = s.checkCounts :=
    designated _ _ _ (funext fun e => by rw [endSectState])
  have endObstructed : t.endObstructed = s.endObstructed := by
    funext e
    simp only [State.endObstructed, State.endConfigured, hc, hb]
  have obstructed : t.checkObstructed = s.checkObstructed := by
    simp only [State.checkObstructed, endObstructed, first, second, hc]
  have alternative : t.checkAlternative = s.checkAlternative := by simp only [State.checkAlternative, hc, he]
  simp only [State.standingConditions, normal, counts, obstructed, alternative]

/-- A proposal out stands, and where a failure of the conditions has been noted it is that of the conditions as they are. -/
def State.judgedFairly (s : State) : Prop :=
  s.switching.state = .proposingOut ∧ (s.switching.failing = none ∨ s.switching.failing = s.standingConditions)

theorem judgedFairly_congr {s t : State} (hw : t.switching = s.switching) (hc : t.cfg = s.cfg) (hb : t.blocks = s.blocks) (hs : t.sects = s.sects)
    (he : t.evaluator = s.evaluator) (h : s.judgedFairly) : t.judgedFairly := by
  unfold State.judgedFairly
  rw [hw, standingConditions_congr hc hb hs he]
  exact h

theorem judgeProposal_standingConditions (s : State) : s.judgeProposal.standingConditions = s.standingConditions :=
  standingConditions_congr (cfg_of_base (judgeProposal_base s)) (by simp) (by simp) (by simp)

/-- A judgement notes the failure, if there is one. -/
theorem judgeProposal_failing {s : State} (h : s.judgedFairly) :
    s.judgeProposal.switching.failing = s.judgeProposal.standingConditions ∧ s.judgeProposal.switching.state = .proposingOut := by
  obtain ⟨proposing, noted⟩ := h
  rw [judgeProposal_standingConditions, judgeProposal_eq, State.modSwitching_switching]
  by_cases unjudged : s.switching.failing = none
  · rw [if_pos ⟨proposing, unjudged⟩]
    exact ⟨rfl, proposing⟩
  · rw [if_neg fun h => unjudged h.2]
    exact ⟨noted.resolve_left unjudged, proposing⟩

theorem judgeProposal_judgedFairly {s : State} (h : s.judgedFairly) : s.judgeProposal.judgedFairly :=
  have ⟨noted, proposing⟩ := judgeProposal_failing h
  ⟨proposing, .inr noted⟩

theorem judgedFairly_of_quiet {s : State} (proposing : s.switching.state = .proposingOut) (hq : s.quiet) : s.judgedFairly :=
  ⟨proposing, .inl hq⟩

theorem evaluate_judgedFairly {s : State} (proposing : s.switching.state = .proposingOut) (hq : s.quiet) (f : Evaluator → Evaluator) :
    (s.evaluate f).judgedFairly := by
  unfold State.evaluate
  dsimp only
  split
  · exact ⟨proposing, .inl hq⟩
  · exact judgeProposal_judgedFairly ⟨proposing, .inl hq⟩

/-- A change of the alternative's decision brings a judgement. -/
theorem evaluate_failing {s : State} (proposing : s.switching.state = .proposingOut) (hq : s.quiet) {f : Evaluator → Evaluator}
    (h : (s.evaluate f).evaluator.altDecision ≠ s.evaluator.altDecision) :
    (s.evaluate f).switching.failing = (s.evaluate f).standingConditions := by
  unfold State.evaluate at h ⊢
  dsimp only at h ⊢
  split at h
  · rename_i same
    exact absurd same h
  · rename_i changed
    rw [if_neg changed]
    exact (judgeProposal_failing (s := s.modEvaluator fun v => (f v).judgeEntries s.cfg) (judgedFairly_of_quiet proposing hq)).1

/-! ### A change of an end, as the controller hears of it (R139, R165, R175) -/

/-- The reports of an end's change before the switching controller's. -/
def State.reportedTo (s : State) (e : EndNo) (old : BlockState) (cause : Cause) : State :=
  let s1 := ((s.blockRecord e old cause 0).reportBlock e).raiseStatus e
  if old = .normal then s1.clearOffer e else s1

theorem changeEnd_moved {s : State} {e : EndNo} {st : BlockState} (h : s.blocks[e].state ≠ st) (rel : Release) (cause : Cause) :
    s.changeEnd e st rel cause =
      ((s.modBlock e (·.moved st rel)).reportedTo e s.blocks[e].state cause).reportStateToSwitching e := by
  unfold State.changeEnd State.reportEndChange
  rw [if_neg fun same => h same.1]
  dsimp only
  rw [if_neg (by rw [State.modBlock_blocks, upd_self, BlockEnd.moved_state]; exact Ne.symm h)]
  rfl

/-- The start watch once an end's state has been reported (R175). -/
def State.watching (s : State) : State :=
  if s.blocks[s.first].state ≠ .recovering ∧ s.blocks[s.second].state ≠ .recovering then s.modSwitching fun w => { w with startWatch := false }
  else s

theorem reportStateToSwitching_eq (s : State) (e : EndNo) : s.reportStateToSwitching e =
    if s.watching.designated e || decide (s.watching.blocks[e].state = .obstructed) then s.watching.judgeProposal else s.watching := rfl

theorem watching_cases (s : State) : s.watching = s ∨ s.watching = s.modSwitching fun w => { w with startWatch := false } := by
  unfold State.watching
  split
  · exact .inr rfl
  · exact .inl rfl

theorem watching_judgedFairly {s : State} (h : s.judgedFairly) : s.watching.judgedFairly := by
  rcases watching_cases s with same | cleared
  · rwa [same]
  · rw [cleared]
    exact ⟨h.1, h.2⟩

theorem watching_blocks (s : State) : s.watching.blocks = s.blocks := by
  rcases watching_cases s with same | cleared
  · rw [same]
  · rw [cleared]
    rfl

theorem watching_cfg (s : State) : s.watching.cfg = s.cfg := by
  rcases watching_cases s with same | cleared
  · rw [same]
  · rw [cleared]
    rfl

section
variable {s : State} {e : EndNo} (old : BlockState) (cause : Cause)

theorem reportedTo_blocks : (s.reportedTo e old cause).blocks = s.blocks := by
  unfold State.reportedTo
  dsimp only
  split <;> simp

theorem reportedTo_base : (s.reportedTo e old cause).base = s.base := by
  unfold State.reportedTo
  dsimp only
  split <;> simp

theorem reportedTo_judgedFairly (proposing : s.switching.state = .proposingOut) (hq : s.quiet) : (s.reportedTo e old cause).judgedFairly := by
  have recorded : (s.blockRecord e old cause 0).switching = s.switching := blockRecord_switching ..
  have judged : ((s.blockRecord e old cause 0).reportBlock e).judgedFairly :=
    evaluate_judgedFairly (by rw [recorded, proposing]) (by unfold State.quiet; rw [recorded]; exact hq) _
  have raised : (((s.blockRecord e old cause 0).reportBlock e).raiseStatus e).judgedFairly :=
    judgedFairly_congr (by simp) (cfg_of_base (by simp)) (by simp) (by simp) (by simp) judged
  unfold State.reportedTo
  dsimp only
  split
  · exact judgedFairly_congr (by simp) (cfg_of_base (by simp)) (by simp) (by simp) (by simp) raised
  · exact raised

theorem judgeProposal_startWatch (s : State) : s.judgeProposal.switching.startWatch = s.switching.startWatch := by
  rw [judgeProposal_eq, State.modSwitching_switching]
  split <;> rfl

theorem evaluate_startWatch (s : State) (f : Evaluator → Evaluator) : (s.evaluate f).switching.startWatch = s.switching.startWatch := by
  unfold State.evaluate
  dsimp only
  split
  · rfl
  · rw [judgeProposal_startWatch]
    rfl

theorem reportedTo_startWatch : (s.reportedTo e old cause).switching.startWatch = s.switching.startWatch := by
  have reported : (((s.blockRecord e old cause 0).reportBlock e).raiseStatus e).switching.startWatch = s.switching.startWatch := by
    rw [raiseStatus_switching]
    unfold State.reportBlock
    rw [evaluate_startWatch, blockRecord_switching]
  unfold State.reportedTo
  dsimp only
  split
  · rw [clearOffer_switching, reported]
  · exact reported

end

/-- A change of a designated end's state, and an end's change to OBSTRUCTED, bring a judgement (R165). -/
theorem changeEnd_failing {s : State} (proposing : s.switching.state = .proposingOut) (hq : s.quiet) {e : EndNo} {st : BlockState}
    (h : s.blocks[e].state ≠ st) (rel : Release) (cause : Cause)
    (judging : (s.cfg.switchable = true ∧ s.isDesignated e) ∨ st = .obstructed) :
    (s.changeEnd e st rel cause).switching.failing = (s.changeEnd e st rel cause).standingConditions := by
  obtain ⟨u, hu⟩ : ∃ u, u = (s.modBlock e (·.moved st rel)).reportedTo e s.blocks[e].state cause := ⟨_, rfl⟩
  have fair : u.judgedFairly := by
    rw [hu]
    exact reportedTo_judgedFairly _ _ proposing hq
  have state : u.watching.blocks[e].state = st := by
    rw [watching_blocks, hu, reportedTo_blocks, State.modBlock_blocks, upd_self, BlockEnd.moved_state]
  have cfg : u.watching.cfg = s.cfg := by
    rw [watching_cfg, hu, cfg_of_base (reportedTo_base ..)]
    rfl
  have heard : (u.watching.designated e || decide (u.watching.blocks[e].state = .obstructed)) = true := by
    rcases judging with ⟨switchable, designated⟩ | obstructed
    · have designated' : u.watching.designated e = true := by
        simp only [State.designated, State.first, State.second, cfg, switchable, Bool.true_and, Bool.or_eq_true, decide_eq_true_eq]
        exact designated
      rw [designated', Bool.true_or]
    · rw [state, obstructed, decide_eq_true rfl, Bool.or_true]
  rw [changeEnd_moved h, ← hu, reportStateToSwitching_eq, if_pos heard]
  exact (judgeProposal_failing (watching_judgedFairly fair)).1

/-- The start watch ends once both designated ends have left RECOVERING (R175). -/
theorem changeEnd_startWatch {s : State} {e : EndNo} {st : BlockState} (h : s.blocks[e].state ≠ st) (rel : Release) (cause : Cause) :
    (s.changeEnd e st rel cause).switching.startWatch =
      if (s.changeEnd e st rel cause).blocks[s.first].state ≠ .recovering ∧ (s.changeEnd e st rel cause).blocks[s.second].state ≠ .recovering
      then false else s.switching.startWatch := by
  obtain ⟨u, hu⟩ : ∃ u, u = (s.modBlock e (·.moved st rel)).reportedTo e s.blocks[e].state cause := ⟨_, rfl⟩
  have watch : u.switching.startWatch = s.switching.startWatch := by
    rw [hu, reportedTo_startWatch]
    rfl
  have cfg : u.cfg = s.cfg := by
    rw [hu, cfg_of_base (reportedTo_base ..)]
    rfl
  have first : u.first = s.first := by simp only [State.first, cfg]
  have second : u.second = s.second := by simp only [State.second, cfg]
  have whole : s.changeEnd e st rel cause = u.reportStateToSwitching e := by rw [changeEnd_moved h, hu]
  have reported : (u.reportStateToSwitching e).switching.startWatch = u.watching.switching.startWatch := by
    rw [reportStateToSwitching_eq]
    split
    · exact judgeProposal_startWatch _
    · rfl
  rw [whole, reported, reportStateToSwitching_blocks, ← watch]
  unfold State.watching
  simp only [first, second]
  split <;> rfl

/-! ### The abandonment (R170) -/

/-- The answer to a request depends on the line alone. -/
theorem answerTo_congr {s t : State} (hl : t.line = s.line) (k : FrameKind) (e : EndNo) : t.answerTo k e = s.answerTo k e := by
  unfold State.answerTo
  rw [hl]

/-- An abandonment is one from any state that differs in the controller's own data alone. -/
theorem abandons_of_modSwitching {s t : State} {f : Switching → Switching} {a : Agreement} {reason cause : Nat}
    (h : (s.modSwitching f).abandons t a reason cause) : s.abandons t a reason cause := by
  obtain ⟨frame, blocks, levers, agreement, state, first, second, records⟩ := h
  refine ⟨frame, blocks, levers, agreement, state, first, fun n agreed queued => second n agreed ?_, records⟩
  rw [← queued]
  refine answerTo_congr ?_ _ _
  split
  · exact request_line_congr (s := s) (t := s.modSwitching f) rfl _ _ _ _
  · rfl

theorem sendAbandon_eq (s : State) (d : Direction) (e : EndNo) (wanted : Bool) :
    s.sendAbandon d e wanted = if wanted then s.requestSwitch .switchAbandon e [byte d.code] else s := rfl

/-- The abandonment carried out, and its record, of which it is the last (R170, R176). -/
theorem abandon_abandons {s : State} {a : Agreement} (h : s.switching.agreement = some a) (cause : SwitchCause) (r : Option SwitchReason)
    (k : Concern) : s.abandons (s.abandon cause r k) a (reasonCode r) cause.code ∧
      ∃ l x, Recorded s (s.abandon cause r k) l ∧ l.getLast? = some x ∧ x.subject = k.subject := by
  obtain ⟨l, x, recorded, kind, subject, old, new, d1, d2⟩ := abandon_records h cause r k
  have last : (l ++ [x]).getLast? = some x := List.getLast?_concat ..
  have base := abandon_base s cause r k
  obtain ⟨-, -, -, -, levers, -⟩ := State.base_eq base
  obtain ⟨agreement, state, -⟩ := abandon_switching h cause r k
  have line := abandon_line h cause r k
  obtain ⟨told, htold⟩ : ∃ told, told = s.sendAbandon a.direction s.first a.agreed1 := ⟨_, rfl⟩
  have tells : s.tellAbandoned a = told.sendAbandon a.direction s.second a.agreed2 := by
    rw [htold]
    rfl
  have cfg : told.cfg = s.cfg := by
    rw [htold]
    exact (sendAbandon_acts (σ := .closing) s (fun _ => rfl) ..).cfg
  have later : Acts .closing told (s.tellAbandoned a) := tells ▸ sendAbandon_acts (σ := .closing) told (fun _ => rfl) ..
  refine ⟨⟨State.sameFrame_of_base base, abandon_blocks .., levers, agreement, state, fun n agreed queued => ?_, fun n agreed queued => ?_,
    l ++ [x], x, recorded, last, kind, old, new, d1, d2⟩, l ++ [x], x, recorded, last, subject⟩
  · refine slotHolds_of_line line (later.slotHolds rfl ?_)
    rw [htold, sendAbandon_eq, agreed]
    exact request_slotHolds queued ..
  · refine slotHolds_of_line line ?_
    rw [tells, sendAbandon_eq, agreed, if_pos rfl, ← cfg]
    refine request_slotHolds ?_ ..
    rwa [htold]

/-- The close of an event in which the conditions have failed (R165, log entry 34). -/
theorem settle_abandons {u : State} {a : Agreement} (h : u.switching.agreement = some a) {x : Failing} (failing : u.switching.failing = some x) :
    u.abandons u.settle a x.reason.code 3 := by
  unfold State.settle
  rw [failing]
  exact abandons_of_modSwitching
    (abandon_abandons (s := u.modSwitching fun w => { w with failing := none }) h .conditions (some x.reason) x.concern).1

/-- What a judgement of the standing conditions brings at the event's close. -/
theorem judged_settles {u : State} {a : Agreement} (h : u.switching.agreement = some a) (failing : u.switching.failing = u.standingConditions) :
    (u.standingConditions = none → u.settle = u) ∧ ∀ x, u.standingConditions = some x → u.abandons u.settle a x.reason.code 3 :=
  ⟨fun holds => settle_quiet (failing.trans holds), fun _ fails => settle_abandons h (failing.trans fails)⟩

end Sys2Proof.Machine
end

section
/-! PROOFS. The conclusions of an agreement, at the part that proposes and at a neighbour (R165 to R167, R169 to R171, R173): O54. -/

namespace Sys2Proof.Machine

/-! ### The commits (R169, R173) -/

/-- The locks take their outputs from position and decision once more at the return to IN (R9, R173). -/
theorem returnIn_outputs {s : State} (o : SwitchOutcome) (k : Concern) (i : LeverNo) :
    (s.underReset = false → (s.returnIn o k).levers[i].output = lockOutput true (s.spare i) (s.returnIn o k).levers[i]) ∧
      (s.returnIn o k).levers[i].position = s.levers[i].position := by
  obtain ⟨-, -, -, -, levers, -⟩ := State.base_eq (returnIn_base s o k)
  have driven : (s.setPartState .running).levers[i] = _ := driveAll_lever (s.modLoader fun l => { l with partState := .running }) i
  rw [levers, driven]
  refine ⟨fun hr => ?_, rfl⟩
  have running : (s.modLoader fun l => { l with partState := .running }).isRunning = true := by
    simp [State.isRunning, State.modLoader, hr]
  rw [running]
  exact drive_output ..

/-- A commit OUT completed (R169). -/
theorem completeCommit_out {s t : State} (h : t = s.completeCommit .out) :
    t.loader = { s.loader with partState := .switchedOut } ∧ t.switching.state = .out ∧ t.switching.agreement = none ∧
      t.switching.overheard1 = none ∧ t.switching.overheard2 = none ∧ (∀ i : LeverNo, t.levers[i].output = false) ∧
      ∀ e, e = s.first ∨ e = s.second → t.blocks[e].state = .inactive ∧ t.blocks[e].release = .none ∧ t.bells[e].playout = [] ∧
        (s.blocks[e].state ≠ .inactive → t.statusPromised e) ∧ s.rePaired t e := by
  have entered : t = s.enterOut .switchedOut .both := h
  have ordered : (s.modSwitching Switching.enteringOut).Ordered t .inactive := entered ▸ enterOut_ordered s .switchedOut .both
  have kept := ordered.orders.switching.rest
  refine ⟨by rw [entered, enterOut_loader], ordered.orders.switching.state, ordered.orders.switching.agreement, by rw [kept]; rfl,
    by rw [kept]; rfl, fun i => by rw [entered, enterOut_outputs], fun e he => ?_⟩
  obtain ⟨state, release⟩ := ordered.block e he
  exact ⟨state, release, ordered.playout e he rfl, ordered.promised e he, ordered.rePaired e he⟩

/-- A commit IN completed (R173). -/
theorem completeCommit_into {s t : State} (h : t = s.completeCommit .into) :
    t.loader = { s.loader with partState := .running } ∧ t.switching.state = .inUse ∧ t.switching.agreement = none ∧
      (s.underReset = false → ∀ i : LeverNo, t.levers[i].output = lockOutput true (s.spare i) t.levers[i]) ∧
      (∀ i : LeverNo, t.levers[i].position = s.levers[i].position) ∧
      ∀ e, e = s.first ∨ e = s.second → t.blocks[e].state = .normal ∧ t.blocks[e].release = .none ∧
        (s.blocks[e].state ≠ .normal → t.statusPromised e) ∧ s.rePaired t e := by
  have returned : t = s.returnIn .switchedIn .both := h
  have ordered : (s.modSwitching Switching.returningIn).Ordered t .normal := returned ▸ returnIn_ordered s .switchedIn .both
  have locks (i : LeverNo) := returnIn_outputs (s := s) .switchedIn .both i
  rw [← returned] at locks
  refine ⟨by rw [returned, returnIn_loader], ordered.orders.switching.state, ordered.orders.switching.agreement,
    fun running i => (locks i).1 running, fun i => (locks i).2, fun e he => ?_⟩
  obtain ⟨state, release⟩ := ordered.block e he
  exact ⟨state, release, ordered.promised e he, ordered.rePaired e he⟩

theorem acknowledge_first {a : Agreement} {n : Nat} (h : a.commit1 = .queued n) (h' : ¬a.commit2.isQueued n = true) :
    a.acknowledge n = { a with commit1 := .acknowledged } := by
  unfold Agreement.acknowledge
  rw [if_pos ((CommitMark.isQueued_iff ..).mpr h), if_neg h']

theorem acknowledge_second {a : Agreement} {n : Nat} (h : a.commit2 = .queued n) (h' : ¬a.commit1.isQueued n = true) :
    a.acknowledge n = { a with commit2 := .acknowledged } := by
  unfold Agreement.acknowledge
  rw [if_pos ((CommitMark.isQueued_iff ..).mpr h), if_neg h']

/-- The controller with an agreement record in the place of its own. -/
def State.withAgreement (s : State) (a : Agreement) : State := s.modSwitching fun w => { w with agreement := some a }

theorem commitDelivered_eq {s : State} {a : Agreement} {n : Nat} (hq : s.quiet) (h : s.switching.agreement = some a)
    (stands : a.commit1 = .queued n ∨ a.commit2 = .queued n) : s.commitDelivered n =
      if (a.acknowledge n).commit1 = .acknowledged ∧ (a.acknowledge n).commit2 = .acknowledged
      then (s.withAgreement (a.acknowledge n)).completeCommit a.direction else s.withAgreement (a.acknowledge n) := by
  have standing : s.commitStands n = true := by
    unfold State.commitStands
    rw [h]
    exact (Bool.or_eq_true ..).mpr (stands.imp (CommitMark.isQueued_iff ..).mpr (CommitMark.isQueued_iff ..).mpr)
  have marked : (s.modSwitching fun w => { w with agreement := w.agreement.map (Agreement.acknowledge n) }) = s.withAgreement (a.acknowledge n) := by
    simp only [State.withAgreement, State.modSwitching, h, Option.map_some]
  have quiet : (s.withAgreement (a.acknowledge n)).switching.failing = none := hq
  have record : (s.withAgreement (a.acknowledge n)).switching.agreement = some (a.acknowledge n) := rfl
  unfold State.commitDelivered
  rw [if_pos standing]
  dsimp only
  rw [marked, record]
  dsimp only
  simp only [quiet, and_true]
  rfl

theorem not_isQueued {m : CommitMark} {n : Nat} (h : m ≠ .queued n) : ¬m.isQueued n = true := fun h' => h ((CommitMark.isQueued_iff ..).mp h')

/-! ### A hold ends (R167) -/

section
variable (s : State) (e : EndNo)

theorem releaseEnd_orders : s.Orders (· = e) (s.releaseEnd e) := by
  unfold State.releaseEnd
  split
  · exact orderState_orders ..
  · exact .refl s

theorem releaseEnd_state : (s.releaseEnd e).blocks[e].state = if s.blocks[e].state = .switching then .normal else s.blocks[e].state := by
  unfold State.releaseEnd
  split
  · rw [orderState_self, orderedTo_state]
  · rfl

theorem releaseEnd_paired : (s.releaseEnd e).blocks[e].long = s.blocks[e].long ∧
    (s.releaseEnd e).blocks[e].outstanding = s.blocks[e].outstanding ∧
    (s.blocks[e].mismatch = false → (s.releaseEnd e).blocks[e].mismatch = false) := by
  unfold State.releaseEnd
  split
  · rw [orderState_self]
    exact orderedTo_paired ..
  · exact ⟨rfl, rfl, fun h => h⟩

end

theorem switchRecord_one (s : State) (e : EndNo) (party d : Nat) (o : SwitchOutcome) (r : Option SwitchReason) (c : Option SwitchCause) :
    Recorded s (s.switchRecord (.one e party) d o r c)
      [{ time := s.partTime, kind := .switching, subject := e.val, old := d, new := o.code, d1 := reasonCode r, d2 := causeCode c
         d3 := party, d4 := s.switching.state.code }] := append_recorded ..

/-- What the end of a hold does before the end is ordered: the hold is gone, its record stands first, and no end has moved. -/
structure State.Unheld (s v : State) (r : Event) : Prop where
  hold : v.switching.hold = none
  blocks : v.blocks = s.blocks
  base : v.base = s.base
  repairs : s.Repairs v
  recorded : Recorded s v [r]

theorem dropHold_unheld (s : State) (e : EndNo) (party d : Nat) (o : SwitchOutcome) (c : Option SwitchCause) :
    s.Unheld (s.dropHold.switchRecord (.one e party) d o none c)
      { time := s.partTime, kind := .switching, subject := e.val, old := d, new := o.code, d2 := causeCode c
        d3 := party, d4 := s.switching.state.code } := by
  have orders : s.dropHold.Orders (fun _ => False) (s.dropHold.switchRecord (.one e party) d o none c) := switchRecord_orders ..
  refine ⟨?_, ?_, ?_, (modSwitching_repairs s _).trans orders.toRepairs, switchRecord_one s.dropHold e party d o none c⟩
  · rw [switchRecord_switching]
    rfl
  · rw [switchRecord_blocks]
    rfl
  · rw [switchRecord_base]
    rfl

theorem State.Orders.hold {E : EndNo → Prop} {s t : State} (h : s.Orders E t) : t.switching.hold = s.switching.hold := by rw [h.switching.rest]

theorem State.Repairs.recordedFirst {s t u : State} {r : Event} (h : t.Repairs u) (hr : Recorded s t [r]) : RecordedFirst s u r :=
  have ⟨l, hl⟩ := h.recorded
  ⟨l, recorded_trans hr hl⟩

/-- From `s` to `t` the hold at an end has ended, its pairing kept: the end is NORMAL where it was SWITCHING. -/
structure State.Released (s t : State) (e : EndNo) (r : Event) : Prop where
  base : t.base = s.base
  hold : t.switching.hold = none
  long : t.blocks[e].long = s.blocks[e].long
  state : t.blocks[e].state = if s.blocks[e].state = .switching then .normal else s.blocks[e].state
  others : ∀ e', e' ≠ e → t.blocks[e'] = s.blocks[e']
  recorded : RecordedFirst s t r

theorem releaseEnd_released {s v : State} {r : Event} (h : s.Unheld v r) (e : EndNo) : s.Released (v.releaseEnd e) e r := by
  have orders := releaseEnd_orders v e
  refine ⟨(releaseEnd_base v e).trans h.base, orders.hold.trans h.hold, ?_, ?_, fun e' he => ?_, orders.toRepairs.recordedFirst h.recorded⟩
  · rw [(releaseEnd_paired v e).1, h.blocks]
  · rw [releaseEnd_state, h.blocks]
  · rw [orders.others e' he, h.blocks]

/-! ### A proposal judged at a neighbour (R166) -/

/-- The checks of R166, each on its own, in their order. -/
theorem proposeFailure_eq (s : State) (e : EndNo) (d : Direction) (p : List Byte) : s.proposeFailure e d p =
    if ¬(s.loader.partState = .running ∧ s.switching.state = .inUse ∧ s.switching.hold = none) then some .busy
    else if ¬s.blocks[e].long = decide (d = .into) then some (if d = .out then .long else .notLong)
    else if ¬s.namesPair e p = true then some .alternate
    else if ¬s.blocks[e].state = .normal then some .notNormal
    else if ¬s.line.link[e] = true then some .link
    else if ¬s.endSectState e = .clear then some .count
    else if ¬(d = .out → s.bells[e].offer = none) then some .offer
    else none := by
  unfold State.proposeFailure
  refine if_congr ?_ rfl ?_
  · rw [not_and_or, not_and_or, Option.isSome_iff_ne_none]
  · cases d with
    | out =>
      cases s.blocks[e].long <;> simp [Option.isSome_iff_ne_none]
    | into =>
      cases s.blocks[e].long <;> simp

theorem check_passed {c : Prop} [Decidable c] {α : Type} (h : c) {x y : α} : (if ¬c then x else y) = y := if_neg (not_not_intro h)

theorem proposeFailure_none {s : State} {e : EndNo} {d : Direction} {p : List Byte}
    (free : s.loader.partState = .running ∧ s.switching.state = .inUse ∧ s.switching.hold = none)
    (pairing : s.blocks[e].long = decide (d = .into)) (names : s.namesPair e p = true) (normal : s.blocks[e].state = .normal)
    (link : s.line.link[e] = true) (clear : s.endSectState e = .clear) (offer : d = .out → s.bells[e].offer = none) :
    s.proposeFailure e d p = none := by
  rw [proposeFailure_eq, check_passed free, check_passed pairing, check_passed names, check_passed normal,
    check_passed link, check_passed clear, check_passed offer]

theorem proposeTaken_refused {s : State} {e : EndNo} {d : Direction} {x : SwitchReason} {p : List Byte} (h : s.proposeFailure e d p = some x)
    (sender : Nat) : s.proposeTaken e d sender p =
      (s.requestSwitch .switchRefuse e [byte d.code, byte x.code]).switchRecord (.one e sender) d.code .refused (some x) none := by
  unfold State.proposeTaken
  rw [h]

theorem proposeTaken_unanswered {s : State} {e : EndNo} {d : Direction} {p : List Byte} (h : s.proposeFailure e d p = none)
    (refused : s.answerTo .switchAgree e = .refused) (sender : Nat) :
    s.proposeTaken e d sender p = s.switchRecord (.one e sender) d.code .refused (some .slots) none := by
  unfold State.proposeTaken
  rw [h, refused]
  rfl

theorem proposeTaken_agreed {s : State} {e : EndNo} {d : Direction} {p : List Byte} (h : s.proposeFailure e d p = none) {n : Nat}
    (queued : s.answerTo .switchAgree e = .queued n) (sender : Nat) : s.proposeTaken e d sender p = s.formHold e d sender := by
  unfold State.proposeTaken
  rw [h, queued]
  rfl

/-- A hold formed: the AGREE waits, its record stands before the end's, and the end is SWITCHING (R166, R176). -/
theorem formHold_holds {s : State} {e : EndNo} (normal : s.blocks[e].state = .normal) {n : Nat} (queued : s.answerTo .switchAgree e = .queued n)
    (d : Direction) (sender : Nat) :
    let t := s.formHold e d sender
    t.switching.hold = some { direction := d, proposer := sender, e := e, until_ := s.now + agreementTime } ∧
      t.blocks[e].state = .switching ∧ t.blocks[e].release = .none ∧ t.blocks[e].long = s.blocks[e].long ∧
      (∀ e', e' ≠ e → t.blocks[e'] = s.blocks[e']) ∧ t.statusPromised e ∧
      t.slotHolds .switchAgree e s.cfg.ends[e].directId [byte d.code] n ∧
      ∃ before after, (∀ x ∈ before, x.kind ≠ .blockStateChanged) ∧ Recorded s t (before ++
        { time := s.partTime, kind := .switching, subject := e.val, old := d.code, new := 8, d3 := sender
          d4 := s.switching.state.code } :: after) := by
  intro t
  obtain ⟨a, ha⟩ : ∃ a, a = s.requestSwitch .switchAgree e [byte d.code] := ⟨_, rfl⟩
  have asked : Acts (.asking .switchAgree e) s a := by
    rw [ha]
    exact request_acts (σ := .asking .switchAgree e) s ⟨rfl, rfl⟩ ..
  obtain ⟨b, hb⟩ : ∃ b, b = a.modSwitching fun w =>
    { w with hold := some { direction := d, proposer := sender, e := e, until_ := s.now + agreementTime } } := ⟨_, rfl⟩
  obtain ⟨c, hc⟩ : ∃ c, c = b.switchRecord (.one e sender) d.code .agreed none none := ⟨_, rfl⟩
  have whole : t = c.orderState e .switching := by
    rw [hc, hb, ha]
    rfl
  have ordered : Acts (.ofEnd e) c t := whole ▸ orderState_acts (σ := .ofEnd e) c e .switching rfl ⟨rfl, rfl⟩
  have blocks : c.blocks = s.blocks := by
    rw [hc, switchRecord_blocks, hb, State.modSwitching_blocks, ha]
    exact request_blocks ..
  have line : c.line = a.line := by
    rw [hc, switchRecord_line, hb]
    rfl
  have self : t.blocks[e] = s.blocks[e].orderedTo .switching := by rw [whole, orderState_self, blocks]
  refine ⟨?_, ?_, ?_, ?_, fun e' he => ?_, ?_, ?_, ?_⟩
  · rw [ordered.hold, hc, switchRecord_switching, hb]
    rfl
  · rw [self, orderedTo_state]
  · rw [self, orderedTo_release]
  · rw [self, (orderedTo_paired ..).1]
  · rw [ordered.blocks he, blocks]
  · rw [whole]
    refine orderState_promised c e .switching ?_
    rw [blocks, normal]
    decide
  · refine ordered.slotHolds rfl (slotHolds_of_line line ?_)
    rw [ha]
    exact request_slotHolds queued ..
  · obtain ⟨before, hbefore, tells⟩ := asked.records
    obtain ⟨after, hafter, -⟩ := ordered.records
    have held : Recorded a b [] := recorded_refl (by rw [hb]; rfl)
    have record := switchRecord_one b e sender d.code .agreed none none
    have time : b.partTime = s.partTime := by
      rw [← asked.partTime, hb]
      rfl
    have state : b.switching.state = s.switching.state := by
      rw [← (asked.switching id).state, hb]
      rfl
    rw [← hc, time, state] at record
    refine ⟨before, after, fun x hx kind => ?_, ?_⟩
    · have told := tells x hx
      unfold Scope.tells at told
      rw [kind] at told
      obtain ⟨_, none⟩ := told
      exact none
    · have recorded := recorded_trans (recorded_trans (recorded_trans hbefore held) record) hafter
      rw [List.append_nil, List.append_assoc] at recorded
      exact recorded

/-! ### A switching frame taken (R166, R167, R169, R171) -/

theorem ofCode_code (d : Direction) : Direction.ofCode d.code = some d := by cases d <;> rfl

section
variable {s : State} {f : RxFrame} {e : EndNo} {d : Direction}

theorem overhear_switching (delivered : Bool) (kind : f.kind ≠ .status) (dest : f.dest = s.cfg.identity)
    (matched : s.matchedEnd f.sender f.senderEnd = some e) (code : at_ f.payload 0 = d.code) :
    s.overhear f delivered = s.actOnSwitching e d f := by
  have taken : s.switchingTaken f = s.actOnSwitching e d f := by
    unfold State.switchingTaken
    rw [if_pos dest, matched, code, ofCode_code]
  unfold State.overhear
  split
  · exact absurd ‹_› kind
  · exact taken

theorem namesPair_iff (p : List Byte) : s.namesPair e p = true ↔ s.cfg.ends[e].altId ≠ 0 ∧
    ((at_ p 1 = s.cfg.identity ∧ at_ p 2 = e.val ∧ at_ p 3 = s.cfg.ends[e].altId ∧ at_ p 4 = s.cfg.ends[e].altEnd) ∨
      (at_ p 3 = s.cfg.identity ∧ at_ p 4 = e.val ∧ at_ p 1 = s.cfg.ends[e].altId ∧ at_ p 2 = s.cfg.ends[e].altEnd)) := by
  simp only [State.namesPair, Bool.and_eq_true, Bool.or_eq_true, decide_eq_true_eq, and_assoc]

theorem holdMatches_iff (sender : Nat) : s.holdMatches e d sender = true ↔
    ∃ h, s.switching.hold = some h ∧ h.e = e ∧ h.direction = d ∧ h.proposer = sender := by
  simp only [State.holdMatches, Option.any_eq_true, Bool.and_eq_true, decide_eq_true_eq, and_assoc]

theorem heldAt_iff : s.heldAt e = false ↔ ∀ h, s.switching.hold = some h → h.e ≠ e := by
  simp only [State.heldAt, Option.any_eq_false, decide_eq_false_iff_not, ne_eq]

/-- A COMMIT within its hold: the end takes its pairing, and its work up again (R167, R169). -/
theorem commitTaken_commits {sender : Nat} (h : s.holdMatches e d sender = true) :
    let t := s.commitTaken e d sender
    t.switching.hold = none ∧ t.blocks[e].long = decide (d = .out) ∧ t.blocks[e].mismatch = false ∧ t.blocks[e].outstanding = none ∧
      t.bells[e].playout = [] ∧ t.statusPromised e ∧
      t.blocks[e].state = (if s.blocks[e].state = .switching then .normal else s.blocks[e].state) ∧ s.rePaired t e ∧
      (∀ e', e' ≠ e → t.blocks[e'] = s.blocks[e']) ∧
      RecordedFirst s t { time := s.partTime, kind := .switching, subject := e.val, old := d.code, new := 10, d3 := sender
                          d4 := s.switching.state.code } := by
  intro t
  have unheld := dropHold_unheld s e sender d.code .committed none
  obtain ⟨v, hv⟩ : ∃ v, v = s.dropHold.switchRecord (.one e sender) d.code .committed none none := ⟨_, rfl⟩
  rw [← hv] at unheld
  obtain ⟨u, hu⟩ : ∃ u, u = v.orderPairing e (decide (d = .out)) := ⟨_, rfl⟩
  have paired : v.PairedTo u e (decide (d = .out)) := hu ▸ orderPairing_pairedTo ..
  have whole : t = u.releaseEnd e := by
    rw [hu, hv]
    exact if_pos h
  have released := releaseEnd_orders u e
  obtain ⟨long, outstanding, mismatch⟩ := releaseEnd_paired u e
  rw [whole]
  refine ⟨?_, long.trans paired.long, mismatch paired.mismatch, outstanding.trans paired.outstanding, released.playout e paired.playout,
    released.promised e paired.promised, ?_, ?_, fun e' he => ?_, ?_⟩
  · rw [released.hold, paired.orders.hold, unheld.hold]
  · rw [releaseEnd_state, paired.state, unheld.blocks]
  · exact unheld.repairs.rePaired (paired.orders.trans released).toRepairs
      (.inr (paired.orders.toRepairs.rePaired released.toRepairs (.inl paired.rePaired)))
  · rw [released.others e' he, paired.orders.others e' he, unheld.blocks]
  · exact (paired.orders.trans released).toRepairs.recordedFirst unheld.recorded

theorem commitTaken_disregarded {sender : Nat} (h : ¬s.holdMatches e d sender = true) : s.commitTaken e d sender = s.append
    { time := s.partTime, kind := .switching, subject := e.val, old := d.code, new := 12, d3 := sender, d4 := s.switching.state.code } := by
  unfold State.commitTaken
  rw [if_neg h]
  rfl

theorem abandonTaken_releases {sender : Nat} (h : s.holdMatches e d sender = true) :
    s.Released (s.abandonTaken e d sender) e
      { time := s.partTime, kind := .switching, subject := e.val, old := d.code, new := 11, d2 := 7, d3 := sender
        d4 := s.switching.state.code } := by
  unfold State.abandonTaken
  rw [if_pos h]
  exact releaseEnd_released (dropHold_unheld s e sender d.code .holdEnded (some .abandon)) e

/-- An ABANDON(OUT) at a LONG end with no hold of its own reverts the end to DIRECT (R171, log entry 38). -/
theorem abandonTaken_reverts {sender : Nat} (free : s.heldAt e = false) (out : d = .out) (long : s.blocks[e].long = true) :
    let t := s.abandonTaken e d sender
    t.switching.hold = s.switching.hold ∧ t.blocks[e].long = false ∧ t.blocks[e].state = s.blocks[e].state ∧
      t.blocks[e].mismatch = false ∧ t.blocks[e].outstanding = none ∧ t.bells[e].playout = [] ∧ t.statusPromised e ∧
      s.rePaired t e ∧ (∀ e', e' ≠ e → t.blocks[e'] = s.blocks[e']) ∧
      RecordedFirst s t { time := s.partTime, kind := .switching, subject := e.val, old := d.code, new := 13, d2 := 7, d3 := sender
                          d4 := s.switching.state.code } := by
  intro t
  obtain ⟨v, hv⟩ : ∃ v, v = s.switchRecord (.one e sender) d.code .reverted none (some .abandon) := ⟨_, rfl⟩
  have record : Recorded s v _ := hv ▸ switchRecord_one s e sender d.code .reverted none (some .abandon)
  have before : s.Orders (· = e) v := hv ▸ switchRecord_orders ..
  have blocks : v.blocks = s.blocks := hv ▸ switchRecord_blocks ..
  have unmatched : ¬s.holdMatches e d sender = true := fun h =>
    have ⟨x, hx, he, _⟩ := (holdMatches_iff sender).mp h
    heldAt_iff.mp free x hx he
  have whole : t = v.orderPairing e false := by
    show s.abandonTaken e d sender = _
    unfold State.abandonTaken
    rw [if_neg unmatched, if_pos (by rw [free, decide_eq_true out, long]; rfl), hv]
  have paired : v.PairedTo t e false := whole ▸ orderPairing_pairedTo v e false
  refine ⟨(before.trans paired.orders).hold, paired.long, by rw [paired.state, blocks], paired.mismatch, paired.outstanding, paired.playout,
    paired.promised, before.toRepairs.rePaired paired.orders.toRepairs (.inr paired.rePaired), fun e' he => ?_, ?_⟩
  · exact (before.trans paired.orders).others e' he
  · exact paired.orders.toRepairs.recordedFirst record

theorem abandonTaken_disregarded {sender : Nat} (h : ¬s.holdMatches e d sender = true)
    (h' : ¬(s.heldAt e = false ∧ d = .out ∧ s.blocks[e].long = true)) : s.abandonTaken e d sender = s.append
    { time := s.partTime, kind := .switching, subject := e.val, old := d.code, new := 11, d2 := 10, d3 := sender
      d4 := s.switching.state.code } := by
  unfold State.abandonTaken
  rw [if_neg h, if_neg (by simpa [and_assoc] using h')]
  rfl

end

/-! ### The limits (R167, R170) -/

theorem expired_some {now : Time} {t : Time} (h : t ≤ now) : expired now (some t) = true := by simpa [expired] using h

/-- The limit abandons the proposal, and the record concerns both neighbours (log entry 36). -/
theorem agreementLimit_abandons {s : State} {a : Agreement} (active : s.active = true) (h : s.switching.agreement = some a)
    (due : a.until_ ≤ s.now) : Runs .agreementLimitExpiry s fun t =>
      s.abandons t a 0 2 ∧ ∃ l r, Recorded s t l ∧ l.getLast? = some r ∧ r.subject = 255 := by
  have expiry : s.agreementLimitExpiry = s.abandon .limit none .both := by
    unfold State.agreementLimitExpiry
    rw [h, active]
    exact if_pos (expired_some due)
  exact ⟨_, next_quiet expiry (abandon_switching h .limit none .both).2.2, abandon_abandons h .limit none .both⟩

/-- The hold's end leaves the pairing (R167). -/
theorem holdTimer_releases {s : State} {h : Hold} (active : s.active = true) (held : s.switching.hold = some h) (due : h.until_ ≤ s.now) :
    Runs .holdTimerExpiry s fun t =>
      s.sameFrame t ∧ t.switching.hold = none ∧ t.blocks[h.e].long = s.blocks[h.e].long ∧
      t.blocks[h.e].state = (if s.blocks[h.e].state = .switching then .normal else s.blocks[h.e].state) ∧
      (∀ e, e ≠ h.e → t.blocks[e] = s.blocks[e]) ∧
      RecordedFirst s t
        { time := s.partTime, kind := .switching, subject := h.e.val, old := h.direction.code, new := 11, d2 := 8, d3 := h.proposer
          d4 := s.switching.state.code } := by
  obtain ⟨u, hu⟩ : ∃ u, u = (s.dropHold.switchRecord (.one h.e h.proposer) h.direction.code .holdEnded none (some .expired)).releaseEnd h.e :=
    ⟨_, rfl⟩
  have expiry : s.holdTimerExpiry = u := by
    unfold State.holdTimerExpiry
    rw [held, hu]
    exact if_pos (by simp [active, due])
  have released := releaseEnd_released (dropHold_unheld s h.e h.proposer h.direction.code .holdEnded (some .expired)) h.e
  rw [← hu] at released
  have closed : Acts .closing u u.settle := settle_acts u
  obtain ⟨l, hl⟩ := released.recorded
  obtain ⟨m, hm, -⟩ := closed.records
  have settled (e : EndNo) : u.settle.blocks[e] = u.blocks[e] := closed.blocks id
  refine ⟨_, next_settle expiry, State.sameFrame_of_base (closed.base.trans released.base), closed.hold.trans released.hold, ?_, ?_, fun e he => ?_,
    l ++ m, recorded_trans hl hm⟩
  · rw [settled, released.long]
  · rw [settled, released.state]
  · rw [settled, released.others e he]

/-- Settles O54: the limits, the judgement of a proposal, the commits, and each switching frame taken at a neighbour. -/
theorem agreementsConclude : Obligations.AgreementsConclude := by
  unfold Obligations.AgreementsConclude
  intro s hq
  refine ⟨fun a active h due => agreementLimit_abandons active h due,
    fun a h proposing => ⟨fun e st rel cause moves judging => ?_, fun f changed => ?_⟩,
    fun e st rel cause moves => ⟨fun left => ?_, fun left => ?_⟩,
    fun h active held due => holdTimer_releases active held due, ?_, ?_, ?_, ?_, ?_⟩
  · have kept := (changeEnd_acts (σ := .ofEnd e) s rfl ⟨rfl, rfl⟩ st rel cause).switching id
    exact judged_settles (kept.agreement.trans h) (changeEnd_failing proposing hq moves rel cause judging)
  · have kept := (evaluate_acts (σ := .quiet) s f).switching id
    exact judged_settles (kept.agreement.trans h) (evaluate_failing proposing hq changed)
  · rw [changeEnd_startWatch moves, if_pos left]
  · rw [changeEnd_startWatch moves, if_neg left]
  · exact completeCommit_out rfl
  · exact completeCommit_into rfl
  · intro a n h
    refine ⟨fun h1 h2 => ?_, fun h1 h2 => ?_, fun m h1 h2 hne => ?_, fun m h1 h2 hne => ?_⟩
    · rw [commitDelivered_eq hq h (.inl h1), acknowledge_first h1 (not_isQueued (by rw [h2]; simp)), h2]
      exact if_pos ⟨rfl, rfl⟩
    · rw [commitDelivered_eq hq h (.inr h2), acknowledge_second h2 (not_isQueued (by rw [h1]; simp)), h1]
      exact if_pos ⟨rfl, rfl⟩
    · have other : a.commit2 ≠ .queued n := fun h => hne (by cases h2.symm.trans h; rfl)
      rw [commitDelivered_eq hq h (.inl h1), acknowledge_first h1 (not_isQueued other)]
      exact if_neg fun both => by cases h2.symm.trans both.2
    · have other : a.commit1 ≠ .queued n := fun h => hne (by cases h1.symm.trans h; rfl)
      rw [commitDelivered_eq hq h (.inr h2), acknowledge_second h2 (not_isQueued other)]
      exact if_neg fun both => by cases h1.symm.trans both.1
  · intro e f d delivered kind dest matched code
    have taken : s.overhear f delivered = s.proposeTaken e d f.sender f.payload := by
      rw [overhear_switching delivered (by rw [kind]; decide) dest matched code]
      unfold State.actOnSwitching
      rw [kind]
    rw [taken]
    dsimp only
    have names := namesPair_iff (s := s) (e := e) f.payload
    have failure := proposeFailure_eq s e d f.payload
    have refuses {x : SwitchReason} (h : s.proposeFailure e d f.payload = some x) := proposeTaken_refused h f.sender
    refine ⟨fun n1 => refuses ?_, fun c1 n2 => refuses ?_, fun ⟨c1, c2⟩ n3 => refuses ?_, fun ⟨⟨c1, c2⟩, c3⟩ n4 => refuses ?_,
      fun ⟨⟨⟨c1, c2⟩, c3⟩, c4⟩ n5 => refuses ?_, fun ⟨⟨⟨⟨c1, c2⟩, c3⟩, c4⟩, c5⟩ n6 => refuses ?_,
      fun ⟨⟨⟨⟨⟨c1, c2⟩, c3⟩, c4⟩, c5⟩, c6⟩ n7 => refuses ?_,
      fun ⟨⟨⟨⟨⟨⟨c1, c2⟩, c3⟩, c4⟩, c5⟩, c6⟩, c7⟩ refused => ?_,
      fun n ⟨⟨⟨⟨⟨⟨c1, c2⟩, c3⟩, c4⟩, c5⟩, c6⟩, c7⟩ queued => ?_⟩
    · rw [failure, if_pos n1]
    · rw [failure, check_passed c1, if_pos fun c2 => n2 ⟨c1, c2⟩]
    · rw [failure, check_passed c1, check_passed c2, if_pos fun c3 => n3 ⟨⟨c1, c2⟩, names.mp c3⟩]
    · rw [failure, check_passed c1, check_passed c2, check_passed (names.mpr c3),
        if_pos fun c4 => n4 ⟨⟨⟨c1, c2⟩, c3⟩, c4⟩]
    · rw [failure, check_passed c1, check_passed c2, check_passed (names.mpr c3), check_passed c4,
        if_pos fun c5 => n5 ⟨⟨⟨⟨c1, c2⟩, c3⟩, c4⟩, c5⟩]
    · rw [failure, check_passed c1, check_passed c2, check_passed (names.mpr c3), check_passed c4,
        check_passed c5, if_pos fun c6 => n6 ⟨⟨⟨⟨⟨c1, c2⟩, c3⟩, c4⟩, c5⟩, c6⟩]
    · rw [failure, check_passed c1, check_passed c2, check_passed (names.mpr c3), check_passed c4,
        check_passed c5, check_passed c6, if_pos fun c7 => n7 ⟨⟨⟨⟨⟨⟨c1, c2⟩, c3⟩, c4⟩, c5⟩, c6⟩, c7⟩]
    · exact proposeTaken_unanswered (proposeFailure_none c1 c2 (names.mpr c3) c4 c5 c6 c7) refused f.sender
    · rw [proposeTaken_agreed (proposeFailure_none c1 c2 (names.mpr c3) c4 c5 c6 c7) queued f.sender]
      exact formHold_holds c4 queued d f.sender
  · intro e f d delivered dest matched code
    have taken (kind : f.kind ≠ .status) := overhear_switching delivered kind dest matched code
    have commit (kind : f.kind = .switchCommit) : s.overhear f delivered = s.commitTaken e d f.sender := by
      rw [taken (by rw [kind]; decide)]
      unfold State.actOnSwitching
      rw [kind]
    have abandon (kind : f.kind = .switchAbandon) : s.overhear f delivered = s.abandonTaken e d f.sender := by
      rw [taken (by rw [kind]; decide)]
      unfold State.actOnSwitching
      rw [kind]
    have matches_ := holdMatches_iff (s := s) (e := e) (d := d) f.sender
    refine ⟨fun kind matched => ?_, fun kind unmatched => ?_, fun kind matched => ?_, fun kind ⟨free, out, long⟩ => ?_,
      fun kind unmatched stays => ?_⟩
    · rw [commit kind]
      exact commitTaken_commits (matches_.mpr matched)
    · rw [commit kind]
      exact commitTaken_disregarded fun h => unmatched (matches_.mp h)
    · have released := abandonTaken_releases (matches_.mpr matched)
      rw [abandon kind]
      exact ⟨released.hold, released.long, released.state, released.others, released.recorded⟩
    · rw [abandon kind]
      exact abandonTaken_reverts (heldAt_iff.mpr free) out long
    · rw [abandon kind]
      exact abandonTaken_disregarded (fun h => unmatched (matches_.mp h)) fun ⟨free, out, long⟩ => stays ⟨heldAt_iff.mp free, out, long⟩

end Sys2Proof.Machine
end

section
/-! PROOFS. What a detection section's held components make of it, and the flasher (R85, R87): O30. -/

namespace Sys2Proof.Machine

/-! ### A detection section's state and lamp -/

theorem judgeClear_iff (b : Combiner) (r : DetRecord) :
    b.judgeClear r = true ↔ b.heldChannel r ≠ some false ∧ ∀ z, b.heldCount r = some z → z = .clear := by
  unfold Combiner.judgeClear
  rw [Bool.and_eq_true, decide_eq_true_iff]
  refine and_congr_right' ?_
  cases b.heldCount r with
  | none => simp
  | some z => cases z <;> simp

theorem doubtful_iff (b : Combiner) (r : DetRecord) :
    b.doubtful r = true ↔ b.heldInterference r = some true ∨
      ∃ z, b.heldCount r = some z ∧ (z = .disturbed ∨ z = .resetPrep ∨ z = .unknown) := by
  unfold Combiner.doubtful
  rw [Bool.or_eq_true, decide_eq_true_iff]
  refine or_congr_right ?_
  cases b.heldCount r with
  | none => simp
  | some z => cases z <;> simp

theorem judgeLamp_clear {b : Combiner} {r : DetRecord} (clear : b.judgeClear r = true) : b.judgeLamp r = .dark := if_pos clear

theorem judgeLamp_occupied {b : Combiner} {r : DetRecord} (occupied : b.judgeClear r = false) :
    b.judgeLamp r = if b.doubtful r then .flashing else .steady := if_neg (Bool.eq_false_iff.mp occupied)

/-! ### The flasher -/

theorem flasherDue_of_ended {s : State} {f : Flasher} (active : s.active = true) (running : s.combiner.flasher = some f)
    (ended : f.until_ ≤ s.now) : s.flasherDue = true := by
  unfold State.flasherDue
  rw [active, running]
  exact decide_eq_true ended

theorem flasherHalfExpiry_ended {s : State} {f : Flasher} (active : s.active = true) (running : s.combiner.flasher = some f)
    (ended : f.until_ ≤ s.now) :
    s.flasherHalfExpiry = { s with combiner := { s.combiner with
      flasher := some { lit := !f.lit, until_ := f.until_ + ms 500 } } } := by
  unfold State.flasherHalfExpiry
  rw [if_pos (flasherDue_of_ended active running ended)]
  simp only [State.modCombiner, running, Option.map_some, flasherHalf]

/-- Settles O30: the two judgements are the conditions of R85 and R87, and a half that has ended gives way to the other. -/
theorem detectionFollowsItsComponents : Obligations.DetectionFollowsItsComponents := by
  unfold Obligations.DetectionFollowsItsComponents
  refine ⟨fun b r => ⟨judgeClear_iff b r, judgeLamp_clear, fun occupied cause => ?_, fun occupied sure => ?_⟩,
    fun s f hq active running ended => next_quiet (flasherHalfExpiry_ended active running ended) hq⟩
  · exact (judgeLamp_occupied occupied).trans (if_pos ((doubtful_iff b r).mpr cause))
  · exact (judgeLamp_occupied occupied).trans (if_neg fun h => sure ((doubtful_iff b r).mp h))

end Sys2Proof.Machine
end

section
/-! PROOFS. What the operations of an event do to the bounded stores (R107, R195): records arrive at the event queue, and frames enter the slots, are
merged and are renumbered by none. One lemma per operation, in the order of the chapters; with them O57. -/

namespace Sys2Proof.Machine

/-! ### Slots without duplicates (R107, R109) -/

/-- No two slots hold a STATUS, or a COUNT, of one end (`SlotLaw`). -/
def Line.distinct (l : Line) : Prop := ∀ i j : Fin 8, i ≠ j → clash l.slots[i] l.slots[j] = false

theorem slotLaw_iff (s : State) : SlotLaw s ↔ s.line.distinct := Iff.rfl

theorem clash_some (f g : Frame) : clash (some f) (some g) = true ↔ f.kind.composed = true ∧ f.kind = g.kind ∧ f.e = g.e := by
  simp [clash, and_assoc]

theorem clash_comm (x y : Option Frame) : clash x y = clash y x := by
  cases x with
  | none => cases y <;> rfl
  | some f =>
    cases y with
    | none => rfl
    | some g =>
      rw [Bool.eq_iff_iff, clash_some, clash_some]
      constructor <;> (rintro ⟨hc, hk, he⟩; exact ⟨hk ▸ hc, hk.symm, he.symm⟩)

/-- A frame clashes with whatever one of its kind and end does. -/
theorem clash_congr {f g : Frame} (hk : g.kind = f.kind) (he : g.e = f.e) (y : Option Frame) : clash (some g) y = clash (some f) y := by
  cases y with
  | none => rfl
  | some x => rw [Bool.eq_iff_iff, clash_some, clash_some, hk, he]

/-- A slot takes contents that clash with those of no other slot. -/
theorem distinct_set {l : Line} (h : l.distinct) (i : Fin 8) {x : Option Frame} (hx : ∀ j, i ≠ j → clash x l.slots[j] = false) :
    ({ l with slots := l.slots.set i x } : Line).distinct := fun j k hjk => by
  show clash (l.slots.set i x)[j] (l.slots.set i x)[k] = false
  by_cases hj : i = j
  · subst hj
    rw [slot_set_self, slot_set_ne _ _ hjk]
    exact hx k hjk
  · rw [slot_set_ne _ _ hj]
    by_cases hk : i = k
    · subst hk
      rw [slot_set_self, clash_comm]
      exact hx j hjk.symm
    · rw [slot_set_ne _ _ hk]
      exact h j k hjk

theorem distinct_refresh {l : Line} (h : l.distinct) {i : Fin 8} {f g : Frame} (hf : l.slots[i] = some f) (hk : g.kind = f.kind)
    (he : g.e = f.e) : ({ l with slots := l.slots.set i (some g) } : Line).distinct :=
  distinct_set h i fun j hj => by rw [clash_congr hk he, ← hf]; exact h i j hj

theorem distinct_clearSlot {l : Line} (h : l.distinct) (i : Fin 8) : (l.clearSlot i).distinct :=
  distinct_set h i fun _ _ => rfl

theorem distinct_coalesce {l : Line} (h : l.distinct) (i : Fin 8) : (l.modSlot i Frame.coalesce).distinct := by
  cases hf : l.slots[i] with
  | none => rw [modSlot_none l i hf]; exact distinct_clearSlot h i
  | some f => rw [modSlot_some l i hf]; exact distinct_refresh h hf rfl rfl

/-- No slot holds a frame of a kind for an end. -/
theorem slotOf_eq_none {l : Line} {k : FrameKind} {e : EndNo} (h : l.slotOf k e = none) {i : Fin 8} {f : Frame} (hf : l.slots[i] = some f) :
    ¬(f.kind = k ∧ f.e = e) := by
  have := List.find?_eq_none.mp h i (List.mem_finRange i)
  simpa [hf] using this

/-- A frame takes a slot where it would not have been merged into another (R109). -/
theorem distinct_place {l : Line} (h : l.distinct) (i : Fin 8) {f : Frame} (hf : f.kind.composed = true → l.slotOf f.kind f.e = none) :
    (l.place i f).distinct :=
  distinct_set h i fun j _ => by
    cases hj : l.slots[j] with
    | none => rfl
    | some g =>
      refine Bool.eq_false_iff.mpr fun hc => ?_
      obtain ⟨hc, hk, he⟩ := (clash_some _ _).mp hc
      exact slotOf_eq_none (hf hc) hj ⟨hk.symm, he.symm⟩

/-! ### What an event does to the stores -/

/-- From one line controller to another frames have entered slots, or been merged in them, in order, and what else has changed is the STATUS owed and
the links. -/
structure Line.Trades (l m : Line) : Prop where
  rest : m = { l with slots := m.slots, nextSeq := m.nextSeq, owed := m.owed, link := m.link }
  slots : l.distinct → m.distinct
  numbers : l.numbered → m.numbered

theorem Line.Trades.refl (l : Line) : l.Trades l := ⟨rfl, id, id⟩

theorem Line.Trades.trans {l m n : Line} (h : l.Trades m) (h' : m.Trades n) : l.Trades n :=
  ⟨by rw [h'.rest, h.rest], h'.slots ∘ h.slots, h'.numbers ∘ h.numbers⟩

/-- From one state to another records have arrived at the event queue, and the line controller has traded frames alone. -/
structure State.Orderly (s t : State) : Prop where
  records : ∃ l, Recorded s t l
  line : s.line.Trades t.line

namespace State.Orderly

variable {s t : State}

@[simp] theorem refl (s : State) : s.Orderly s := ⟨⟨[], recorded_refl rfl⟩, .refl _⟩

theorem trans {u : State} (h : s.Orderly t) (h' : t.Orderly u) : s.Orderly u := by
  obtain ⟨l, hl⟩ := h.records
  obtain ⟨m, hm⟩ := h'.records
  exact ⟨⟨l ++ m, recorded_trans hl hm⟩, h.line.trans h'.line⟩

/-- What leaves the event queue and the line alone. -/
theorem same {s t u : State} (h : s.Orderly t) (hp : u.port = t.port) (hl : u.line = t.line) : s.Orderly u :=
  h.trans ⟨⟨[], recorded_refl hp⟩, hl ▸ .refl _⟩

@[simp] theorem foldl {α : Type} (h : s.Orderly t) (l : List α) {f : State → α → State} (hf : ∀ (u : State) a, u.Orderly (f u a)) :
    s.Orderly (l.foldl f t) := by
  induction l generalizing t with
  | nil => exact h
  | cons a l ih => exact ih (h.trans (hf t a))

/-! ### The named updates -/

@[simp] theorem modLoader (h : s.Orderly t) (f) : s.Orderly (t.modLoader f) := h.same rfl rfl
@[simp] theorem modLever (h : s.Orderly t) (i f) : s.Orderly (t.modLever i f) := h.same rfl rfl
@[simp] theorem modEvaluator (h : s.Orderly t) (f) : s.Orderly (t.modEvaluator f) := h.same rfl rfl
@[simp] theorem modTrack (h : s.Orderly t) (f) : s.Orderly (t.modTrack f) := h.same rfl rfl
@[simp] theorem modHead (h : s.Orderly t) (i f) : s.Orderly (t.modHead i f) := h.same rfl rfl
@[simp] theorem modSect (h : s.Orderly t) (c f) : s.Orderly (t.modSect c f) := h.same rfl rfl
@[simp] theorem modCombiner (h : s.Orderly t) (f) : s.Orderly (t.modCombiner f) := h.same rfl rfl
@[simp] theorem modBell (h : s.Orderly t) (e f) : s.Orderly (t.modBell e f) := h.same rfl rfl
@[simp] theorem modBlock (h : s.Orderly t) (e f) : s.Orderly (t.modBlock e f) := h.same rfl rfl
@[simp] theorem modSwitching (h : s.Orderly t) (f) : s.Orderly (t.modSwitching f) := h.same rfl rfl
theorem freeCount (h : s.Orderly t) (n) : s.Orderly { t with freeCount := n } := h.same rfl rfl

theorem modLine (h : s.Orderly t) {f : Line → Line} (hf : t.line.Trades (f t.line)) : s.Orderly (t.modLine f) :=
  h.trans ⟨⟨[], recorded_refl rfl⟩, hf⟩

@[simp] theorem append (h : s.Orderly t) (r : Event) : s.Orderly (t.append r) :=
  h.trans ⟨⟨_, append_recorded t r⟩, by rw [append_line]; exact .refl _⟩

/-! ### The slots (R107, R109 to R112) -/

@[simp] theorem raiseStatus (h : s.Orderly t) (e : EndNo) : s.Orderly (t.raiseStatus e) := by
  have acts : Acts (.ofEnd e) t (t.raiseStatus e) := raiseStatus_acts t ⟨rfl, rfl⟩
  obtain ⟨l, hl, -⟩ := acts.records
  refine h.trans ⟨⟨l, hl⟩, by rw [acts.line.rest], fun hd => ?_, fun hn => raiseStatus_numbered hn e⟩
  unfold State.raiseStatus
  split
  · exact distinct_coalesce hd _
  · split
    · exact distinct_place hd _ fun _ => ‹_›
    · exact hd

@[simp] theorem request (h : s.Orderly t) (k : FrameKind) (e : EndNo) (dest : Nat) (payload : List Byte) :
    s.Orderly (t.request k e dest payload) := by
  have acts : Acts (.asking k e) t (t.request k e dest payload) := request_acts t (by simp [Scope.asking]) dest payload
  obtain ⟨l, hl, -⟩ := acts.records
  refine h.trans ⟨⟨l, hl⟩, by rw [acts.line.rest], fun hd => ?_, fun hn => request_numbered hn k e dest payload⟩
  unfold State.request
  dsimp only
  split
  · exact distinct_coalesce hd _
  · rename_i merged
    have alone : k.composed = true → t.line.slotOf k e = none := fun hk => by rwa [if_pos hk] at merged
    split
    · exact distinct_place hd _ alone
    · split
      · split
        · show Line.distinct _
          intro i j hij
          rw [reportEvicted_slots, State.modLine_line, append_line]
          exact distinct_place hd _ alone i j hij
        · exact hd
      · exact hd

@[simp] theorem serveOwed (h : s.Orderly t) (e : EndNo) : s.Orderly (t.serveOwed e) :=
  by
  have marked : s.Orderly (t.modLine fun l => { l with owed := l.owed.set e false }) := h.modLine ⟨rfl, id, id⟩
  exact marked.raiseStatus e

@[simp] theorem serveFirstOwed (h : s.Orderly t) : s.Orderly t.serveFirstOwed := by
  unfold State.serveFirstOwed
  split <;> simp [h]

/-! ### The evaluator and the combiner (Chapters 2 and 5) -/

@[simp] theorem judgeProposal (h : s.Orderly t) : s.Orderly t.judgeProposal := by
  unfold State.judgeProposal
  split <;> simp [h]

@[simp] theorem evaluate (h : s.Orderly t) (f) : s.Orderly (t.evaluate f) := by
  unfold State.evaluate
  dsimp only
  split <;> simp [h]

@[simp] theorem reportDetection (h : s.Orderly t) (d) : s.Orderly (t.reportDetection d) := by simp [h, State.reportDetection]

@[simp] theorem judgeDetection (h : s.Orderly t) (d) : s.Orderly (t.judgeDetection d) := by
  unfold State.judgeDetection
  dsimp only
  split <;> simp (disch := simp [h])

@[simp] theorem judgeDetections (h : s.Orderly t) (names) : s.Orderly (t.judgeDetections names) :=
  foldl h _ fun u d => by split <;> simp

@[simp] theorem normalForExpiry (h : s.Orderly t) (k) : s.Orderly (t.normalForExpiry k) := by
  unfold State.normalForExpiry
  split <;> simp [h]

@[simp] theorem flasherHalfExpiry (h : s.Orderly t) : s.Orderly t.flasherHalfExpiry := by
  unfold State.flasherHalfExpiry
  split <;> simp [h]

/-! ### A change of an end (section 8.1) -/

@[simp] theorem blockRecord (h : s.Orderly t) (e o c r) : s.Orderly (t.blockRecord e o c r) := by simp [h, State.blockRecord]

@[simp] theorem reportBlock (h : s.Orderly t) (e) : s.Orderly (t.reportBlock e) := by simp [h, State.reportBlock]

@[simp] theorem clearOffer (h : s.Orderly t) (e) : s.Orderly (t.clearOffer e) := h.same rfl rfl

@[simp] theorem flushPlayout (h : s.Orderly t) (e) : s.Orderly (t.flushPlayout e) := h.same rfl rfl

@[simp] theorem reportStateToSwitching (h : s.Orderly t) (e) : s.Orderly (t.reportStateToSwitching e) := by
  unfold State.reportStateToSwitching
  dsimp only
  (repeat' split) <;> simp [h]

@[simp] theorem reportEndChange (h : s.Orderly t) (e old cause) : s.Orderly (t.reportEndChange e old cause) := by
  have told : s.Orderly (((t.blockRecord e old cause 0).reportBlock e).raiseStatus e) := ((h.blockRecord ..).reportBlock _).raiseStatus _
  unfold State.reportEndChange
  dsimp only
  (repeat' split) <;> simp [told]

@[simp] theorem changeEnd (h : s.Orderly t) (e st rel cause) : s.Orderly (t.changeEnd e st rel cause) := by
  unfold State.changeEnd
  split <;> simp [h]

@[simp] theorem starterLeft (h : s.Orderly t) (e) : s.Orderly (t.starterLeft e) := by
  unfold State.starterLeft
  split <;> simp [h]

@[simp] theorem starterReturned (h : s.Orderly t) (e) : s.Orderly (t.starterReturned e) := by
  unfold State.starterReturned
  split <;> simp [h]

@[simp] theorem trainEntry (h : s.Orderly t) (e) : s.Orderly (t.trainEntry e) := by
  unfold State.trainEntry
  split <;> simp [h]

@[simp] theorem suspendRelease (h : s.Orderly t) (e) : s.Orderly (t.suspendRelease e) := by
  unfold State.suspendRelease
  split <;> simp [h]

@[simp] theorem obstruct (h : s.Orderly t) (e) : s.Orderly (t.obstruct e) := by
  unfold State.obstruct
  split <;> simp [h]

@[simp] theorem unobstruct (h : s.Orderly t) (e) : s.Orderly (t.unobstruct e) := by
  unfold State.unobstruct
  split <;> simp [h]

/-! ### Count sections (sections 4.4 to 4.7) -/

@[simp] theorem reportCountToCombiner (h : s.Orderly t) (c) : s.Orderly (t.reportCountToCombiner c) := by simp [h, State.reportCountToCombiner]

@[simp] theorem reportCount (h : s.Orderly t) (c) : s.Orderly (t.reportCount c) := by simp [h, State.reportCount]

@[simp] theorem reportSect (h : s.Orderly t) (s0 c) : s.Orderly (t.reportSect s0 c) := by
  unfold State.reportSect
  dsimp only
  generalize hu : (if s0.sectState c = t.sectState c then t else _) = u
  have told : s.Orderly u := by
    subst hu
    split
    · exact h
    · exact ((h.append _).reportCountToCombiner _).reportCount _
  (repeat' split) <;> simp [told]

@[simp] theorem changeSect (h : s.Orderly t) (c f) : s.Orderly (t.changeSect c f) := by simp [h, State.changeSect]

@[simp] theorem resetRecord (h : s.Orderly t) (s0 c o) : s.Orderly (t.resetRecord s0 c o) := by simp [h, State.resetRecord]

@[simp] theorem takeNet (h : s.Orderly t) (e net b) : s.Orderly (t.takeNet e net b) := by
  unfold State.takeNet
  (repeat' split) <;> simp [h]

@[simp] theorem endPending (h : s.Orderly t) (s0 c o) : s.Orderly (t.endPending s0 c o) := by
  unfold State.endPending
  split <;> simp [h]

@[simp] theorem rePairSect (h : s.Orderly t) (e) : s.Orderly (t.rePairSect e) := by
  unfold State.rePairSect
  split <;> simp [h]

@[simp] theorem sectLinkLost (h : s.Orderly t) (e) : s.Orderly (t.sectLinkLost e) := by
  unfold State.sectLinkLost
  split <;> simp [h]

@[simp] theorem requestUndelivered (h : s.Orderly t) (e n) : s.Orderly (t.requestUndelivered e n) := by
  unfold State.requestUndelivered
  (repeat' split) <;> simp [h]

@[simp] theorem confirmUndelivered (h : s.Orderly t) (e n) : s.Orderly (t.confirmUndelivered e n) := by
  unfold State.confirmUndelivered
  (repeat' split) <;> simp [h]

@[simp] theorem confirmDelivered (h : s.Orderly t) (e n) : s.Orderly (t.confirmDelivered e n) := by
  unfold State.confirmDelivered
  (repeat' split) <;> simp [h]

/-! ### The heads and the reset procedure (Chapter 4) -/

@[simp] theorem moveSects (h : s.Orderly t) (i f) : s.Orderly (t.moveSects i f) := h.same rfl rfl

@[simp] theorem reportSects (h : s.Orderly t) (s0 i) : s.Orderly (t.reportSects s0 i) := h.foldl _ fun u c => by simp

@[simp] theorem queueCount (h : s.Orderly t) (c) : s.Orderly (t.queueCount c) := by
  unfold State.queueCount
  (repeat' split) <;> simp [h]

@[simp] theorem applyWheel (h : s.Orderly t) (i up) : s.Orderly (t.applyWheel i up) := by
  unfold State.applyWheel
  exact foldl (by simp [h]) _ fun u c => by simp

@[simp] theorem headErrorRecord (h : s.Orderly t) (i o n x) : s.Orderly (t.headErrorRecord i o n x) := by simp [h, State.headErrorRecord]

@[simp] theorem disturbSects (h : s.Orderly t) (i) : s.Orderly (t.disturbSects i) := by simp [h, State.disturbSects]

@[simp] theorem takeStep (h : s.Orderly t) (i old new) : s.Orderly (t.takeStep i old new) := by
  unfold State.takeStep
  dsimp only
  split <;> simp (disch := simp [h])

@[simp] theorem headStep (h : s.Orderly t) (i) : s.Orderly (t.headStep i) := by
  unfold State.headStep
  dsimp only
  (repeat' split) <;> simp [h]

@[simp] theorem settleKey (h : s.Orderly t) (c) : s.Orderly (t.settleKey c) := h.same rfl rfl

@[simp] theorem refusePress (h : s.Orderly t) (c o) : s.Orderly (t.refusePress c o) := by simp [h, State.refusePress]

@[simp] theorem startRequest (h : s.Orderly t) (c e) : s.Orderly (t.startRequest c e) := by
  unfold State.startRequest
  (repeat' split) <;> simp (disch := simp [h]) [h]

@[simp] theorem confirmReset (h : s.Orderly t) (c e n o) : s.Orderly (t.confirmReset c e n o) := by simp (disch := simp [h]) [State.confirmReset]

@[simp] theorem confirmHeld (h : s.Orderly t) (c e) : s.Orderly (t.confirmHeld c e) := by
  unfold State.confirmHeld
  (repeat' split) <;> simp [h]

@[simp] theorem pressKey (h : s.Orderly t) (c) : s.Orderly (t.pressKey c) := by
  unfold State.pressKey
  (repeat' split) <;> simp [h]

@[simp] theorem countResetKeyPress (h : s.Orderly t) (c) : s.Orderly (t.countResetKeyPress c) := by
  unfold State.countResetKeyPress
  dsimp only
  (repeat' split) <;> simp [h]

@[simp] theorem requestTaken (h : s.Orderly t) (e) : s.Orderly (t.requestTaken e) := by
  unfold State.requestTaken
  (repeat' split) <;> simp [h]

@[simp] theorem confirmTaken (h : s.Orderly t) (e) : s.Orderly (t.confirmTaken e) := by
  unfold State.confirmTaken
  (repeat' split) <;> simp [h]

@[simp] theorem resetRequestWindowExpiry (h : s.Orderly t) (c) : s.Orderly (t.resetRequestWindowExpiry c) := by
  unfold State.resetRequestWindowExpiry
  split <;> simp [h]

@[simp] theorem heldRequestWindowExpiry (h : s.Orderly t) (c) : s.Orderly (t.heldRequestWindowExpiry c) := by
  unfold State.heldRequestWindowExpiry
  split <;> simp [h]

/-! ### The bells (Chapter 7) -/

@[simp] theorem sendCode (h : s.Orderly t) (e r) : s.Orderly (t.sendCode e r) := by
  unfold State.sendCode
  dsimp only
  (repeat' split) <;> simp [h]

@[simp] theorem formOutbound (h : s.Orderly t) (e r) : s.Orderly (t.formOutbound e r) := by
  unfold State.formOutbound
  dsimp only
  (repeat' split) <;> simp (disch := simp [h])

@[simp] theorem endCode (h : s.Orderly t) (e k p) : s.Orderly (t.endCode e k p) := by simp [h, State.endCode]

@[simp] theorem parseStrike (h : s.Orderly t) (e) : s.Orderly (t.parseStrike e) := by
  unfold State.parseStrike
  dsimp only
  (repeat' split) <;> simp [h]

@[simp] theorem sendBeat (h : s.Orderly t) (e iv held) : s.Orderly (t.sendBeat e iv held) := by
  unfold State.sendBeat
  split <;> simp [h]

@[simp] theorem completeStrike (h : s.Orderly t) (e held) : s.Orderly (t.completeStrike e held) := by
  unfold State.completeStrike
  split <;> simp [h]

@[simp] theorem tapperStrike (h : s.Orderly t) (e) : s.Orderly (t.tapperStrike e) := by
  unfold State.tapperStrike
  (repeat' split) <;> simp (disch := simp [h]) [h, State.settleTapper, State.strike]

@[simp] theorem tapperRelease (h : s.Orderly t) (e) : s.Orderly (t.tapperRelease e) := by
  unfold State.tapperRelease
  dsimp only
  (repeat' split) <;> simp (disch := simp [h]) [h, State.settleTapper]

@[simp] theorem quietTimerExpiry (h : s.Orderly t) (e) : s.Orderly (t.quietTimerExpiry e) := by
  unfold State.quietTimerExpiry
  dsimp only
  (repeat' split) <;> simp [h]

@[simp] theorem heldTimerExpiry (h : s.Orderly t) (e) : s.Orderly (t.heldTimerExpiry e) := by
  unfold State.heldTimerExpiry
  dsimp only
  (repeat' split) <;> simp (disch := simp [h]) [h]

@[simp] theorem codeTimerExpiry (h : s.Orderly t) (e) : s.Orderly (t.codeTimerExpiry e) := by
  unfold State.codeTimerExpiry
  (repeat' split) <;> simp [h]

@[simp] theorem bellInactive (h : s.Orderly t) (e) : s.Orderly (t.bellInactive e) := by
  unfold State.bellInactive
  dsimp only
  split <;> simp [h]

@[simp] theorem actOnCode (h : s.Orderly t) (e k n) : s.Orderly (t.actOnCode e k n) := by
  unfold State.actOnCode
  split <;> simp [h]

@[simp] theorem codeTaken (h : s.Orderly t) (e p) : s.Orderly (t.codeTaken e p) := by
  unfold State.codeTaken
  dsimp only
  split <;> simp (disch := simp [h])

@[simp] theorem beatTaken (h : s.Orderly t) (e p) : s.Orderly (t.beatTaken e p) := by
  unfold State.beatTaken
  (repeat' split) <;> simp [h]

@[simp] theorem beatDue (h : s.Orderly t) (e) : s.Orderly (t.beatDue e) := by
  unfold State.beatDue
  (repeat' split) <;> simp [h]

@[simp] theorem strikeEnd (h : s.Orderly t) (e) : s.Orderly (t.strikeEnd e) := by
  unfold State.strikeEnd
  split <;> simp [h]

@[simp] theorem offerHoldExpiry (h : s.Orderly t) (e) : s.Orderly (t.offerHoldExpiry e) := by
  unfold State.offerHoldExpiry
  split <;> simp [h]

/-! ### Records of the switching controller, and the close of an event (R165, R170, R176) -/

@[simp] theorem switchRecord (h : s.Orderly t) (k d o r c) : s.Orderly (t.switchRecord k d o r c) := by
  unfold State.switchRecord
  dsimp only
  split
  · exact h.append _
  · exact (h.freeCount _).append _

@[simp] theorem requestSwitch (h : s.Orderly t) (k e p) : s.Orderly (t.requestSwitch k e p) := by simp [h, State.requestSwitch]

@[simp] theorem sendAbandon (h : s.Orderly t) (d e b) : s.Orderly (t.sendAbandon d e b) := by
  unfold State.sendAbandon
  split <;> simp [h]

@[simp] theorem abandon (h : s.Orderly t) (cause r k) : s.Orderly (t.abandon cause r k) := by
  unfold State.abandon
  split
  · exact (((h.sendAbandon ..).sendAbandon ..).modSwitching _).switchRecord ..
  · exact h

@[simp] theorem settle (h : s.Orderly t) : s.Orderly t.settle := by
  unfold State.settle
  split <;> simp [h]

/-! ### Links and orders (R113, R159, R174, R179) -/

@[simp] theorem linkRecord (h : s.Orderly t) (e b n) : s.Orderly (t.linkRecord e b n) := by simp [h, State.linkRecord]

@[simp] theorem reportLinkLost (h : s.Orderly t) (e) : s.Orderly (t.reportLinkLost e) :=
  (((h.suspendRelease _).sectLinkLost _).clearOffer _).flushPlayout _

@[simp] theorem setLink (h : s.Orderly t) (e b n) : s.Orderly (t.setLink e b n) := by
  have linked : s.Orderly (t.modLine fun l => { l with link := l.link.set e b }) := 
    h.modLine ⟨rfl, id, id⟩
  unfold State.setLink
  dsimp only
  split <;> simp [linked]

@[simp] theorem judgeLink (h : s.Orderly t) (e m n) : s.Orderly (t.judgeLink e m n) := by
  unfold State.judgeLink
  split <;> simp [h]

@[simp] theorem orderState (h : s.Orderly t) (e st) : s.Orderly (t.orderState e st) := by
  have ordered := (h.modBlock e BlockEnd.ordered).changeEnd e st .none .switching
  unfold State.orderState
  dsimp only
  (repeat' split) <;> simp [ordered]

@[simp] theorem orderPairing (h : s.Orderly t) (e b) : s.Orderly (t.orderPairing e b) := by
  have paired := h.modBlock e fun x => { x.ordered with long := b, outstanding := none, mismatch := false }
  exact ((((paired.changeEnd ..).rePairSect _).flushPlayout _).judgeLink ..).raiseStatus _

@[simp] theorem releaseEnd (h : s.Orderly t) (e) : s.Orderly (t.releaseEnd e) := by
  unfold State.releaseEnd
  split <;> simp [h]

@[simp] theorem setPartState (h : s.Orderly t) (p) : s.Orderly (t.setPartState p) := h.same rfl rfl

@[simp] theorem longAtStart (h : s.Orderly t) (e) : s.Orderly (t.longAtStart e) := by
  unfold State.longAtStart
  split <;> simp [h]

/-! ### The block controller (Chapter 8) -/

@[simp] theorem requestOutstanding (h : s.Orderly t) (e o p) : s.Orderly (t.requestOutstanding e o p) := by
  unfold State.requestOutstanding
  dsimp only
  split <;> simp [h]

@[simp] theorem refuseOperation (h : s.Orderly t) (e c o) : s.Orderly (t.refuseOperation e c o) := by
  simp [h, State.refuseOperation]

@[simp] theorem acceptRefused (h : s.Orderly t) (e n r m) : s.Orderly (t.acceptRefused e n r m) := by simp [h, State.acceptRefused]

@[simp] theorem sendAccept (h : s.Orderly t) (e n) : s.Orderly (t.sendAccept e n) :=
  (((h.requestOutstanding ..).modBlock ..).changeEnd ..).clearOffer _

@[simp] theorem settleSwitch (h : s.Orderly t) (e) : s.Orderly (t.settleSwitch e) := h.same rfl rfl

@[simp] theorem settleTos (h : s.Orderly t) (e) : s.Orderly (t.settleTos e) := h.same rfl rfl

@[simp] theorem settleCancel (h : s.Orderly t) (e) : s.Orderly (t.settleCancel e) := h.same rfl rfl

@[simp] theorem setRefusal (h : s.Orderly t) (e r) : s.Orderly (t.setRefusal e r) := by simp [h, State.setRefusal]

@[simp] theorem clearMismatch (h : s.Orderly t) (e) : s.Orderly (t.clearMismatch e) := h.same rfl rfl

@[simp] theorem markMismatch (h : s.Orderly t) (e f) : s.Orderly (t.markMismatch e f) := by
  unfold State.markMismatch
  split <;> simp [h]

@[simp] theorem judgeAccept (h : s.Orderly t) (e) : s.Orderly (t.judgeAccept e) := by
  unfold State.judgeAccept
  (repeat' split) <;> simp [h]

@[simp] theorem blockSwitchToAccept (h : s.Orderly t) (e) : s.Orderly (t.blockSwitchToAccept e) := by
  unfold State.blockSwitchToAccept
  (repeat' split) <;> simp [h]

@[simp] theorem giveUpAcceptance (h : s.Orderly t) (e c) : s.Orderly (t.giveUpAcceptance e c) := by simp [h, State.giveUpAcceptance]

@[simp] theorem judgeNormal (h : s.Orderly t) (e) : s.Orderly (t.judgeNormal e) := by
  unfold State.judgeNormal
  (repeat' split) <;> simp [h]

@[simp] theorem blockSwitchToNormal (h : s.Orderly t) (e) : s.Orderly (t.blockSwitchToNormal e) := by
  unfold State.blockSwitchToNormal
  (repeat' split) <;> simp [h]

@[simp] theorem acceptanceTimerExpiry (h : s.Orderly t) (e) : s.Orderly (t.acceptanceTimerExpiry e) := by
  unfold State.acceptanceTimerExpiry
  (repeat' split) <;> simp [h]

@[simp] theorem pressTos (h : s.Orderly t) (e) : s.Orderly (t.pressTos e) := by
  unfold State.pressTos
  (repeat' split) <;> simp [h]

@[simp] theorem tosPlungerPress (h : s.Orderly t) (e) : s.Orderly (t.tosPlungerPress e) := by
  unfold State.tosPlungerPress
  (repeat' split) <;> simp [h]

@[simp] theorem cancelEnd (h : s.Orderly t) (e c) : s.Orderly (t.cancelEnd e c) := by simp [h, State.cancelEnd]

@[simp] theorem pressCancel (h : s.Orderly t) (e) : s.Orderly (t.pressCancel e) := by
  unfold State.pressCancel
  (repeat' split) <;> simp [h]

@[simp] theorem cancelPlungerPress (h : s.Orderly t) (e) : s.Orderly (t.cancelPlungerPress e) := by
  unfold State.cancelPlungerPress
  (repeat' split) <;> simp [h]

@[simp] theorem cancellationTimerExpiry (h : s.Orderly t) (e) : s.Orderly (t.cancellationTimerExpiry e) := by
  unfold State.cancellationTimerExpiry
  (repeat' split) <;> simp [h]

@[simp] theorem plungerOrKeyRelease (h : s.Orderly t) (x) : s.Orderly (t.plungerOrKeyRelease x) := by
  unfold State.plungerOrKeyRelease
  (repeat' split) <;> simp [h]

@[simp] theorem refusalMarkExpiry (h : s.Orderly t) (e) : s.Orderly (t.refusalMarkExpiry e) := by
  unfold State.refusalMarkExpiry
  split <;> simp [h]

@[simp] theorem refuseAccept (h : s.Orderly t) (e r n) : s.Orderly (t.refuseAccept e r n) := by
  simp [h, State.refuseAccept]

@[simp] theorem grant (h : s.Orderly t) (e n c) : s.Orderly (t.grant e n c) := by simp [h, State.grant]

@[simp] theorem crossedAccept (h : s.Orderly t) (e m n) : s.Orderly (t.crossedAccept e m n) := by
  unfold State.crossedAccept
  dsimp only
  (repeat' split) <;> simp (disch := simp [h]) [h]

@[simp] theorem acceptTaken (h : s.Orderly t) (e m n) : s.Orderly (t.acceptTaken e m n) := by
  unfold State.acceptTaken
  (repeat' split) <;> simp [h]

@[simp] theorem withdrawTaken (h : s.Orderly t) (e) : s.Orderly (t.withdrawTaken e) := by
  unfold State.withdrawTaken
  (repeat' split) <;> simp [h]

@[simp] theorem tosTaken (h : s.Orderly t) (e) : s.Orderly (t.tosTaken e) := by
  unfold State.tosTaken
  split <;> simp [h]

@[simp] theorem cancelTaken (h : s.Orderly t) (e) : s.Orderly (t.cancelTaken e) := by
  unfold State.cancelTaken
  split <;> simp [h]

@[simp] theorem actOnStatus (h : s.Orderly t) (e f) : s.Orderly (t.actOnStatus e f) := by
  unfold State.actOnStatus
  (repeat' split) <;> simp [h]

@[simp] theorem compareStatus (h : s.Orderly t) (e f) : s.Orderly (t.compareStatus e f) := by
  unfold State.compareStatus
  dsimp only
  (repeat' split) <;> simp [h]

@[simp] theorem answerAccepting (h : s.Orderly t) (e f) : s.Orderly (t.answerAccepting e f) := by
  unfold State.answerAccepting
  (repeat' split) <;> simp [h]

@[simp] theorem adoptStatus (h : s.Orderly t) (e f) : s.Orderly (t.adoptStatus e f) := by
  unfold State.adoptStatus
  (repeat' split) <;> simp [h]

@[simp] theorem statusTaken (h : s.Orderly t) (e f) : s.Orderly (t.statusTaken e f) := by
  unfold State.statusTaken
  split <;> simp [h]

@[simp] theorem clearOutstanding (h : s.Orderly t) (e n) : s.Orderly (t.clearOutstanding e n) := by
  unfold State.clearOutstanding
  split <;> simp [h]

@[simp] theorem blockDelivered (h : s.Orderly t) (e n) : s.Orderly (t.blockDelivered e n) := by
  unfold State.blockDelivered
  dsimp only
  split <;> simp [h]

@[simp] theorem blockUndelivered (h : s.Orderly t) (e n) : s.Orderly (t.blockUndelivered e n) := by
  unfold State.blockUndelivered
  dsimp only
  split <;> simp [h]

/-! ### The switching controller (Chapter 9) -/

@[simp] theorem refuseLocally (h : s.Orderly t) (d r k) : s.Orderly (t.refuseLocally d r k) := by simp [h, State.refuseLocally]

@[simp] theorem formProposal (h : s.Orderly t) (d) : s.Orderly (t.formProposal d) := by simp [h, State.formProposal]

@[simp] theorem markCommit (h : s.Orderly t) (b m) : s.Orderly (t.markCommit b m) := h.same rfl rfl

@[simp] theorem markAgreed (h : s.Orderly t) (e) : s.Orderly (t.markAgreed e) := h.same rfl rfl

@[simp] theorem formHold (h : s.Orderly t) (e d n) : s.Orderly (t.formHold e d n) :=
  (((h.requestSwitch ..).modSwitching _).switchRecord ..).orderState ..

@[simp] theorem dropHold (h : s.Orderly t) : s.Orderly t.dropHold := h.same rfl rfl

@[simp] theorem settleSwitchKey (h : s.Orderly t) : s.Orderly t.settleSwitchKey := h.same rfl rfl

@[simp] theorem sendProposals (h : s.Orderly t) (d) : s.Orderly (t.sendProposals d) := by
  unfold State.sendProposals
  dsimp only
  (repeat' split) <;> simp (disch := simp [h])

@[simp] theorem proposeOut (h : s.Orderly t) : s.Orderly t.proposeOut := by
  unfold State.proposeOut
  split <;> simp [h]

@[simp] theorem proposeIn (h : s.Orderly t) : s.Orderly t.proposeIn := by
  unfold State.proposeIn
  split <;> simp [h]

@[simp] theorem orderBoth (h : s.Orderly t) (st) : s.Orderly (t.orderBoth st) := by simp [h, State.orderBoth]

@[simp] theorem rePairBoth (h : s.Orderly t) : s.Orderly t.rePairBoth := by simp [h, State.rePairBoth]

@[simp] theorem enterOut (h : s.Orderly t) (o k) : s.Orderly (t.enterOut o k) :=
  ((((h.modSwitching _).switchRecord ..).setPartState _).orderBoth _).rePairBoth

@[simp] theorem returnIn (h : s.Orderly t) (o k) : s.Orderly (t.returnIn o k) :=
  ((((h.modSwitching _).switchRecord ..).orderBoth _).rePairBoth).setPartState _

@[simp] theorem completeCommit (h : s.Orderly t) (d) : s.Orderly (t.completeCommit d) := by
  cases d <;> simp [h, State.completeCommit]

@[simp] theorem sendCommits (h : s.Orderly t) (d) : s.Orderly (t.sendCommits d) := by
  unfold State.sendCommits
  dsimp only
  split
  · exact h.abandon ..
  · have first := (h.requestSwitch .switchCommit t.first (t.neighbourPayload d)).markCommit true (.queued ‹_›)
    split
    · exact first.abandon ..
    · exact (first.requestSwitch ..).markCommit ..

@[simp] theorem judgeDrain (h : s.Orderly t) : s.Orderly t.judgeDrain := by
  unfold State.judgeDrain
  (repeat' split) <;> simp [h]

@[simp] theorem agreeTaken (h : s.Orderly t) (e d n) : s.Orderly (t.agreeTaken e d n) := by
  unfold State.agreeTaken
  (repeat' split) <;> simp [h]

@[simp] theorem refuseTaken (h : s.Orderly t) (e d m n) : s.Orderly (t.refuseTaken e d m n) := by
  unfold State.refuseTaken
  split <;> simp [h]

@[simp] theorem proposeTaken (h : s.Orderly t) (e d n p) : s.Orderly (t.proposeTaken e d n p) := by
  unfold State.proposeTaken
  (repeat' split) <;> simp [h]

@[simp] theorem commitTaken (h : s.Orderly t) (e d n) : s.Orderly (t.commitTaken e d n) := by
  unfold State.commitTaken
  split
  · exact ((h.dropHold.switchRecord ..).orderPairing ..).releaseEnd _
  · exact h.switchRecord ..

@[simp] theorem abandonTaken (h : s.Orderly t) (e d n) : s.Orderly (t.abandonTaken e d n) := by
  unfold State.abandonTaken
  (repeat' split) <;> simp (disch := simp [h])

@[simp] theorem actOnSwitching (h : s.Orderly t) (e d f) : s.Orderly (t.actOnSwitching e d f) := by
  unfold State.actOnSwitching
  split <;> simp [h]

@[simp] theorem strayDirection (h : s.Orderly t) (e n f) : s.Orderly (t.strayDirection e n f) := by
  unfold State.strayDirection
  split <;> simp [h]

@[simp] theorem switchingTaken (h : s.Orderly t) (f) : s.Orderly (t.switchingTaken f) := by
  unfold State.switchingTaken
  (repeat' split) <;> simp [h]

@[simp] theorem revertFarDirect (h : s.Orderly t) (f) : s.Orderly (t.revertFarDirect f) := by
  unfold State.revertFarDirect
  (repeat' split)
  · exact ((h.freeCount _).switchRecord ..).orderPairing ..
  · exact h
  · exact h

@[simp] theorem recordOverheard (h : s.Orderly t) (f) : s.Orderly (t.recordOverheard f) := by
  unfold State.recordOverheard
  dsimp only
  (repeat' split) <;> simp [h]

@[simp] theorem overhearOut (h : s.Orderly t) (f b) : s.Orderly (t.overhearOut f b) := by
  unfold State.overhearOut
  (repeat' split) <;> simp [h]

@[simp] theorem overhearAtStart (h : s.Orderly t) (f) : s.Orderly (t.overhearAtStart f) := by
  unfold State.overhearAtStart
  (repeat' split) <;> simp [h]

@[simp] theorem statusOverheard (h : s.Orderly t) (f b) : s.Orderly (t.statusOverheard f b) := by
  unfold State.statusOverheard
  dsimp only
  (repeat' split) <;> simp [h]

@[simp] theorem overhear (h : s.Orderly t) (f b) : s.Orderly (t.overhear f b) := by
  unfold State.overhear
  split <;> simp [h]

@[simp] theorem commitDelivered (h : s.Orderly t) (n) : s.Orderly (t.commitDelivered n) := by
  unfold State.commitDelivered
  dsimp only
  (repeat' split) <;> simp [h]

@[simp] theorem commitUndelivered (h : s.Orderly t) (e n) : s.Orderly (t.commitUndelivered e n) := by
  unfold State.commitUndelivered
  split <;> simp [h]

@[simp] theorem moveKey (h : s.Orderly t) (k) : s.Orderly (t.moveKey k) := by
  unfold State.moveKey
  split <;> simp [h]

@[simp] theorem proveKey (h : s.Orderly t) : s.Orderly t.proveKey := by
  unfold State.proveKey
  (repeat' split) <;> simp [h]

@[simp] theorem switchKeyMovement (h : s.Orderly t) : s.Orderly t.switchKeyMovement := by
  unfold State.switchKeyMovement
  (repeat' split) <;> simp [h]

@[simp] theorem judgeKeyAtStart (h : s.Orderly t) : s.Orderly t.judgeKeyAtStart := by
  unfold State.judgeKeyAtStart
  split <;> simp [h]

@[simp] theorem agreementLimitExpiry (h : s.Orderly t) : s.Orderly t.agreementLimitExpiry := by
  unfold State.agreementLimitExpiry
  split <;> simp [h]

@[simp] theorem holdTimerExpiry (h : s.Orderly t) : s.Orderly t.holdTimerExpiry := by
  unfold State.holdTimerExpiry
  (repeat' split) <;> simp (disch := simp [h]) [h]

/-! ### The levers (Chapter 1) -/

@[simp] theorem driveLever (h : s.Orderly t) (i) : s.Orderly (t.driveLever i) := by simp [h, State.driveLever]

@[simp] theorem leverRecord (h : s.Orderly t) (i old n) : s.Orderly (t.leverRecord i old n) := by
  unfold State.leverRecord
  dsimp only
  split <;> simp [h]

@[simp] theorem starterReport (h : s.Orderly t) (i old) : s.Orderly (t.starterReport i old) := by
  unfold State.starterReport
  (repeat' split) <;> simp [h]

@[simp] theorem reportPosition (h : s.Orderly t) (i) : s.Orderly (t.reportPosition i) := by simp [h, State.reportPosition]

@[simp] theorem settleContacts (h : s.Orderly t) (i) : s.Orderly (t.settleContacts i) := h.same rfl rfl

@[simp] theorem changePosition (h : s.Orderly t) (i p cause) : s.Orderly (t.changePosition i p cause) :=
  ((((h.modLever ..).driveLever _).leverRecord ..).starterReport ..).reportPosition _

@[simp] theorem lockDecisionArrival (h : s.Orderly t) (i k) : s.Orderly (t.lockDecisionArrival i k) := by
  unfold State.lockDecisionArrival
  split <;> simp (disch := simp [h]) [h]

@[simp] theorem takeWithdrawal (h : s.Orderly t) (i) : s.Orderly (t.takeWithdrawal i) := by
  unfold State.takeWithdrawal
  split
  · exact h.foldl _ fun u _ => by simp
  · exact h

@[simp] theorem meetPosition (h : s.Orderly t) (i p) : s.Orderly (t.meetPosition i p) := by
  unfold State.meetPosition
  dsimp only
  (repeat' split) <;> simp [h]

@[simp] theorem provingContactChange (h : s.Orderly t) (i) : s.Orderly (t.provingContactChange i) := by
  unfold State.provingContactChange
  dsimp only
  (repeat' split) <;> simp [h]

@[simp] theorem transitLimitExpiry (h : s.Orderly t) (i) : s.Orderly (t.transitLimitExpiry i) := by
  unfold State.transitLimitExpiry
  split <;> simp [h]

@[simp] theorem readbackChange (h : s.Orderly t) (i made) : s.Orderly (t.readbackChange i made) := h.same rfl rfl

@[simp] theorem readbackMismatchExpiry (h : s.Orderly t) (i) : s.Orderly (t.readbackMismatchExpiry i) := by
  unfold State.readbackMismatchExpiry
  split <;> simp [h]

@[simp] theorem firstPosition (h : s.Orderly t) (i) : s.Orderly (t.firstPosition i) := by
  unfold State.firstPosition
  dsimp only
  (repeat' split) <;> simp (disch := simp [h])

/-! ### The track circuits (Chapter 3) -/

@[simp] theorem reportChannel (h : s.Orderly t) (c) : s.Orderly (t.reportChannel c) := by simp [h, State.reportChannel]

@[simp] theorem recordInterference (h : s.Orderly t) (c x) : s.Orderly (t.recordInterference c x) := by
  unfold State.recordInterference
  dsimp only
  split <;> simp [h]

@[simp] theorem recordMargin (h : s.Orderly t) (c x) : s.Orderly (t.recordMargin c x) := by
  unfold State.recordMargin
  dsimp only
  split <;> simp [h]

@[simp] theorem changeChannel (h : s.Orderly t) (c f) : s.Orderly (t.changeChannel c f) := by
  have told := ((h.modTrack fun x => { x with channels := upd x.channels c f }).recordInterference c t.track.channels[c]).recordMargin c
    t.track.channels[c]
  unfold State.changeChannel
  dsimp only
  split
  · exact told
  · exact told.reportChannel c

@[simp] theorem sampleChannel (h : s.Orderly t) (number c) : s.Orderly (t.sampleChannel number c) := by
  unfold State.sampleChannel
  dsimp only
  (repeat' split) <;> simp [h]

@[simp] theorem halfPeriodBoundary (h : s.Orderly t) (sense) : s.Orderly (t.halfPeriodBoundary sense) := by
  unfold State.halfPeriodBoundary
  split
  · exact modTrack (modTrack (foldl (h.modTrack _) _ fun u c => by simp) _) _
  · exact h

@[simp] theorem minOccupiedExpiry (h : s.Orderly t) (c) : s.Orderly (t.minOccupiedExpiry c) := by
  unfold State.minOccupiedExpiry
  split <;> simp [h]

/-! ### The delivery of a frame taken (R104, R113) -/

@[simp] theorem deliverStatus (h : s.Orderly t) (e f) : s.Orderly (t.deliverStatus e f) := by simp [h, State.deliverStatus]

@[simp] theorem deliver (h : s.Orderly t) (e f) : s.Orderly (t.deliver e f) := by
  unfold State.deliver
  split <;> simp [h]

@[simp] theorem deliverMapped (h : s.Orderly t) (f) : s.Orderly (t.deliverMapped f).1 := by
  unfold State.deliverMapped
  (repeat' split) <;> simp [h]

end State.Orderly

end Sys2Proof.Machine
end

section
/-! PROOFS. The bounded stores under every command (R107, R195, R196), and the settlement of O57. -/

namespace Sys2Proof.Machine

/-! ### The bound of the event queue (R195) -/

/-- A queue of at most 64 records, the 64th an overflow record, which stands only as the last. -/
def Bounded (q : List Event) : Prop :=
  (q.length ≤ 63 ∨ (q.length = 64 ∧ (q.getLast?.map (·.kind)) = some .queueOverflow)) ∧ ∀ r ∈ q.dropLast, r.kind ≠ .queueOverflow

theorem arrive_ne_nil (r : Event) (q : List Event) : arrive r q ≠ [] := by
  unfold arrive
  (repeat' split) <;> simp

/-- A record at the end of a queue that has no overflow record. -/
theorem bounded_append {q : List Event} {r : Event} (hq : ∀ x ∈ q, x.kind ≠ .queueOverflow)
    (hr : q.length ≤ 62 ∨ (q.length = 63 ∧ r.kind = .queueOverflow)) : Bounded (q ++ [r]) := by
  refine ⟨?_, by simpa using hq⟩
  rcases hr with hl | ⟨hl, hk⟩
  · exact .inl (by simp; omega)
  · exact .inr (by simp [hl, hk])

theorem bounded_arrive {q : List Event} (h : Bounded q) (r : Event) : Bounded (arrive r q) := by
  rcases q.eq_nil_or_concat with rfl | ⟨p, l, rfl⟩
  · exact bounded_append (q := []) (by simp) (.inl (by simp))
  obtain ⟨hlen, hrest⟩ := h
  simp only [List.concat_eq_append, List.length_append, List.length_singleton, List.dropLast_concat, List.getLast?_concat, Option.map_some,
    Option.some.injEq] at hlen hrest
  simp only [arrive, List.concat_eq_append, List.getLast?_concat, List.dropLast_concat, List.length_append, List.length_singleton]
  split
  · rename_i hk
    have same : l.discardOne.kind = .queueOverflow := hk
    exact bounded_append hrest (by simp only [same, and_true]; omega)
  · rename_i hk
    have all : ∀ x ∈ p ++ [l], x.kind ≠ .queueOverflow := by simpa [or_imp, forall_and] using ⟨hrest, hk⟩
    split
    · exact bounded_append all (.inr ⟨by simp [hk] at hlen ⊢; omega, rfl⟩)
    · exact bounded_append all (.inl (by simp; omega))

theorem bounded_tail {q : List Event} (h : Bounded q) : Bounded q.tail := by
  cases q with
  | nil => exact h
  | cons x q =>
    obtain ⟨hlen, hrest⟩ := h
    refine ⟨.inl ?_, fun r hr => hrest r ?_⟩
    · simp at hlen ⊢; omega
    · cases q with
      | nil => simp at hr
      | cons y q => exact List.mem_cons_of_mem x hr

theorem queueLaw_iff (s : State) : QueueLaw s ↔ Bounded s.port.queue ∧ ∀ b, s.port.transaction = .take b true → s.port.queue ≠ [] :=
  and_assoc.symm

theorem foldl_arrive {q : List Event} (l : List Event) (h : Bounded q) :
    Bounded (l.foldl (fun q r => arrive r q) q) ∧ (q ≠ [] → l.foldl (fun q r => arrive r q) q ≠ []) := by
  induction l generalizing q with
  | nil => exact ⟨h, id⟩
  | cons r l ih => exact ⟨(ih (bounded_arrive h r)).1, fun _ => (ih (bounded_arrive h r)).2 (arrive_ne_nil r q)⟩

theorem queueLaw_of_recorded {s t : State} {l : List Event} (h : Recorded s t l) (hs : QueueLaw s) : QueueLaw t := by
  rw [queueLaw_iff] at hs ⊢
  obtain ⟨bounded, held⟩ := hs
  unfold Recorded at h
  rw [h]
  exact ⟨(foldl_arrive l bounded).1, fun b hb => (foldl_arrive l bounded).2 (held b hb)⟩

/-! ### What every command keeps -/

/-- From one state to another the laws of the bounded stores are kept. -/
structure State.KeepsStores (s t : State) : Prop where
  queue : QueueLaw s → QueueLaw t
  slots : s.line.distinct → t.line.distinct
  numbers : s.line.numbered → t.line.numbered

theorem State.Orderly.keepsStores {s t : State} (h : s.Orderly t) : s.KeepsStores t :=
  ⟨fun hs => h.records.elim fun _ hl => queueLaw_of_recorded hl hs, h.line.slots, h.line.numbers⟩

namespace State.KeepsStores

variable {s t u : State} {i : Fin 8} {f g : Frame}

theorem refl (s : State) : s.KeepsStores s := ⟨id, id, id⟩

theorem trans (h : s.KeepsStores t) (h' : t.KeepsStores u) : s.KeepsStores u :=
  ⟨h'.queue ∘ h.queue, h'.slots ∘ h.slots, h'.numbers ∘ h.numbers⟩

theorem orderly (h : s.KeepsStores t) (h' : t.Orderly u) : s.KeepsStores u := h.trans h'.keepsStores

theorem queueLaw_congr (h : t.port = s.port) (hs : QueueLaw s) : QueueLaw t := by
  unfold QueueLaw at *
  rwa [h]

/-- What touches neither the event queue nor the slots. -/
theorem of_slots_eq (hp : t.port = s.port) (hs : t.line.slots = s.line.slots) (hn : t.line.nextSeq = s.line.nextSeq) : s.KeepsStores t :=
  ⟨queueLaw_congr hp, fun h i j hij => by rw [hs]; exact h i j hij, fun h i x hx => by
    rw [hs] at hx
    rw [hn, hs]
    exact h i x hx⟩

/-- A frame changes in its slot, and stays of its kind, its end and its age. -/
theorem of_refresh (hp : t.port = s.port) (hf : s.line.slots[i] = some f) (hs : t.line.slots = s.line.slots.set i (some g))
    (hn : t.line.nextSeq = s.line.nextSeq) (hk : g.kind = f.kind) (he : g.e = f.e) (hq : g.seq = f.seq) : s.KeepsStores t :=
  (show s.KeepsStores (s.modLine fun l => { l with slots := l.slots.set i (some g) }) from
    ⟨id, fun h => distinct_refresh h hf hk he, fun h => numbered_set h i hf hq⟩).trans (of_slots_eq hp hs hn)

/-- A slot is emptied. -/
theorem clearSlot (s : State) (i : Fin 8) : s.KeepsStores (s.modLine fun l => l.clearSlot i) :=
  ⟨id, fun h => distinct_clearSlot h i, fun h => numbered_clearSlot h i⟩

end State.KeepsStores

theorem frameStart_keepsStores (s : State) : s.KeepsStores s.frameStart := by
  unfold State.frameStart
  split
  · split
    · rename_i i _ _ f hf
      refine .of_refresh (i := i) (g := s.composeFrame f) rfl hf ?_ ?_ rfl rfl rfl
      · simp only [State.beginFrame, State.modLine]
      · cases hk : f.kind <;> simp [State.beginFrame, Line.restartRefresh, hk]
    · exact .refl s
  · exact .refl s

theorem onAir_slot {s : State} {i : Fin 8} {f : Frame} (h : s.onAir = some (i, f)) : s.line.slots[i] = some f := by
  unfold State.onAir at h
  split at h
  · split at h
    · cases h; assumption
    · cases h
  · cases h

theorem offLine_keeps (f : Frame) : f.offLine.kind = f.kind ∧ f.offLine.e = f.e ∧ f.offLine.seq = f.seq := by
  unfold Frame.offLine
  split <;> exact ⟨rfl, rfl, rfl⟩

theorem contentionLost_keepsStores (s : State) : s.KeepsStores s.contentionLost := by
  unfold State.contentionLost
  split
  · rename_i x i f _ onAir
    split
    · obtain ⟨hk, he, hq⟩ := offLine_keeps f
      refine .of_refresh (i := i) rfl (onAir_slot onAir) rfl ?_ hk he hq
      cases hf : f.kind <;> simp [Line.restoreRefresh, hf]
    · exact .refl s
  · exact .refl s

section
variable {s : State} {i : Fin 8} {f : Frame}

theorem reportDelivered_orderly (s : State) (f : Frame) : s.Orderly (s.reportDelivered f) := by
  unfold State.reportDelivered
  split <;> simp

theorem reportDropped_orderly (s : State) (f : Frame) : s.Orderly (s.reportDropped f) := by
  unfold State.reportDropped
  split <;> simp

theorem slotEmptied_orderly (s : State) : s.Orderly s.slotEmptied := by simp [State.slotEmptied]

theorem dropFrame_keepsStores (s : State) (i : Fin 8) (f : Frame) : s.KeepsStores (s.dropFrame i f) := by
  unfold State.dropFrame
  dsimp only
  refine State.KeepsStores.orderly (.orderly (.trans ?_ (.clearSlot _ i)) (reportDropped_orderly _ f)) (slotEmptied_orderly _)
  split
  · exact .refl s
  · exact (State.Orderly.append (.refl s) _).keepsStores

theorem failAttempt_keepsStores (hf : s.line.slots[i] = some f) (cause : AttemptFailure) : s.KeepsStores (s.failAttempt i f cause) := by
  unfold State.failAttempt
  dsimp only
  split
  · obtain ⟨hk, he, hq⟩ := offLine_keeps f
    exact .of_refresh rfl hf rfl rfl hk he hq
  · split
    · obtain ⟨hk, he, hq⟩ := offLine_keeps { f with attempts := f.attempts + 1, failure := cause }
      exact .of_refresh rfl hf rfl rfl hk he hq
    · exact dropFrame_keepsStores ..

theorem deliverAttempt_keepsStores (hf : s.line.slots[i] = some f) : s.KeepsStores (s.deliverAttempt i f) := by
  unfold State.deliverAttempt
  split
  · obtain ⟨hk, he, hq⟩ := offLine_keeps f
    refine .orderly ?_ (reportDelivered_orderly _ f)
    exact .of_refresh rfl hf rfl rfl hk he hq
  · exact ((State.KeepsStores.clearSlot s i).orderly (reportDelivered_orderly ..)).orderly (slotEmptied_orderly _)

end

theorem lineError_keepsStores (s : State) : s.KeepsStores s.lineError := by
  unfold State.lineError
  split
  · rename_i onAir
    split
    · refine .trans ?_ (failAttempt_keepsStores ?_ _)
      · exact .of_slots_eq rfl rfl rfl
      · show s.line.slots[_] = _
        exact onAir_slot onAir
    · exact .refl s
  · exact .refl s

theorem endAttempt_slots (l : Line) (now : Time) : (l.endAttempt now).slots = l.slots ∧ (l.endAttempt now).nextSeq = l.nextSeq := by
  unfold Line.endAttempt
  split <;> exact ⟨rfl, rfl⟩

theorem attemptEnd_keepsStores (s : State) (slot : Option Byte) : s.KeepsStores (s.attemptEnd slot) := by
  unfold State.attemptEnd
  split
  · rename_i i f onAir
    split
    · obtain ⟨slots, nextSeq⟩ := endAttempt_slots s.line s.now
      have ended : s.KeepsStores (s.modLine (Line.endAttempt · s.now)) := .of_slots_eq rfl slots nextSeq
      have held : (s.modLine (Line.endAttempt · s.now)).line.slots[i] = some f := by
        rw [State.modLine_line, slots]
        exact onAir_slot onAir
      dsimp only
      split
      · exact ended.trans (deliverAttempt_keepsStores held)
      · exact ended.trans (failAttempt_keepsStores held _)
    · exact .refl s
  · exact .refl s

theorem frameBrokenOff_keepsStores (s : State) : s.KeepsStores s.frameBrokenOff := by
  unfold State.frameBrokenOff
  split
  · exact .of_slots_eq rfl rfl rfl
  · exact .refl s

theorem startBitSeen_keepsStores (s : State) : s.KeepsStores s.startBitSeen := by
  unfold State.startBitSeen
  (repeat' split) <;> exact .of_slots_eq rfl rfl rfl

theorem acknowledgeDecision_keepsStores (s : State) (chars : List Byte) : s.KeepsStores (s.acknowledgeDecision chars) := by
  unfold State.acknowledgeDecision
  (repeat' split) <;> exact .of_slots_eq rfl rfl rfl

/-- The links of the ends that an identity bears on are judged, and nothing else of the stores is touched (R104, R113). -/
theorem foldl_judgeLink_orderly (s : State) (p : State → EndNo → Bool) (m n : Nat) :
    s.Orderly (ends.foldl (fun s e => if p s e then s.judgeLink e m n else s) s) :=
  (State.Orderly.refl s).foldl _ fun u e => by split <;> simp

theorem hear_keepsStores (s : State) (f : RxFrame) : s.KeepsStores (s.hear f) := by
  unfold State.hear
  refine .orderly ?_ (foldl_judgeLink_orderly _ _ _ _)
  exact .of_slots_eq rfl rfl rfl

theorem frameTaking_keepsStores (s : State) : s.KeepsStores s.frameTaking := by
  unfold State.frameTaking
  split
  · split
    · have ended : s.KeepsStores (s.modLine fun l => l.endFrame s.now) := .of_slots_eq rfl rfl rfl
      dsimp only
      split
      · exact ended.orderly (by simp [State.duplicateIdentity])
      · unfold State.take
        refine ended.trans (.orderly (.trans ?_ (hear_keepsStores _ _)) (.overhear (.deliverMapped (.refl _) _) _ _))
        exact .of_slots_eq rfl rfl rfl
    all_goals exact .of_slots_eq rfl rfl rfl
  · exact .refl s

theorem statusRefreshExpiry_keepsStores (s : State) (e : EndNo) : s.KeepsStores (s.statusRefreshExpiry e) := by
  unfold State.statusRefreshExpiry
  split
  · refine .orderly ?_ (.raiseStatus (.refl _) e)
    exact .of_slots_eq rfl rfl rfl
  · exact .refl s

theorem lastHeardExpiry_keepsStores (s : State) (id : Fin 16) : s.KeepsStores (s.lastHeardExpiry id) := by
  unfold State.lastHeardExpiry
  split
  · refine .orderly ?_ (foldl_judgeLink_orderly _ _ _ _)
    exact .of_slots_eq rfl rfl rfl
  · exact .refl s

theorem listeningPeriodEnd_keepsStores (s : State) : s.KeepsStores s.listeningPeriodEnd := by
  unfold State.listeningPeriodEnd
  split
  · refine .orderly (.of_slots_eq (t := s.modLine fun l => { l with listenUntil := none }) rfl rfl rfl) (.judgeKeyAtStart ?_)
    exact (State.Orderly.refl _).foldl _ fun u e => by split <;> simp
  · exact .refl s

/-! ### The entry into RUNNING (R186) -/

theorem handImage_orderly (s : State) (g : Image) : s.Orderly (s.handImage g).partStarted :=
  .append (.modLoader (.same (.refl s) (u := { s with cfg := g }) rfl rfl) _) _

theorem startScanner_orderly (s : State) : s.Orderly s.startScanner := (State.Orderly.refl s).foldl _ fun _ _ => by simp

theorem startEvaluator_orderly (s : State) : s.Orderly s.startEvaluator := (State.Orderly.refl s).evaluate _

/-- The start actions of Chapters 3 to 5 touch their own blocks alone. -/
theorem startCombiner_orderly (s : State) : s.Orderly s.startTrack.startHeads.startCombiner := (State.Orderly.refl s).same rfl rfl

/-- Those of Chapters 7 to 9 too. -/
theorem startSwitching_orderly (s : State) : s.Orderly s.startBells.startBlocks.startSwitching := by
  unfold State.startSwitching
  split <;> exact (State.Orderly.refl s).same rfl rfl

theorem startLine_keepsStores (s : State) : s.KeepsStores s.startLine := .of_slots_eq rfl rfl rfl

theorem enterRunning_keepsStores (s : State) (g : Image) : s.KeepsStores (s.enterRunning g) := by
  have started := ((handImage_orderly s g).trans (startScanner_orderly _)).trans (startEvaluator_orderly _)
  exact ((started.trans (startCombiner_orderly _)).keepsStores.trans (startLine_keepsStores _)).orderly (startSwitching_orderly _)

theorem imageReadComplete_keepsStores (s : State) (rest : List Byte) : s.KeepsStores (s.imageReadComplete rest) := by
  unfold State.imageReadComplete
  split
  · split
    · unfold State.takeImage
      dsimp only
      split
      · exact .of_slots_eq rfl rfl rfl
      · refine .trans ?_ (enterRunning_keepsStores _ _)
        exact .of_slots_eq rfl rfl rfl
    · exact .refl s
  · exact .refl s

/-! ### The loader and the maintenance port (Chapters 10 and 11) -/

section
variable {s t : State}

theorem readAttemptFailed_orderly (s : State) : s.Orderly s.readAttemptFailed := by
  unfold State.readAttemptFailed State.configFault
  dsimp only
  (repeat' split) <;> simp

theorem readRetryExpiry_orderly (s : State) : s.Orderly s.readRetryExpiry := by
  unfold State.readRetryExpiry
  split <;> simp

theorem headerReadComplete_orderly (s : State) (header : List Byte) : s.Orderly (s.headerReadComplete header) := by
  unfold State.headerReadComplete State.configFault
  (repeat' split) <;> simp

theorem rawInputChange_orderly (s : State) (x : FieldInput) (level : Bool) : s.Orderly (s.rawInputChange x level) := by
  cases x <;> exact (State.Orderly.refl s).same rfl rfl

/-- The port goes on with a transaction that is to remove no record. -/
theorem keepsStores_of_transaction (hl : t.line = s.line) (hq : t.port.queue = s.port.queue)
    (ht : ∀ b, t.port.transaction = .take b true → s.port.queue ≠ []) : s.KeepsStores t :=
  ⟨fun h => by
    rw [queueLaw_iff] at h ⊢
    rw [hq]
    exact ⟨h.1, ht⟩, fun h => hl ▸ h, fun h => hl ▸ h⟩

theorem statusCommand_keepsStores (s : State) : s.KeepsStores s.statusCommand := by
  unfold State.statusCommand
  split
  · exact keepsStores_of_transaction rfl rfl nofun
  · exact .refl s

theorem snapshot_keepsStores (s : State) : s.KeepsStores (s.snapshot.oweStatus 0) := by
  unfold State.snapshot
  split <;> exact keepsStores_of_transaction rfl rfl nofun

theorem snapshotCommand_keepsStores (s : State) : s.KeepsStores s.snapshotCommand := by
  unfold State.snapshotCommand
  split
  · exact snapshot_keepsStores s
  · exact .refl s

theorem readCommand_keepsStores (s : State) (area : Byte) (start : BitVec 16) : s.KeepsStores (s.readCommand area start) := by
  unfold State.readCommand
  split
  · exact keepsStores_of_transaction rfl rfl nofun
  · exact .refl s

theorem takeCommand_keepsStores (s : State) : s.KeepsStores s.takeCommand := by
  unfold State.takeCommand
  split
  · split
    · rename_i hq
      exact keepsStores_of_transaction rfl rfl fun _ _ => by simp [hq]
    · exact keepsStores_of_transaction rfl rfl nofun
  · exact .refl s

theorem unknownCommand_keepsStores (s : State) (code : Byte) : s.KeepsStores (s.unknownCommand code) := by
  unfold State.unknownCommand
  split
  · exact keepsStores_of_transaction rfl rfl nofun
  · exact .refl s

theorem snapshotCompletion_keepsStores (s : State) : s.KeepsStores s.snapshotCompletion := by
  unfold State.snapshotCompletion
  split
  · exact ⟨fun h => h, fun h => h, fun h => h⟩
  · exact .refl s

theorem takeRecordRemoved_keepsStores (s : State) : s.KeepsStores s.takeRecordRemoved := by
  unfold State.takeRecordRemoved
  split
  · exact ⟨fun h => (queueLaw_iff _).mpr ⟨bounded_tail ((queueLaw_iff s).mp h).1, nofun⟩, id, id⟩
  all_goals exact .refl s

theorem selectDeasserted_keepsStores (s : State) : s.KeepsStores s.selectDeasserted := keepsStores_of_transaction rfl rfl nofun

theorem formReply_keepsStores (s : State) : s.KeepsStores s.formReply := by
  unfold State.formReply
  split
  · exact keepsStores_of_transaction rfl rfl nofun
  all_goals exact .refl s

theorem tick_keepsStores (s : State) : s.KeepsStores s.tick := by
  unfold State.tick
  split
  · exact .refl s
  · exact (formReply_keepsStores s).trans (.of_slots_eq rfl rfl rfl)

end

/-! ### Every command, and every step -/

theorem resetAsserted_keepsStores (s : State) : s.KeepsStores s.resetAsserted :=
  ⟨fun _ => queueLaw_reset, fun _ => slotLaw_reset, fun _ => numberLaw_reset⟩

theorem endOfReset_orderly (s : State) : s.Orderly s.endOfReset := by
  unfold State.endOfReset
  split <;> exact (State.Orderly.refl s).same rfl rfl

theorem exec_keepsStores {c : Instr} {s t : State} (h : exec c s = .next t) : s.KeepsStores t := by
  have closed {u : State} (h : s.KeepsStores u) : s.KeepsStores u.settle := h.orderly (.settle (.refl u))
  cases c
  case resetAsserted => cases h; exact resetAsserted_keepsStores s
  case endOfReset => cases h; exact (endOfReset_orderly s).keepsStores
  case readAttemptFailed => cases h; exact (readAttemptFailed_orderly s).keepsStores
  case readRetryExpiry => cases h; exact (readRetryExpiry_orderly s).keepsStores
  case headerReadComplete => cases h; exact (headerReadComplete_orderly s _).keepsStores
  case imageReadComplete => cases h; exact closed (imageReadComplete_keepsStores s _)
  case rawInputChange => cases h; exact (rawInputChange_orderly s _ _).keepsStores
  case frameStart => cases h; exact closed (frameStart_keepsStores s)
  case contentionLost => cases h; exact closed (contentionLost_keepsStores s)
  case lineError => cases h; exact closed (lineError_keepsStores s)
  case frameBrokenOff => cases h; exact closed (frameBrokenOff_keepsStores s)
  case acknowledgeDecision => cases h; exact closed (acknowledgeDecision_keepsStores s _)
  case attemptEnd => cases h; exact closed (attemptEnd_keepsStores s _)
  case frameTaking => cases h; exact closed (frameTaking_keepsStores s)
  case statusRefreshExpiry => cases h; exact closed (statusRefreshExpiry_keepsStores s _)
  case lastHeardExpiry => cases h; exact closed (lastHeardExpiry_keepsStores s _)
  case listeningPeriodEnd => cases h; exact closed (listeningPeriodEnd_keepsStores s)
  case statusCommand => cases h; exact statusCommand_keepsStores s
  case snapshotCommand => cases h; exact snapshotCommand_keepsStores s
  case readCommand => cases h; exact readCommand_keepsStores s _ _
  case takeCommand => cases h; exact takeCommand_keepsStores s
  case unknownCommand => cases h; exact unknownCommand_keepsStores s _
  case snapshotCompletion => cases h; exact snapshotCompletion_keepsStores s
  case takeRecordRemoved => cases h; exact takeRecordRemoved_keepsStores s
  case selectDeasserted => cases h; exact selectDeasserted_keepsStores s
  case startBitSeen => cases h; exact closed (startBitSeen_keepsStores s)
  all_goals
    cases h
    refine closed (State.Orderly.keepsStores ?_)
    simp

theorem step_keepsStores {s t : State} (h : step s = .next t) : s.KeepsStores t := by
  unfold step at h
  split at h
  · rename_i c rest _
    exact .trans (t := { s with pending := rest }) (.of_slots_eq rfl rfl rfl) (exec_keepsStores h)
  · unfold stepIdle at h
    split at h
    · exact exec_keepsStores h
    · cases h
      exact tick_keepsStores s

/-- Settles O57: a command of chapters 1 to 9 has records arrive and trades frames in the slots; the line's own move, renew or empty the slot
of the frame they are about; and the port's remove a record only where one is held. -/
theorem storesStayBounded : Obligations.StoresStayBounded := fun _ _ h =>
  ⟨(step_keepsStores h).queue, (step_keepsStores h).slots, (step_keepsStores h).numbers⟩

end Sys2Proof.Machine
end

section
/-! PROOFS. The taking of a frame (R104, R106, R113), with O38. -/

namespace Sys2Proof.Machine

/-- Below the loader a STATUS overheard changes the part state alone (R172, R175). -/
theorem overhear_base (s : State) (f : RxFrame) (delivered : Bool) :
    (s.overhear f delivered).base = s.base ∨ ∃ p, (s.overhear f delivered).base = (s.setPartState p).base := by
  have revert : (s.revertFarDirect f).base = s.base := by simp
  have entered (o : SwitchOutcome) (k : Concern) : ∃ p, ((s.revertFarDirect f).enterOut o k).base = (s.setPartState p).base :=
    ⟨_, (enterOut_base ..).trans (setPartState_base_congr revert _)⟩
  unfold State.overhear State.statusOverheard
  dsimp only
  split
  · split
    · split
      · unfold State.overhearAtStart
        (repeat' split)
        · exact .inr (entered ..)
        · exact .inr (entered ..)
        · exact .inl revert
        · exact .inl revert
      · exact .inl revert
      · unfold State.overhearOut
        (repeat' split)
        · exact .inr ⟨_, (returnIn_base ..).trans (setPartState_base_congr revert _)⟩
        · exact .inl (by simp)
        · exact .inl (by simp)
      · exact .inl (by simp)
    · exact .inl revert
  · exact .inl (by simp)

/-- What the taking of a frame leaves of the parts below the line controller. -/
theorem overhear_leaves (s : State) (f : RxFrame) (delivered : Bool) :
    (s.overhear f delivered).now = s.now ∧ (s.overhear f delivered).cfg = s.cfg ∧ (s.overhear f delivered).pending = s.pending ∧
      (s.overhear f delivered).track = s.track ∧ (s.overhear f delivered).heads = s.heads := by
  rcases overhear_base s f delivered with h | ⟨p, h⟩
  all_goals
    obtain ⟨hn, -, -, hc, -, ht, hh, hp⟩ := State.base_eq h
    exact ⟨hn, hc, hp, ht, hh⟩

/-- The supervision of a taken frame's sender restarts, and then the links of its ends are judged. -/
theorem hear_orderly (s : State) (f : RxFrame) :
    (s.modLine fun l => { l with heard := l.heard.set (identityIndex f.sender) { last := some s.now, running := true } }).Orderly (s.hear f) := by
  unfold State.hear
  exact foldl_judgeLink_orderly _ _ _ _

/-- The three parts of the taking of a frame, and the close of the event (R104). -/
def State.takeCounted (s : State) (f : RxFrame) : State :=
  (((s.hear f).deliverMapped f).1.overhear f ((s.hear f).deliverMapped f).2).settle

theorem takeCounted_orderly (s : State) (f : RxFrame) :
    (s.modLine fun l => { l with heard := l.heard.set (identityIndex f.sender) { last := some s.now, running := true } }).Orderly
      (s.takeCounted f) :=
  (((hear_orderly s f).deliverMapped f).overhear f _).settle

theorem takeCounted_leaves (s : State) (f : RxFrame) :
    (s.takeCounted f).now = s.now ∧ (s.takeCounted f).cfg = s.cfg ∧ (s.takeCounted f).pending = s.pending ∧
      (s.takeCounted f).track = s.track ∧ (s.takeCounted f).heads = s.heads := by
  have delivered : ((s.hear f).deliverMapped f).1.base = s.base := by simp
  obtain ⟨now, -, -, cfg, -, track, heads, pending⟩ := State.base_eq delivered
  obtain ⟨now', cfg', pending', track', heads'⟩ := overhear_leaves ((s.hear f).deliverMapped f).1 f ((s.hear f).deliverMapped f).2
  obtain ⟨now'', -, -, cfg'', -, track'', heads'', pending''⟩ :=
    State.base_eq (settle_base (((s.hear f).deliverMapped f).1.overhear f ((s.hear f).deliverMapped f).2))
  exact ⟨now''.trans (now'.trans now), cfg''.trans (cfg'.trans cfg), pending''.trans (pending'.trans pending),
    track''.trans (track'.trans track), heads''.trans (heads'.trans heads)⟩

theorem takeCounted_line (s : State) (f : RxFrame) :
    (s.takeCounted f).line.decoder = s.line.decoder ∧ (s.takeCounted f).line.sending = s.line.sending ∧
      (s.takeCounted f).line.idleFrom = s.line.idleFrom ∧ (s.takeCounted f).line.framesTaken = s.line.framesTaken ∧
      (s.takeCounted f).line.heard = s.line.heard.set (identityIndex f.sender) { last := some s.now, running := true } := by
  rw [(takeCounted_orderly s f).line.rest]
  exact ⟨rfl, rfl, rfl, rfl, rfl⟩

/-- Settles O38: the event's parts stand in this order in the model, and all that comes after the restart of the supervision is orderly. -/
theorem frameIsTaken : Obligations.FrameIsTaken := by
  intro s quiet active silent
  dsimp only
  have taking : exec .frameTaking s = .next s.frameTaking.settle := rfl
  refine ⟨fun discarded => ?_, fun f sound => ⟨fun own => ?_, fun other => ?_, fun other => ?_⟩⟩
  · rw [taking, State.frameTaking, if_pos ⟨active, silent⟩, discarded]
    exact next_quiet rfl quiet
  · rw [taking, State.frameTaking, if_pos ⟨active, silent⟩, sound]
    dsimp only
    rw [if_pos own]
    exact next_quiet rfl quiet
  · rw [taking, State.frameTaking, if_pos ⟨active, silent⟩, sound]
    dsimp only
    rw [if_neg other]
    rfl
  · obtain ⟨counted, hc⟩ : ∃ u : State, u = { s with line := { s.line with
      decoder := .noFrame, acknowledging := false, idleFrom := s.now, framesTaken := (s.line.framesTaken + 1) % 65536 } } := ⟨_, rfl⟩
    have runs : exec .frameTaking s = .next (counted.takeCounted f) := by
      rw [taking, State.frameTaking, if_pos ⟨active, silent⟩, sound, hc]
      dsimp only
      rw [if_neg other]
      rfl
    obtain ⟨now, cfg, pending, track, heads⟩ := takeCounted_leaves counted f
    obtain ⟨decoder, sending, idleFrom, taken, heard⟩ := takeCounted_line counted f
    obtain ⟨l, hl⟩ := (takeCounted_orderly counted f).records
    subst hc
    exact ⟨_, runs, now, cfg, pending, track, heads, decoder, sending.trans silent, idleFrom, taken, heard, l, hl⟩

end Sys2Proof.Machine
end

section
/-! PROOFS. A frame that starts, one that loses in contention, and what the decoder makes of the line (R92 to R102, R108, R111), with O33, O34 and
O37. -/

namespace Sys2Proof.Machine

/-! ### The frame composed (R98, R99) -/

theorem markCode_eq (m : Option RefusalMark) : markCode m = (m.map (·.reason.code)).getD 0 := by cases m <;> rfl

theorem releasePairing_eq (r : Release) (long : Bool) : releasePairing r long = r.code + if long then 16 else 0 := by cases long <;> rfl

theorem composed_iff (k : FrameKind) : k.composed = true ↔ k = .status ∨ k = .count := by cases k <;> decide

theorem composedPayload_eq (s : State) (f : Frame) : s.composedPayload f =
    if f.kind = .status then
      [byte s.blocks[f.e].state.code, byte (s.blocks[f.e].release.code + if s.blocks[f.e].long then 16 else 0),
        byte ((s.blocks[f.e].refusal.map (·.reason.code)).getD 0), byte (s.endSectState f.e).code,
        byte (hi (s.endNet f.e)), byte (lo (s.endNet f.e))]
    else if f.kind = .count then [byte (hi (s.endNet f.e)), byte (lo (s.endNet f.e))]
    else f.payload := by
  cases hk : f.kind
  case status => simp [State.composedPayload, hk, State.statusPayload, markCode_eq, releasePairing_eq, bytes2]
  case count => simp [State.composedPayload, hk, bytes2]
  all_goals simp [State.composedPayload, hk]

theorem composeFrame_eq (s : State) (f : Frame) : s.composeFrame f =
    { f with
      onLine := true, payload := s.composedPayload f
      dest := if f.kind = .status ∨ f.kind = .count then s.peerId f.e else f.dest } := by
  simp only [State.composeFrame, composed_iff]

theorem restartRefresh_eq (l : Line) (f : Frame) (now : Time) : l.restartRefresh f now =
    { l with refresh := if f.kind = .status then l.refresh.set f.e (some (now + secs 2)) else l.refresh } := by
  cases hk : f.kind
  case status => simp [Line.restartRefresh, hk, refreshTime]
  all_goals simp [Line.restartRefresh, hk]

theorem frameStart_eq {s : State} {i : Fin 8} {f : Frame} (h : s.startable = some i) (hf : s.line.slots[i] = some f) :
    s.frameStart = s.beginFrame i f := by
  simp only [State.frameStart, h, hf]

theorem bitTime_of_rate_one {s : State} (h : s.cfg.rate = 1) : 4800 * s.bitTime = secs 1 := by simp [State.bitTime, h, secs]

theorem bitTime_of_rate_two {s : State} (h : s.cfg.rate = 2) : 9600 * s.bitTime = secs 1 := by simp [State.bitTime, h, secs]

/-- The levels of a frame begun, as time goes on (R92, R99). -/
theorem lineLevel_begun {t : State} {x : Sending} (h : t.line.sending = some x) (hx : x.since = t.now) (d : Time) :
    { t with now := t.now + d }.lineLevel = (charsLevels x.chars).getD (d / t.bitTime) .idle := by
  rw [lineLevel_sending (s := { t with now := t.now + d }) h]
  simp [State.bitFrom, State.bitTime, hx]

/-- Settles O33. -/
theorem frameStarts : Obligations.FrameStarts := by
  intro s i f quiet start slot
  refine ⟨s.beginFrame i f, next_quiet (frameStart_eq start slot) quiet, ?_⟩
  dsimp only
  rw [← composedPayload_eq]
  have begun : (s.beginFrame i f).line.sending = some
      { slot := i, chars := s.frameChars (s.composeFrame f), since := s.now, refreshBefore := s.line.refresh[f.e] } := rfl
  simp only [State.beginFrame, composeFrame_eq, restartRefresh_eq] at begun ⊢
  exact ⟨rfl, rfl, rfl, rfl, rfl, bitTime_of_rate_one, bitTime_of_rate_two, lineLevel_begun begun rfl, rfl, rfl, rfl, rfl⟩

/-! ### The frame lost in contention (R100, R109, R111) -/

theorem offLine_eq (f : Frame) : f.offLine =
    { f with onLine := false, renewed := false, attempts := if f.renewed then 0 else f.attempts } := by
  cases f with
  | mk => rename_i renewed _; cases renewed <;> rfl

theorem restoreRefresh_eq (l : Line) (f : Frame) (before : Option Time) : l.restoreRefresh f before =
    { l with refresh := if f.kind = .status then l.refresh.set f.e before else l.refresh } := by
  cases hk : f.kind
  case status => simp [Line.restoreRefresh, hk]
  all_goals simp [Line.restoreRefresh, hk]

/-- Settles O34. -/
theorem lostContentionKeepsTheFrame : Obligations.LostContentionKeepsTheFrame := by
  intro s x f quiet active decoding sending slot
  refine next_quiet ?_ quiet
  rw [State.contentionLost, sending, onAir_of sending slot]
  dsimp only
  rw [if_pos (by rw [active, (sendsOn_of sending).mpr decoding]; rfl)]
  simp only [offLine_eq, restoreRefresh_eq]
  rfl

/-! ### The decoder on the line (R92, R93, R95, R96, R102) -/

/-- The levels of a character, bit time by bit time (R92). -/
theorem charLevels_start (c : Byte) : (charLevels c).getD 0 .idle = .driven := rfl

theorem charLevels_data (c : Byte) {j : Nat} (h : j < 8) : (charLevels c).getD (1 + j) .idle = bitLevel (c.getLsbD j) := by
  simp [charLevels, Nat.add_comm 1 j, h, List.getElem?_append_left]

theorem charLevels_stop (c : Byte) {j : Nat} (h : 9 ≤ j) : (charLevels c).getD j .idle = .idle := by
  obtain ⟨k, rfl⟩ := Nat.exists_eq_add_of_le h
  cases k with
  | zero => rfl
  | succ k => exact List.getD_eq_default _ _ (by rw [charLevels_length]; omega)

theorem slotLevels_before (f : RxFrame) {k : Nat} (h : k < 10 * (5 + f.payload.length)) : f.slotLevels.getD k .idle = .idle := by
  have before : k < 10 * (f.payload.length + 5) := by omega
  simp [RxFrame.slotLevels, List.getElem?_append_left, before]

theorem slotLevels_in (f : RxFrame) (j : Nat) :
    f.slotLevels.getD (10 * (5 + f.payload.length) + j) .idle = (charLevels acknowledgeChar).getD j .idle := by
  simp [RxFrame.slotLevels, List.getElem?_append_right, Nat.add_comm 5]

/-- The decoder's phases in which a station that is not sending drives nothing (R92, R102). -/
theorem lineLevel_idle {s : State} (silent : s.line.sending = none) (h : (∀ f, s.line.decoder ≠ .sound f) ∨ s.line.acknowledging = false) :
    s.lineLevel = .idle := by
  cases phase : s.line.decoder with
  | sound f => simp [lineLevel_acknowledging silent phase, h.resolve_left fun h => h f phase]
  | _ => simp [State.lineLevel, silent, phase]

theorem acknowledgeDecision_eq {s : State} {chars : List Byte} (active : s.active = true) (receiving : s.line.decoder = .receiving)
    (silent : s.line.sending = none) : s.acknowledgeDecision chars =
    match judgeChars chars with
    | .notAFrame => s
    | .badCrc => s.modLine fun l => { l with decoder := .discarded, crcFailures := countUp l.crcFailures }
    | .malformed => s.modLine fun l => { l with decoder := .discarded, malformed := countUp l.malformed }
    | .sound f => s.modLine fun l => { l with decoder := .sound f, acknowledging := s.acknowledges f } :=
  if_pos ⟨active, receiving, silent⟩

/-- Settles O37. -/
theorem decoderFollowsTheLine : Obligations.DecoderFollowsTheLine := by
  intro s chars quiet active
  refine ⟨fun still => next_quiet ?_ quiet, fun free busy => next_quiet ?_ quiet, fun receiving => ⟨fun silent => next_quiet ?_ quiet,
    fun x sending => next_quiet ?_ quiet⟩, fun receiving silent => ?_, fun silent => ⟨lineLevel_idle silent, fun f sound acknowledging => ?_⟩⟩
  · have free : s.line.decoder = .noFrame := by simp_all [State.lineQuiet]
    rw [State.startBitSeen, if_pos ⟨active, free⟩, if_pos still]
    rfl
  · rw [State.startBitSeen, if_pos ⟨active, free⟩, if_neg (by simp [busy])]
    rfl
  · rw [State.frameBrokenOff, if_pos ⟨active, receiving⟩]
    simp [State.modLine, Line.breakOff, Line.endFrame, silent]
  · rw [State.frameBrokenOff, if_pos ⟨active, receiving⟩]
    simp [State.modLine, Line.breakOff, Line.endFrame, sending]
  · refine ⟨fun bad => next_quiet ?_ quiet, fun malformed => next_quiet ?_ quiet, fun f sound => next_quiet ?_ quiet⟩
    · rw [acknowledgeDecision_eq active receiving silent, bad]
      rfl
    · rw [acknowledgeDecision_eq active receiving silent, malformed]
      rfl
    · rw [acknowledgeDecision_eq active receiving silent, sound]
      simp [State.modLine, State.acknowledges]
  · rw [lineLevel_acknowledging silent sound, if_pos acknowledging, State.bitFrom]
    refine ⟨fun h => ?_, fun j hj h => ?_, fun h => ?_⟩
    · rw [h]
      exact slotLevels_in f 0
    · rw [h, Nat.add_assoc, slotLevels_in, charLevels_data _ hj]
      rfl
    · rcases h with before | after
      · exact slotLevels_before f before
      · obtain ⟨j, hj⟩ := Nat.exists_eq_add_of_le after
        rw [hj, Nat.add_assoc, slotLevels_in, charLevels_stop _ (by omega)]

end Sys2Proof.Machine
end

section
/-! PROOFS. The choice among the slots, and what a queue request does (R107 to R110, R112, R116), with O32. -/

namespace Sys2Proof.Machine

/-! ### The best slot by an order (R108, R110) -/

/-- The best slot of those looked at: it holds a frame of the kind looked for, than which no such frame in them goes first; and it is none only where
they hold no such frame. -/
structure Line.Leads (l : Line) (p : Frame → Frame → Bool) (ok : Frame → Bool) (seen : Fin 8 → Prop) (best : Option (Fin 8)) : Prop where
  first : ∀ i, best = some i → ∃ f, l.slots[i] = some f ∧ ok f = true ∧
    ∀ (j : Fin 8) (g : Frame), seen j → l.slots[j] = some g → ok g = true → p g f = false
  empty : best = none → ∀ (j : Fin 8) (g : Frame), seen j → l.slots[j] = some g → ok g = false

section
variable {l : Line} {p : Frame → Frame → Bool} {ok : Frame → Bool} {seen : Fin 8 → Prop} {best : Option (Fin 8)} {i : Fin 8} {f : Frame}

/-- A slot that holds no frame of the kind looked for changes nothing. -/
theorem leads_skip (h : l.Leads p ok seen best) (hi : ∀ f, l.slots[i] = some f → ok f = false) :
    l.Leads p ok (fun j => seen j ∨ j = i) best := by
  refine ⟨fun b hb => ?_, fun hb j g hj hg => ?_⟩
  · obtain ⟨f, hf, okf, first⟩ := h.first b hb
    refine ⟨f, hf, okf, fun j g hj hg okg => ?_⟩
    rcases hj with hj | rfl
    · exact first j g hj hg okg
    · cases (hi g hg).symm.trans okg
  · rcases hj with hj | rfl
    · exact h.empty hb j g hj hg
    · exact hi g hg

/-- A slot looked at is the new best, and goes before none of those it goes before itself. -/
theorem leads_take (hi : l.slots[i] = some f) (okf : ok f = true) (irrefl : p f f = false)
    (first : ∀ (j : Fin 8) (g : Frame), seen j → l.slots[j] = some g → ok g = true → p g f = false) :
    l.Leads p ok (fun j => seen j ∨ j = i) (some i) := by
  refine ⟨fun b hb => ?_, fun hb => by cases hb⟩
  cases hb
  refine ⟨f, hi, okf, fun j g hj hg okg => ?_⟩
  rcases hj with hj | rfl
  · exact first j g hj hg okg
  · cases hi.symm.trans hg
    exact irrefl

theorem leads_keep {b : Fin 8} {g : Frame} (h : l.Leads p ok seen (some b)) (hb : l.slots[b] = some g) (hi : l.slots[i] = some f)
    (last : p f g = false) : l.Leads p ok (fun j => seen j ∨ j = i) (some b) := by
  refine ⟨fun c hc => ?_, fun hb => by cases hb⟩
  cases hc
  obtain ⟨g', hg, okg, first⟩ := h.first b rfl
  cases hb.symm.trans hg
  refine ⟨g, hg, okg, fun j x hj hx okx => ?_⟩
  rcases hj with hj | rfl
  · exact first j x hj hx okx
  · cases hi.symm.trans hx
    exact last

theorem leads_pick (trans : ∀ a b c, p a b = true → p b c = true → p a c = true) (irrefl : ∀ a, p a a = false) (h : l.Leads p ok seen best)
    (i : Fin 8) : l.Leads p ok (fun j => seen j ∨ j = i) (l.pick p ok best i) := by
  unfold Line.pick
  cases hi : l.slots[i] with
  | none => exact leads_skip h fun f hf => by cases hi.symm.trans hf
  | some f =>
    dsimp only
    by_cases okf : ok f = true
    · rw [if_pos okf]
      cases best with
      | none => exact leads_take hi okf (irrefl f) fun j g hj hg okg => by cases (h.empty rfl j g hj hg).symm.trans okg
      | some b =>
        obtain ⟨g, hg, okg, first⟩ := h.first b rfl
        simp only [Line.better, hi, hg]
        by_cases before : p f g = true
        · rw [if_pos before]
          refine leads_take hi okf (irrefl f) fun j x hj hx okx => Bool.eq_false_iff.mpr fun hxf => ?_
          exact absurd (trans _ _ _ hxf before) (by rw [first j x hj hx okx]; decide)
        · rw [if_neg before]
          exact leads_keep h hg hi (Bool.eq_false_iff.mpr before)
    · rw [if_neg okf]
      exact leads_skip h fun g hg => by cases hi.symm.trans hg; exact Bool.eq_false_iff.mpr okf

theorem leads_foldl (trans : ∀ a b c, p a b = true → p b c = true → p a c = true) (irrefl : ∀ a, p a a = false) (is : List (Fin 8))
    (h : l.Leads p ok seen best) : l.Leads p ok (fun j => seen j ∨ j ∈ is) (is.foldl (l.pick p ok) best) := by
  induction is generalizing seen best with
  | nil => simpa using h
  | cons i is ih => simpa [or_assoc] using ih (leads_pick trans irrefl h i)

/-- The best slot is the best of all eight. -/
theorem bestSlot_leads (trans : ∀ a b c, p a b = true → p b c = true → p a c = true) (irrefl : ∀ a, p a a = false) :
    l.Leads p ok (fun _ => True) (l.bestSlot p ok) := by
  have start : l.Leads p ok (fun _ => False) none := ⟨fun _ h => (by cases h), fun _ _ _ h => h.elim⟩
  have whole := leads_foldl trans irrefl slotNumbers start
  simpa [slotNumbers, bestSlot_eq] using whole

end

theorem chosen_leads (l : Line) : l.Leads (fun f g => decide (f.kind.cls < g.kind.cls ∨ (f.kind.cls = g.kind.cls ∧ f.seq < g.seq)))
    (fun f => !f.onLine) (fun _ => True) l.chosen :=
  bestSlot_leads (fun a b c => by simp only [decide_eq_true_eq]; omega) (fun a => by simp)

theorem victim_leads (l : Line) (cls : Nat) :
    l.Leads (fun f g => decide (g.kind.cls < f.kind.cls ∨ (f.kind.cls = g.kind.cls ∧ f.seq < g.seq)))
      (fun f => !f.onLine && decide (cls < f.kind.cls)) (fun _ => True) (l.victim cls) :=
  bestSlot_leads (fun a b c => by simp only [decide_eq_true_eq]; omega) (fun a => by simp)

/-- The frame a station starts (R108). -/
theorem chosen_first {l : Line} {i : Fin 8} (h : l.chosen = some i) : ∃ f, l.slots[i] = some f ∧ f.onLine = false ∧
    ∀ (j : Fin 8) (g : Frame), l.slots[j] = some g → g.onLine = false →
      f.kind.cls < g.kind.cls ∨ (f.kind.cls = g.kind.cls ∧ f.seq ≤ g.seq) := by
  obtain ⟨f, hf, off, first⟩ := (chosen_leads l).first i h
  refine ⟨f, hf, by simpa using off, fun j g hg goff => ?_⟩
  have := first j g trivial hg (by simp [goff])
  simp only [decide_eq_false_iff_not] at this
  omega

theorem chosen_none {l : Line} (h : l.chosen = none) (j : Fin 8) (g : Frame) (hg : l.slots[j] = some g) : g.onLine = true := by
  simpa using (chosen_leads l).empty h j g trivial hg

/-- The frame that gives way (R110). -/
theorem victim_first {l : Line} {cls : Nat} {i : Fin 8} (h : l.victim cls = some i) : ∃ f, l.slots[i] = some f ∧ f.onLine = false ∧
    cls < f.kind.cls ∧ ∀ (j : Fin 8) (g : Frame), l.slots[j] = some g → g.onLine = false → cls < g.kind.cls →
      g.kind.cls < f.kind.cls ∨ (g.kind.cls = f.kind.cls ∧ f.seq ≤ g.seq) := by
  obtain ⟨f, hf, ok, first⟩ := (victim_leads l cls).first i h
  simp only [Bool.and_eq_true, Bool.not_eq_true', decide_eq_true_eq] at ok
  refine ⟨f, hf, ok.1, ok.2, fun j g hg goff gcls => ?_⟩
  have := first j g trivial hg (by simp [goff, gcls])
  simp only [decide_eq_false_iff_not] at this
  omega

theorem victim_none {l : Line} {cls : Nat} (h : l.victim cls = none) (j : Fin 8) (g : Frame) (hg : l.slots[j] = some g) :
    g.onLine = true ∨ g.kind.cls ≤ cls := by
  have := (victim_leads l cls).empty h j g trivial hg
  cases hl : g.onLine
  · simp [hl] at this
    exact .inr this
  · exact .inl rfl

/-! ### The answer to a request (R107, R109, R110) -/

section
variable {s : State} {k : FrameKind} {e : EndNo} {dest : Nat} {payload : List Byte} {n : Nat}

theorem slotOf_ne_none_iff (l : Line) (k : FrameKind) (e : EndNo) :
    l.slotOf k e ≠ none ↔ ∃ i : Fin 8, ∃ f, l.slots[i] = some f ∧ f.kind = k ∧ f.e = e := by
  refine ⟨fun h => ?_, fun ⟨i, f, hf, hk⟩ h => slotOf_eq_none h hf hk⟩
  obtain ⟨i, hi⟩ := Option.ne_none_iff_exists'.mp h
  exact ⟨i, slotOf_some hi⟩

theorem answerTo_coalesced_iff (s : State) (k : FrameKind) (e : EndNo) :
    s.answerTo k e = .coalesced ↔ k.composed = true ∧ s.line.slotOf k e ≠ none := by
  unfold State.answerTo
  (repeat' split) <;> simp_all

theorem answerTo_refused (s : State) (k : FrameKind) (e : EndNo) (h : s.answerTo k e = .refused) : s.line.NoRoom k.cls := by
  rw [noRoom_iff]
  unfold State.answerTo at h
  (repeat' split at h) <;> simp_all

/-- What an answer QUEUED says: the number is the next, no frame to be merged with waits. -/
theorem answerTo_queued (h : s.answerTo k e = .queued n) : n = s.line.nextSeq ∧ (if k.composed then s.line.slotOf k e else none) = none := by
  unfold State.answerTo at h
  (repeat' split at h) <;> simp_all

/-- A request is merged into the frame that waits (R109). -/
theorem request_coalesced (hk : k.composed = true) {i : Fin 8} {f : Frame} (hi : s.line.slotOf k e = some i) (hf : s.line.slots[i] = some f) :
    s.request k e dest payload = s.modLine fun l => { l with
      slots := l.slots.set i (some (if f.onLine then { f with attempts := 0, renewed := true } else { f with attempts := 0 })) } := by
  have merged : f.coalesce = if f.onLine then { f with attempts := 0, renewed := true } else { f with attempts := 0 } := by
    unfold Frame.coalesce
    cases f.onLine <;> simp
  unfold State.request
  rw [if_pos hk, hi]
  show s.modLine _ = _
  simp only [State.modLine, modSlot_some _ _ hf, merged]

theorem request_placed (h : s.answerTo k e = .queued n) {i : Fin 8} (hi : s.line.emptySlot = some i) : s.request k e dest payload =
    s.modLine fun l => { l with
      slots := l.slots.set i (some { kind := k, e := e, dest := dest, payload := payload, seq := n }), nextSeq := n + 1 } := by
  obtain ⟨rfl, alone⟩ := answerTo_queued h
  unfold State.request
  dsimp only
  rw [alone, hi]
  rfl

/-- A state in which a frame has given way to another, before its owner is told (R110). -/
def State.evicted (s : State) (v : Fin 8) (f g : Frame) : State := (s.append (s.undeliveredRecord f 2)).modLine fun l => l.place v g

theorem request_evicts (h : s.answerTo k e = .queued n) (full : s.line.emptySlot = none) {v : Fin 8} {f : Frame}
    (hv : s.line.victim k.cls = some v) (hf : s.line.slots[v] = some f) :
    s.request k e dest payload = (s.evicted v f { kind := k, e := e, dest := dest, payload := payload }).reportEvicted f := by
  unfold State.request
  dsimp only
  rw [(answerTo_queued h).2, full, hv]
  dsimp only
  rw [hf]
  rfl

end

/-! ### The eviction (R110, R112, R116) -/

section
variable {s : State} {v : Fin 8} {f g : Frame}

theorem undeliveredRecord_evicted (s : State) (f : Frame) : { s.undeliveredRecord f 2 with time := s.partTime } =
    { time := s.partTime, kind := .frameUndelivered, subject := f.e.val, old := f.kind.code, new := 2
      d1 := if f.kind.composed = true ∧ f.onLine = false then s.peerId f.e else f.dest
      d2 := f.kind.cls, d3 := f.attempts, d4 := f.failure.code : Event } := by
  have dest : s.frameDest f = if f.kind.composed = true ∧ f.onLine = false then s.peerId f.e else f.dest := by
    unfold State.frameDest
    exact if_congr (by simp) rfl rfl
  unfold State.undeliveredRecord
  rw [dest]
  cases f.failure <;> rfl

theorem evicted_recordedFirst (s : State) (v : Fin 8) (f g : Frame) :
    RecordedFirst s ((s.evicted v f g).reportEvicted f) { s.undeliveredRecord f 2 with time := s.partTime } := by
  have first : RecordedFirst s (s.evicted v f g) { s.undeliveredRecord f 2 with time := s.partTime } := ⟨[], append_recorded s _⟩
  exact first.then (reportEvicted_aftermath _ f)

theorem evicted_line (s : State) (v : Fin 8) (f g : Frame) : (s.evicted v f g).line = s.line.place v g := by
  rw [State.evicted, State.modLine_line, append_line]

/-- The frame evicted is in no slot. -/
theorem evicted_gone (hn : s.line.numbered) (hf : s.line.slots[v] = some f) (j : Fin 8) (x : Frame)
    (hx : ((s.evicted v f g).reportEvicted f).line.slots[j] = some x) : x.seq ≠ f.seq := by
  rw [reportEvicted_slots, evicted_line] at hx
  obtain ⟨below, alone⟩ := hn v f hf
  rcases mem_set hx with ⟨-, hx⟩ | ⟨hj, hx⟩
  · cases hx
    exact Nat.ne_of_gt below
  · exact fun he => hj (alone j x hx he).symm

theorem evicted_status (h : f.kind = .status) : ((s.evicted v f g).reportEvicted f).line.owed[f.e] = true := by
  rw [reportEvicted_line, if_pos h, slot_set_self]

theorem evicted_code (h : f.kind = .bellCode) {r : CodeRecord} (hr : s.bells[f.e].lastOut = some r) (hseq : r.seq = some f.seq) :
    ((s.evicted v f g).reportEvicted f).bells[f.e].lastOut = some { r with notSent := true } := by
  have same : (s.evicted v f g).bells = s.bells := by rw [State.evicted, State.modLine_bells, append_bells]
  have owner : (s.evicted v f g).reportEvicted f = (s.evicted v f g).modBell f.e (Bell.codeUndelivered f.seq) := by
    unfold State.reportEvicted
    rw [h]
  rw [owner, State.modBell_bells, upd_self, same, Bell.codeUndelivered, hr, Option.map_some, if_pos hseq]

theorem evicted_sects (s : State) (v : Fin 8) (f g : Frame) : (s.evicted v f g).sects = s.sects := by
  rw [State.evicted, State.modLine_sects, append_sects]

theorem evicted_sectOf (s : State) (v : Fin 8) (f g : Frame) (e : EndNo) : (s.evicted v f g).sectOf e = s.sectOf e := by
  unfold State.sectOf
  rw [cfg_of_base (t := s.evicted v f g) (s := s) (by simp [State.evicted])]

theorem evicted_request (h : f.kind = .resetReq) {c : SectNo} (hc : s.sectOf f.e = some c) (hp : s.sects[c].pending.map (·.seq) = some f.seq) :
    ((s.evicted v f g).reportEvicted f).sects[c].pending = none := by
  have owner : (s.evicted v f g).reportEvicted f = (s.evicted v f g).requestUndelivered f.e f.seq := by
    unfold State.reportEvicted
    rw [h]
  rw [owner]
  exact (requestUndelivered_ends ((evicted_sectOf ..).trans hc) (by rwa [evicted_sects])).1

theorem evicted_confirm (h : f.kind = .resetConfirm) {c : SectNo} (hc : s.sectOf f.e = some c) (hp : s.sects[c].confirming = some f.seq) :
    ((s.evicted v f g).reportEvicted f).sects[c].confirming = none ∧ ((s.evicted v f g).reportEvicted f).sects[c].latch = .disturbed := by
  have owner : (s.evicted v f g).reportEvicted f = (s.evicted v f g).confirmUndelivered f.e f.seq := by
    unfold State.reportEvicted
    rw [h]
  rw [owner]
  obtain ⟨confirming, latch, -⟩ := confirmUndelivered_ends ((evicted_sectOf s v f g f.e).trans hc) (by rwa [evicted_sects])
  exact ⟨confirming, latch⟩

end

theorem emptySlot_eq_none_iff (l : Line) : l.emptySlot = none ↔ ∀ i : Fin 8, l.slots[i] ≠ none := by
  refine ⟨fun h i hi => emptySlot_ne_none hi h, fun h => ?_⟩
  cases hi : l.emptySlot with
  | none => rfl
  | some i => exact absurd (emptySlot_none hi) (h i)

/-- Settles O32. -/
theorem slotsChooseAndAnswer : Obligations.SlotsChooseAndAnswer := by
  refine ⟨fun l => ⟨fun i => chosen_first, chosen_none, fun cls i => victim_first, fun cls => victim_none⟩, fun s k e dest payload => ?_⟩
  dsimp only
  refine ⟨by rw [answerTo_coalesced_iff, slotOf_ne_none_iff], fun merged => ?_, fun n queued => ?_, fun n queued room => ?_, fun room refused => ?_,
    fun n v f queued full victim slot => ?_, fun ⟨i, hi⟩ refused => ?_,
    fun refused => ⟨request_refused refused _ _, answerTo_refused s k e refused⟩⟩
  · obtain ⟨composed, some⟩ := (answerTo_coalesced_iff s k e).mp merged
    obtain ⟨i, hi⟩ := Option.ne_none_iff_exists'.mp some
    obtain ⟨f, hf, hk, he⟩ := slotOf_some hi
    exact ⟨i, f, hf, hk, he, request_coalesced composed hi hf⟩
  · exact ⟨(answerTo_queued queued).1, request_slotHolds queued dest payload⟩
  · obtain ⟨i, hi⟩ := Option.ne_none_iff_exists'.mp (room.elim fun _ => emptySlot_ne_none)
    exact ⟨i, emptySlot_none hi, request_placed queued hi⟩
  · obtain ⟨i, f, hf, off, cls⟩ := room
    obtain ⟨g, hg, busy⟩ := answerTo_refused s k e refused i
    cases hf.symm.trans hg
    rcases busy with on | low
    · cases off.symm.trans on
    · omega
  · rw [request_evicts queued ((emptySlot_eq_none_iff _).mpr full) victim slot]
    refine ⟨?_, fun numbered => evicted_gone numbered slot, evicted_status, fun hk r => evicted_code hk, fun hk c => evicted_request hk,
      fun hk c => evicted_confirm hk⟩
    have first := evicted_recordedFirst s v f { kind := k, e := e, dest := dest, payload := payload }
    rw [undeliveredRecord_evicted] at first
    cases cause : f.failure <;> rwa [cause] at first
  · obtain ⟨f, hf, -⟩ := answerTo_refused s k e refused i
    cases hi.symm.trans hf

end Sys2Proof.Machine
end

section
/-! PROOFS. The soundness of a CODE payload, and what a CODE and a BEAT delivered for an end do (R98, R127, R128, R131, R135), with O45. -/

namespace Sys2Proof.Machine

/-! ### The payload (R98, R127) -/

/-- The leading positive numbers of a list, where only zeros come after them. -/
theorem takeWhile_pos_iff (l g : List Nat) (n : Nat) (hl : l.length = n) :
    (l.takeWhile (fun n => decide (0 < n)) = g ∧ (l.drop g.length).all (fun n => decide (n = 0)) = true) ↔
      (∀ x ∈ g, 1 ≤ x) ∧ l = g ++ List.replicate (n - g.length) 0 := by
  constructor
  · rintro ⟨rfl, zeros⟩
    refine ⟨fun x hx => Nat.succ_le_of_lt (by simpa using List.mem_takeWhile_imp hx), ?_⟩
    obtain ⟨g, hg⟩ : ∃ g, g = l.takeWhile fun n => decide (0 < n) := ⟨_, rfl⟩
    rw [← hg] at zeros ⊢
    have front : l.take g.length = g := by rw [hg]; exact List.prefix_iff_eq_take.mp (List.takeWhile_prefix _) |>.symm
    have back : l.drop g.length = List.replicate (n - g.length) 0 :=
      List.eq_replicate_iff.mpr ⟨by rw [List.length_drop, hl], fun x hx => by simpa using List.all_eq_true.mp zeros x hx⟩
    calc l = l.take g.length ++ l.drop g.length := (List.take_append_drop ..).symm
      _ = g ++ List.replicate (n - g.length) 0 := by rw [front, back]
  · rintro ⟨pos, rfl⟩
    refine ⟨?_, by simp⟩
    rw [List.takeWhile_append_of_pos fun x hx => decide_eq_true (Nat.lt_of_succ_le (pos x hx))]
    simp

theorem payloadGroups_iff (p : List Byte) (g : List Nat) (hp : p.length = 6) : payloadGroups p = some g ↔
    1 ≤ g.length ∧ (∀ n ∈ g, 1 ≤ n ∧ n ≤ 20) ∧ g.sum ≤ 20 ∧ (p.take 5).map (·.toNat) = g ++ List.replicate (5 - g.length) 0 := by
  have split := takeWhile_pos_iff ((p.take 5).map (·.toNat)) g 5 (by simp [hp])
  have sound : payloadGroups p = some g ↔
      ((p.take 5).map (·.toNat)).takeWhile (fun n => decide (0 < n)) = g ∧
        (((p.take 5).map (·.toNat)).drop g.length).all (fun n => decide (n = 0)) = true ∧
          1 ≤ g.length ∧ (∀ n ∈ g, n ≤ 20) ∧ g.sum ≤ 20 := by
    unfold payloadGroups
    dsimp only
    constructor
    · intro h
      split at h
      · rename_i hc
        cases h
        simpa [List.length_pos_iff, Nat.one_le_iff_ne_zero, and_assoc] using hc
      · cases h
    · rintro ⟨rfl, zeros, some, few, sum⟩
      rw [if_pos]
      simp only [zeros, Bool.and_eq_true, decide_eq_true_eq, Bool.true_and]
      refine ⟨⟨?_, by simpa using few⟩, sum⟩
      have nonempty := List.length_pos_iff.mp some
      simpa only [Bool.not_eq_true', List.isEmpty_eq_false_iff] using nonempty
  rw [sound, ← and_assoc, split]
  constructor
  · rintro ⟨⟨pos, eq⟩, some, few, sum⟩
    exact ⟨some, fun n hn => ⟨pos n hn, few n hn⟩, sum, eq⟩
  · rintro ⟨some, range, sum, eq⟩
    exact ⟨⟨fun n hn => (range n hn).1, eq⟩, some, fun n hn => (range n hn).2, sum⟩

theorem ofCode_iff (n : Nat) (term : Termination) : Termination.ofCode n = some term ↔ n = term.code := by
  constructor
  · unfold Termination.ofCode
    split <;> intro h <;> cases h <;> rfl
  · rintro rfl
    cases term <;> rfl

/-! ### A BEAT (R131) -/

theorem at_one (p : List Byte) (k : Nat) : at_ p k = 1 ↔ p.getD k 0#8 = 1#8 := by
  rw [← BitVec.toNat_inj]
  rfl

theorem deliver_beat {s : State} {f : RxFrame} (hk : f.kind = .beat) (e : EndNo) : s.deliver e f = s.beatTaken e f.payload := by
  unfold State.deliver
  rw [hk]

theorem deliver_code {s : State} {f : RxFrame} (hk : f.kind = .bellCode) (e : EndNo) : s.deliver e f = s.codeTaken e f.payload := by
  unfold State.deliver
  rw [hk]

/-! ### A CODE (R127, R128, R135) -/

section
variable {s : State} {e : EndNo} {p : List Byte} {g : List Nat} {term : Termination}

theorem codeTaken_invalid (h : payloadGroups p = none ∨ payloadTermination p = none) : s.codeTaken e p = s.append
    { kind := .codeReceived, subject := e.val, old := payloadIndex p, new := 255, d1 := 0, d2 := 0, d3 := 0, d4 := 6 } := by
  unfold State.codeTaken
  split
  · rename_i hg ht
    rcases h with h | h
    · cases hg.symm.trans h
    · cases ht.symm.trans h
  · rfl

/-- A sound CODE as it is received, and recorded, before its class acts. -/
def State.codeRecorded (s : State) (e : EndNo) (p : List Byte) (g : List Nat) (term : Termination) : State :=
  (s.modBell e fun b =>
    { b with lastIn := some { groups := g, termination := term, index := s.cfg.recordIndex term g, time := unitsAt s.now } }).append
      { kind := .codeReceived, subject := e.val, old := payloadIndex p, new := indexCode (s.cfg.recordIndex term g), d1 := term.code
        d2 := g.sum, d3 := g.length, d4 := s.codeEffect e (s.cfg.classOf (s.cfg.recordIndex term g)) }

theorem codeTaken_sound (hg : payloadGroups p = some g) (ht : payloadTermination p = some term) : s.codeTaken e p =
    (s.codeRecorded e p g term).actOnCode e (s.cfg.recordIndex term g) (s.codeEffect e (s.cfg.classOf (s.cfg.recordIndex term g))) := by
  unfold State.codeTaken
  rw [hg, ht]
  rfl

theorem codeRecorded_blocks (s : State) (e : EndNo) (p : List Byte) (g : List Nat) (term : Termination) :
    (s.codeRecorded e p g term).blocks = s.blocks := by simp [State.codeRecorded]

theorem codeRecorded_bell (s : State) (e : EndNo) (p : List Byte) (g : List Nat) (term : Termination) :
    (s.codeRecorded e p g term).bells[e] = { s.bells[e] with
      lastIn := some { groups := g, termination := term, index := s.cfg.recordIndex term g, time := unitsAt s.now } } := by
  rw [State.codeRecorded, append_bells, State.modBell_bells, upd_self]

/-! ### What the class of a CODE does (R128) -/

theorem changeEnd_lastIn (s : State) (e : EndNo) (st : BlockState) (rel : Release) (cause : Cause) :
    (s.changeEnd e st rel cause).bells[e].lastIn = s.bells[e].lastIn := by
  unfold State.changeEnd State.reportEndChange
  (repeat' split) <;> simp [State.clearOffer]

theorem obstruct_lastIn (s : State) (e : EndNo) : (s.obstruct e).bells[e].lastIn = s.bells[e].lastIn := by
  unfold State.obstruct
  split
  · rfl
  · rfl
  · exact changeEnd_lastIn ..

theorem unobstruct_lastIn (s : State) (e : EndNo) : (s.unobstruct e).bells[e].lastIn = s.bells[e].lastIn := by
  unfold State.unobstruct
  split
  · exact changeEnd_lastIn ..
  · rfl

theorem actOnCode_lastIn (s : State) (e : EndNo) (k : Option Nat) (n : Nat) : (s.actOnCode e k n).bells[e].lastIn = s.bells[e].lastIn := by
  unfold State.actOnCode
  split
  · simp
  · simp [State.clearOffer]
  · exact obstruct_lastIn ..
  · exact unobstruct_lastIn ..
  · rfl

theorem obstruct_state (h : s.blocks[e].state ≠ .inactive) : (s.obstruct e).blocks[e].state = .obstructed := by
  unfold State.obstruct
  split
  · exact absurd ‹_› h
  · assumption
  · rw [changeEnd_self, BlockEnd.moved_state]

theorem unobstruct_state (s : State) (e : EndNo) :
    (s.unobstruct e).blocks[e].state = if s.blocks[e].state = .obstructed then .normal else s.blocks[e].state := by
  unfold State.unobstruct
  split
  · rename_i h
    rw [changeEnd_self, BlockEnd.moved_state, if_pos h]
  · rename_i h
    rw [if_neg h]

theorem actOnCode_offer (s : State) (e : EndNo) (k : Nat) : s.actOnCode e (some k) 1 = s.modBell e fun b =>
    { b with offer := some { index := k, time := unitsAt s.now, until_ := s.now + secs s.cfg.offerHoldSecs } } := rfl

theorem actOnCode_cancel (s : State) (e : EndNo) (k : Option Nat) : s.actOnCode e k 3 = s.clearOffer e := by cases k <;> rfl

theorem actOnCode_obstruct (s : State) (e : EndNo) (k : Option Nat) : s.actOnCode e k 4 = s.obstruct e := by cases k <;> rfl

theorem actOnCode_unobstruct (s : State) (e : EndNo) (k : Option Nat) : s.actOnCode e k 5 = s.unobstruct e := by cases k <;> rfl

theorem actOnCode_nothing (s : State) (e : EndNo) (k : Option Nat) {n : Nat} (h : n = 0 ∨ n = 2) : s.actOnCode e k n = s := by
  rcases h with rfl | rfl <;> cases k <;> rfl

theorem actOnCode_aftermath (s : State) (e : EndNo) (k : Option Nat) (n : Nat) : Aftermath s (s.actOnCode e k n) := by
  unfold State.actOnCode
  split
  · exact aftermath_of_eq rfl rfl
  · exact aftermath_of_eq rfl rfl
  · unfold State.obstruct
    split
    · exact .refl s
    · exact .refl s
    · exact (changeEnd_aftermath ..).after rfl rfl
  · unfold State.unobstruct
    split
    · exact changeEnd_aftermath ..
    · exact .refl s
  · exact .refl s

/-- The effects, as CODE_RECEIVED shows them. -/
theorem codeEffect_idle {cls : Option CodeClass} (h : s.blocks[e].state = .inactive ∨
    (cls ≠ some .offer ∧ cls ≠ some .cancelOffer ∧ cls ≠ some .obstruction ∧ cls ≠ some .obstructionRemoved)) :
    s.codeEffect e cls = 0 := by
  unfold State.codeEffect
  rcases h with h | ⟨offer, cancel, obstruction, removed⟩
  · rw [if_pos h]
  · split
    · rfl
    · split <;> simp_all

theorem codeEffect_offer (h : s.blocks[e].state = .normal) : s.codeEffect e (some .offer) = 1 := by
  unfold State.codeEffect
  rw [if_neg (by rw [h]; decide)]
  exact if_pos h

theorem codeEffect_offer_elsewhere (h : s.blocks[e].state ≠ .normal) :
    s.codeEffect e (some .offer) = 0 ∨ s.codeEffect e (some .offer) = 2 := by
  by_cases off : s.blocks[e].state = .inactive
  · exact .inl (codeEffect_idle (.inl off))
  · unfold State.codeEffect
    rw [if_neg off]
    exact .inr (if_neg h)

theorem codeEffect_cancel (h : s.blocks[e].state ≠ .inactive) : s.codeEffect e (some .cancelOffer) = 3 := if_neg h

theorem codeEffect_obstruction (h : s.blocks[e].state ≠ .inactive) : s.codeEffect e (some .obstruction) = 4 := if_neg h

theorem codeEffect_removed (h : s.blocks[e].state ≠ .inactive) : s.codeEffect e (some .obstructionRemoved) = 5 := if_neg h

theorem indexCode_eq (k : Option Nat) : indexCode k = k.getD 255 := by cases k <;> rfl

theorem codeTaken_recordedFirst (hg : payloadGroups p = some g) (ht : payloadTermination p = some term) : RecordedFirst s (s.codeTaken e p)
    { time := s.partTime, kind := .codeReceived, subject := e.val, old := payloadIndex p, new := (s.cfg.recordIndex term g).getD 255
      d1 := term.code, d2 := g.sum, d3 := g.length, d4 := s.codeEffect e (s.cfg.classOf (s.cfg.recordIndex term g)) } := by
  rw [codeTaken_sound hg ht, ← indexCode_eq]
  have recorded : RecordedFirst s (s.codeRecorded e p g term) _ := ⟨[], append_recorded (s.modBell e _) _⟩
  exact recorded.then (actOnCode_aftermath ..)

theorem codeTaken_lastIn (hg : payloadGroups p = some g) (ht : payloadTermination p = some term) : (s.codeTaken e p).bells[e].lastIn =
    some { groups := g, termination := term, index := s.cfg.recordIndex term g, time := unitsAt s.now } := by
  rw [codeTaken_sound hg ht, actOnCode_lastIn, codeRecorded_bell]

/-- A CODE that has no effect of class. -/
theorem codeTaken_nothing (hg : payloadGroups p = some g) (ht : payloadTermination p = some term)
    (h : s.codeEffect e (s.cfg.classOf (s.cfg.recordIndex term g)) = 0 ∨ s.codeEffect e (s.cfg.classOf (s.cfg.recordIndex term g)) = 2) :
    (s.codeTaken e p).blocks = s.blocks ∧ (s.codeTaken e p).bells[e].offer = s.bells[e].offer := by
  rw [codeTaken_sound hg ht, actOnCode_nothing _ _ _ h, codeRecorded_bell]
  exact ⟨codeRecorded_blocks .., rfl⟩

end

/-- Settles O45. -/
theorem receivedCodeActs : Obligations.ReceivedCodeActs := by
  refine ⟨fun s e f hk => ?_, fun p g term hp => ⟨payloadGroups_iff p g hp, ofCode_iff _ term⟩, fun s e f g term hk => ?_⟩
  · dsimp only
    rw [deliver_beat hk]
    unfold State.beatTaken
    refine ⟨fun off => if_pos off, fun on room => ?_, fun on full => ?_⟩
    · rw [if_neg on, if_pos room]
      simp only [at_one]
      rfl
    · rw [if_neg on, if_neg (by omega)]
      rfl
  · dsimp only
    rw [deliver_code hk]
    refine ⟨codeTaken_invalid, fun hg ht => ?_⟩
    have sound := codeTaken_sound (s := s) (e := e) hg ht
    have blocks := codeRecorded_blocks s e f.payload g term
    refine ⟨codeTaken_lastIn hg ht, codeTaken_recordedFirst hg ht, fun k hi cls normal => ?_, fun cls other => ?_, fun cls on => ?_,
      fun cls on => ?_, fun cls => ?_, fun idle => ?_⟩
    · rw [sound, cls, codeEffect_offer normal, hi, actOnCode_offer, State.modBell_bells, upd_self]
      exact ⟨rfl, blocks⟩
    · exact (codeTaken_nothing hg ht (by rw [cls]; exact codeEffect_offer_elsewhere other)).symm
    · rw [sound, cls, codeEffect_cancel on, actOnCode_cancel, State.clearOffer, State.modBell_bells, upd_self]
      exact ⟨rfl, blocks⟩
    · rw [sound, cls, codeEffect_obstruction on, actOnCode_obstruct, obstruct_state (by rwa [blocks])]
    · by_cases off : s.blocks[e].state = .inactive
      · rw [(codeTaken_nothing hg ht (.inl (codeEffect_idle (.inl off)))).1, off]
        rfl
      · rw [sound, cls, codeEffect_removed off, actOnCode_unobstruct, unobstruct_state, blocks]
    · exact codeTaken_nothing hg ht (.inl (codeEffect_idle idle))

end Sys2Proof.Machine
end

section
/-! PROOFS. The proposal of a change of the part's state (R165, R170, R173, R176): what is queued and recorded for it. -/

namespace Sys2Proof.Machine

/-! ### Requests outside PROPOSING_OUT -/

section
variable {s : State}

/-- Outside PROPOSING_OUT a request leaves the switching controller as it was. -/
theorem request_switching_eq (h : s.switching.state ≠ .proposingOut) (k : FrameKind) (e : EndNo) (dest : Nat) (payload : List Byte) :
    (s.request k e dest payload).switching = s.switching := by
  have kept := (request_acts (σ := .asking k e) s ⟨rfl, rfl⟩ dest payload).switching id
  have watch := kept.watch.resolve_right fun ⟨moved, _⟩ => moved.elim fun _ h => h
  rw [kept.rest, watch, kept.failing h]

theorem requestSwitch_switching (h : s.switching.state ≠ .proposingOut) (k : FrameKind) (e : EndNo) (payload : List Byte) :
    (s.requestSwitch k e payload).switching = s.switching := request_switching_eq h ..

theorem requestSwitch_acts (s : State) (k : FrameKind) (e : EndNo) (payload : List Byte) : Acts (.asking k e) s (s.requestSwitch k e payload) :=
  request_acts (σ := .asking k e) s ⟨rfl, rfl⟩ ..

/-! ### The proposal formed (R165, R173) -/

/-- Both SWITCH_PROPOSE frames are queued, and the proposal stands. -/
def State.proposed (s : State) (d : Direction) : State :=
  ((s.requestSwitch .switchPropose s.first (s.neighbourPayload d)).requestSwitch .switchPropose s.second (s.neighbourPayload d)).formProposal d

theorem formProposal_switching (s : State) (d : Direction) : (s.formProposal d).switching = { s.switching with
    state := d.proposing, agreement := some { direction := d, until_ := s.now + secs 10 }, startWatch := false } := by
  unfold State.formProposal
  rw [switchRecord_switching]
  rfl

theorem proposed_base (s : State) (d : Direction) : (s.proposed d).base = s.base := by simp [State.proposed, State.requestSwitch]

theorem proposed_switching (h : s.switching.state ≠ .proposingOut) (d : Direction) : (s.proposed d).switching = { s.switching with
    state := d.proposing, agreement := some { direction := d, until_ := s.now + secs 10 }, startWatch := false } := by
  obtain ⟨u, hu⟩ : ∃ u, u = s.requestSwitch .switchPropose s.first (s.neighbourPayload d) := ⟨_, rfl⟩
  have first : u.switching = s.switching := hu ▸ requestSwitch_switching h ..
  have now : (u.requestSwitch .switchPropose s.second (s.neighbourPayload d)).now = s.now :=
    (State.base_eq (by simp [hu, State.requestSwitch])).1
  rw [State.proposed, ← hu, formProposal_switching, requestSwitch_switching (by rwa [first]), first, now]

theorem proposed_slots {n m : Nat} (d : Direction) (hn : s.answerTo .switchPropose s.first = .queued n)
    (hm : (s.requestSwitch .switchPropose s.first (s.neighbourPayload d)).answerTo .switchPropose s.second = .queued m) :
    (s.proposed d).slotHolds .switchPropose s.first s.cfg.ends[s.first].directId (s.neighbourPayload d) n ∧
      (s.proposed d).slotHolds .switchPropose s.second s.cfg.ends[s.second].directId (s.neighbourPayload d) m := by
  obtain ⟨u, hu⟩ : ∃ u, u = s.requestSwitch .switchPropose s.first (s.neighbourPayload d) := ⟨_, rfl⟩
  have cfg : u.cfg = s.cfg := cfg_of_base (by simp [hu, State.requestSwitch])
  have first : u.slotHolds .switchPropose s.first s.cfg.ends[s.first].directId (s.neighbourPayload d) n := hu ▸ request_slotHolds hn _ _
  rw [← hu] at hm
  have second := request_slotHolds hm u.cfg.ends[s.second].directId (s.neighbourPayload d)
  have kept := (requestSwitch_acts u .switchPropose s.second (s.neighbourPayload d)).slotHolds rfl first
  rw [cfg] at second
  have line : (s.proposed d).line = (u.requestSwitch .switchPropose s.second (s.neighbourPayload d)).line := by
    rw [State.proposed, ← hu, formProposal_line]
  unfold State.slotHolds at *
  rw [line]
  exact ⟨kept, by simpa only [State.requestSwitch, cfg] using second⟩

theorem proposed_records (s : State) (d : Direction) : ∃ l r, Recorded s (s.proposed d) l ∧ l.getLast? = some r ∧ r.kind = .switching ∧
    r.subject = 255 ∧ r.old = d.code ∧ r.new = 1 := by
  obtain ⟨l, hl, -⟩ := (requestSwitch_acts s .switchPropose s.first (s.neighbourPayload d)).records
  obtain ⟨m, hm, -⟩ := (requestSwitch_acts (s.requestSwitch .switchPropose s.first (s.neighbourPayload d)) .switchPropose s.second
    (s.neighbourPayload d)).records
  obtain ⟨x, hx, kind, subject, old, new, -⟩ := switchRecord_recorded
    (((s.requestSwitch .switchPropose s.first (s.neighbourPayload d)).requestSwitch .switchPropose s.second (s.neighbourPayload d)).modSwitching
      fun w => { w with
        state := d.proposing, startWatch := false
        agreement := some { direction := d, until_ := State.now _ + agreementTime } }) .both d.code .proposed none none
  exact ⟨l ++ m ++ [x], x, recorded_trans (recorded_trans hl hm) hx, by simp, kind, subject, old, new⟩

theorem refuseLocally_settle (hq : s.quiet) (d : Direction) (r : SwitchReason) (k : Concern) :
    (s.refuseLocally d r k).settle = s.switchRecord k d.code .refusedLocally (some r) none :=
  settle_quiet (show (s.switchRecord ..).switching.failing = none by rwa [switchRecord_switching])

/-- What is queued and recorded for a proposal (R165, R173), where the controller is not proposing already. -/
theorem sendProposals_proposes (hq : s.quiet) (h : s.switching.state ≠ .proposingOut) (d : Direction) :
    s.proposes (s.sendProposals d).settle d := by
  obtain ⟨u, hu⟩ : ∃ u, u = s.requestSwitch .switchPropose s.first (s.neighbourPayload d) := ⟨_, rfl⟩
  have first : u.switching = s.switching := hu ▸ requestSwitch_switching h ..
  refine ⟨fun refused => ?_, fun n queued => ⟨fun refused => ?_, fun m queued' => ?_⟩⟩
  · have sent : s.sendProposals d = s.refuseLocally d .slots (s.neighbourOf s.first) := by
      unfold State.sendProposals
      rw [refused]
      rfl
    rw [sent, refuseLocally_settle hq]
    rfl
  · have sent : s.sendProposals d = (u.requestSwitch .switchAbandon s.first [byte d.code]).refuseLocally d .slots (s.neighbourOf s.second) := by
      unfold State.sendProposals
      rw [queued]
      dsimp only [Answer.seq]
      rw [show (s.requestSwitch .switchPropose s.first (s.neighbourPayload d)).answerTo .switchPropose s.second = .refused from refused, hu]
      rfl
    have quiet : (u.requestSwitch .switchAbandon s.first [byte d.code]).quiet := by
      unfold State.quiet
      rwa [requestSwitch_switching (by rwa [first]), first]
    rw [sent, refuseLocally_settle quiet, hu]
    rfl
  · have sent : s.sendProposals d = s.proposed d := by
      unfold State.sendProposals
      rw [queued]
      dsimp only [Answer.seq]
      rw [show (s.requestSwitch .switchPropose s.first (s.neighbourPayload d)).answerTo .switchPropose s.second = .queued m from queued']
      rfl
    have switching := proposed_switching h d
    obtain ⟨-, -, -, -, levers, -⟩ := State.base_eq (proposed_base s d)
    obtain ⟨holds, holds'⟩ := proposed_slots d queued queued'
    have quiet : (s.proposed d).quiet := by
      unfold State.quiet
      rw [switching]
      exact hq
    rw [sent, settle_quiet quiet]
    exact ⟨State.sameFrame_of_base (proposed_base s d), by simp [State.proposed], levers, switching, holds, holds', proposed_records s d⟩

/-- The checks of R165 look at the links alone of the line controller. -/
theorem proposalConditions_congr {l : Line} (h : l.link = s.line.link) : { s with line := l }.proposalConditions = s.proposalConditions := by
  unfold State.proposalConditions State.checkLinks State.designatedCheck
  rw [h]
  rfl

end

end Sys2Proof.Machine
end

section
/-! PROOFS. The STATUS that waits, is queued or is owed (R109 to R112), and the end of the listening period (R165, R175, R187), with O40. -/

namespace Sys2Proof.Machine

/-! ### Empty slots, and a waiting STATUS -/

/-- The number of empty slots. -/
def Line.free (l : Line) : Nat := (l.slots.toList.filter (·.isNone)).length

/-- A slot holds a STATUS of an end. -/
def Line.holdsStatus (l : Line) (e : EndNo) : Prop := ∃ i : Fin 8, ∃ f, l.slots[i] = some f ∧ f.kind = .status ∧ f.e = e

theorem statusWaits_iff (l : Line) (e : EndNo) :
    (l.slots.toList.any fun x => x.any fun f => decide (f.kind = .status) && decide (f.e = e)) = true ↔ l.holdsStatus e := by
  rw [Vector.any_toList, Vector.any_eq_true]
  constructor
  · rintro ⟨i, hi, h⟩
    obtain ⟨f, hf, h⟩ := (Option.any_eq_true ..).mp h
    exact ⟨⟨i, hi⟩, f, hf, by simpa using h⟩
  · rintro ⟨i, f, hf, hk, he⟩
    exact ⟨i, i.isLt, by simpa [show l.slots[i.val] = some f from hf] using ⟨hk, he⟩⟩

theorem free_eq_countP (l : Line) : l.free = l.slots.toList.countP (·.isNone) := List.countP_eq_length_filter.symm

theorem free_pos_iff (l : Line) : 0 < l.free ↔ l.emptySlot ≠ none := by
  rw [free_eq_countP, List.countP_pos_iff, Ne, emptySlot_eq_none_iff]
  simp only [not_forall, not_not]
  constructor
  · rintro ⟨x, hx, none⟩
    obtain ⟨i, hi, rfl⟩ := List.mem_iff_getElem.mp hx
    exact ⟨⟨i, by simpa using hi⟩, by simpa using none⟩
  · rintro ⟨i, hi⟩
    exact ⟨none, hi ▸ by simp, rfl⟩

theorem emptySlot_of_free {l : Line} (h : 0 < l.free) : ∃ i, l.emptySlot = some i := Option.ne_none_iff_exists'.mp ((free_pos_iff l).mp h)

/-- A frame that enters an empty slot leaves one fewer. -/
theorem free_place {l : Line} {i : Fin 8} (h : l.slots[i] = none) (f : Frame) : (l.place i f).free + 1 = l.free := by
  have some : 0 < l.free := (free_pos_iff l).mpr (emptySlot_ne_none h)
  have isNone : (l.slots.toList[i.val]'(by simp)).isNone = true := by
    simpa using congrArg Option.isNone h
  have count : (l.place i f).free = l.free - 1 := by
    rw [free_eq_countP, free_eq_countP]
    show (l.slots.set i _).toList.countP _ = _
    rw [Vector.toList_set, List.countP_set (by simp), if_pos isNone]
    rfl
  omega

theorem free_refresh {l : Line} {i : Fin 8} {f : Frame} (h : l.slots[i] = some f) (g : Frame) :
    ({ l with slots := l.slots.set i (some g) } : Line).free = l.free := by
  have isSome : ¬(l.slots.toList[i.val]'(by simp)).isNone = true := by
    simp [show l.slots[i.val] = some f from h]
  rw [free_eq_countP, free_eq_countP]
  show (l.slots.set i _).toList.countP _ = _
  rw [Vector.toList_set, List.countP_set (by simp), if_neg isSome]
  rfl

/-! ### A STATUS raised for an end (R109 to R112) -/

section
variable {s : State} {e : EndNo} {i : Fin 8} {f : Frame}

theorem raiseStatus_merged (hi : s.line.slotOf .status e = some i) (hf : s.line.slots[i] = some f) :
    s.raiseStatus e = s.modLine fun l => { l with slots := l.slots.set i (some f.coalesce) } := by
  unfold State.raiseStatus
  rw [hi]
  dsimp only [State.modLine]
  rw [modSlot_some _ _ hf]

theorem raiseStatus_placed (none_ : s.line.slotOf .status e = none) (hi : s.line.emptySlot = some i) :
    s.raiseStatus e = s.modLine fun l => l.place i { kind := .status, e := e, dest := s.peerId e } := by
  unfold State.raiseStatus
  rw [none_, hi]

theorem raiseStatus_unplaced (none_ : s.line.slotOf .status e = none) (full : s.line.emptySlot = none) :
    s.raiseStatus e = s.modLine fun l => { l with owed := l.owed.set e true } := by
  unfold State.raiseStatus
  rw [none_, full]

theorem coalesce_eq (f : Frame) : f.coalesce = if f.onLine then { f with attempts := 0, renewed := true } else { f with attempts := 0 } := by
  unfold Frame.coalesce
  cases f.onLine <;> simp

theorem slotOf_none_of (h : ¬s.line.holdsStatus e) : s.line.slotOf .status e = none := by
  by_contra hn
  exact h ((slotOf_ne_none_iff ..).mp hn)

theorem slotOf_some_of (h : s.line.holdsStatus e) : ∃ (i : Fin 8) (f : Frame), s.line.slotOf .status e = some i ∧
    s.line.slots[i] = some f ∧ f.kind = .status ∧ f.e = e := by
  obtain ⟨i, hi⟩ := Option.ne_none_iff_exists'.mp ((slotOf_ne_none_iff ..).mpr h)
  obtain ⟨f, hf, hk, he⟩ := slotOf_some hi
  exact ⟨i, f, hi, hf, hk, he⟩

/-- Raising a STATUS changes the line alone, and there the slots, the numbers and the marks. -/
theorem raiseStatus_rest (s : State) (e : EndNo) : s.raiseStatus e = { s with line := { s.line with
    slots := (s.raiseStatus e).line.slots, nextSeq := (s.raiseStatus e).line.nextSeq, owed := (s.raiseStatus e).line.owed } } := by
  unfold State.raiseStatus
  (repeat' split) <;> rfl

/-- A STATUS waits alone: the one raised is merged into it (R109). -/
theorem raiseStatus_merges (hf : s.line.slots[i] = some f) (status : f.kind = .status ∧ f.e = e)
    (alone : ∀ (j : Fin 8) (g : Frame), s.line.slots[j] = some g → g.kind = .status ∧ g.e = e → j = i) :
    (s.raiseStatus e).line.slots = s.line.slots.set i
        (some (if f.onLine then { f with attempts := 0, renewed := true } else { f with attempts := 0 })) ∧
      (s.raiseStatus e).line.owed = s.line.owed := by
  obtain ⟨j, g, hj, hg, hk⟩ := slotOf_some_of ⟨i, f, hf, status⟩
  have same := alone j g hg hk
  subst same
  cases hf.symm.trans hg
  rw [raiseStatus_merged hj hf, coalesce_eq]
  exact ⟨rfl, rfl⟩

/-- No STATUS waits and a slot is empty: the one raised takes it (R110). -/
theorem raiseStatus_queues (alone : ¬s.line.holdsStatus e) (room : 0 < s.line.free) :
    (s.raiseStatus e).slotHolds .status e (s.peerId e) [] s.line.nextSeq ∧ (s.raiseStatus e).line.owed = s.line.owed ∧
      ∀ (i : Fin 8) (f : Frame), s.line.slots[i] = some f → (s.raiseStatus e).line.slots[i] = some f := by
  obtain ⟨i, hi⟩ := emptySlot_of_free room
  rw [raiseStatus_placed (slotOf_none_of alone) hi]
  refine ⟨⟨i, _, slot_set_self .., rfl, rfl, rfl, rfl, rfl⟩, rfl, fun j f hf => (slot_set_ne _ _ fun hj => ?_).trans hf⟩
  subst hj
  cases (emptySlot_none hi).symm.trans hf

/-- No STATUS waits and all slots are full: the one raised is owed (R112). -/
theorem raiseStatus_owes (alone : ¬s.line.holdsStatus e) (full : s.line.free = 0) :
    (s.raiseStatus e).line.slots = s.line.slots ∧ (s.raiseStatus e).line.owed = s.line.owed.set e true := by
  have none_ : s.line.emptySlot = none := by
    by_contra h
    exact absurd ((free_pos_iff _).mpr h) (by omega)
  rw [raiseStatus_unplaced (slotOf_none_of alone) none_]
  exact ⟨rfl, rfl⟩

end

/-! ### The refresh timer (R111) -/

/-- A refresh timer has stopped, and no STATUS has been raised yet. -/
def State.unrefreshed (s : State) (e : EndNo) : State := s.modLine fun l => { l with refresh := l.refresh.set e none }

theorem statusRefreshExpiry_eq {s : State} {e : EndNo} (active : s.active = true) (due : expired s.now s.line.refresh[e] = true) :
    s.statusRefreshExpiry e = (s.unrefreshed e).raiseStatus e := if_pos (by rw [active, due]; rfl)

/-! ### The STATUS owed, served in order of end (R112, R187) -/

/-- From one line to another an end's owed STATUS has been served: only its frame and its mark are touched. -/
structure Line.Serves (l m : Line) (e : EndNo) : Prop where
  rest : m = { l with slots := m.slots, nextSeq := m.nextSeq, owed := m.owed }
  kept : ∀ (j : Fin 8) (f : Frame), l.slots[j] = some f → ¬(f.kind = .status ∧ f.e = e) → m.slots[j] = some f
  others : ∀ (j : Fin 8) (f : Frame), m.slots[j] = some f → ¬(f.kind = .status ∧ f.e = e) → l.slots[j] = some f
  owed : ∀ e' : EndNo, e' ≠ e → m.owed[e'] = l.owed[e']

/-- How an end's owed STATUS is served: merged, queued, or owed still. -/
inductive Line.Served (l m : Line) (e : EndNo) (dest : Nat) : Prop
  | merged : l.holdsStatus e → m.owed[e] = false → m.free = l.free → m.nextSeq = l.nextSeq → Served l m e dest
  | queued : ¬l.holdsStatus e → m.owed[e] = false → m.free + 1 = l.free → m.nextSeq = l.nextSeq + 1 →
      (∃ i : Fin 8, ∃ f, m.slots[i] = some f ∧ f.kind = .status ∧ f.e = e ∧ f.dest = dest ∧ f.payload = [] ∧ f.seq = l.nextSeq) →
      Served l m e dest
  | owed : ¬l.holdsStatus e → m.owed[e] = true → l.free = 0 → m.slots = l.slots → m.nextSeq = l.nextSeq → Served l m e dest

theorem Line.Serves.holds {l m : Line} {e : EndNo} (h : l.Serves m e) {e' : EndNo} (he : e' ≠ e) : m.holdsStatus e' ↔ l.holdsStatus e' := by
  have apart {f : Frame} (hf : f.e = e') : ¬(f.kind = .status ∧ f.e = e) := fun ⟨_, h⟩ => he (hf.symm.trans h)
  exact ⟨fun ⟨i, f, hf, hk, h'⟩ => ⟨i, f, h.others i f hf (apart h'), hk, h'⟩,
    fun ⟨i, f, hf, hk, h'⟩ => ⟨i, f, h.kept i f hf (apart h'), hk, h'⟩⟩

theorem serves_refresh {l : Line} {e : EndNo} {i : Fin 8} {f g : Frame} {b : Bool} (hf : l.slots[i] = some f) (hk : f.kind = .status ∧ f.e = e)
    (hg : g.kind = f.kind ∧ g.e = f.e) : l.Serves { l with slots := l.slots.set i (some g), owed := l.owed.set e b } e := by
  refine ⟨rfl, fun j x hx hn => ?_, fun j x hx hn => ?_, fun e' he => slot_set_ne _ _ he.symm⟩
  · by_cases hj : i = j
    · subst hj
      cases hf.symm.trans hx
      exact absurd hk hn
    · exact (slot_set_ne _ _ hj).trans hx
  · rcases mem_set (show x ∈ (l.slots.set i (some g))[j] from hx) with ⟨-, hx⟩ | ⟨-, hx⟩
    · cases hx
      exact absurd ⟨hg.1.trans hk.1, hg.2.trans hk.2⟩ hn
    · exact hx

theorem serves_place {l : Line} {e : EndNo} {i : Fin 8} {g : Frame} {b : Bool} (hf : l.slots[i] = none) (hg : g.kind = .status ∧ g.e = e) :
    l.Serves ({ l with owed := l.owed.set e b }.place i g) e := by
  refine ⟨rfl, fun j x hx hn => ?_, fun j x hx hn => ?_, fun e' he => slot_set_ne _ _ he.symm⟩
  · refine (slot_set_ne _ _ fun hj => ?_).trans hx
    subst hj
    cases hf.symm.trans hx
  · rcases mem_set (show x ∈ (l.slots.set i _)[j] from hx) with ⟨-, hx⟩ | ⟨-, hx⟩
    · cases hx
      exact absurd hg hn
    · exact hx

theorem serves_owe (l : Line) (e : EndNo) (b : Bool) : l.Serves { l with owed := l.owed.set e b } e :=
  ⟨rfl, fun _ _ h _ => h, fun _ _ h _ => h, fun _ he => slot_set_ne _ _ he.symm⟩

theorem serveOwed_serves (s : State) (e : EndNo) :
    s.line.Serves (s.serveOwed e).line e ∧ s.line.Served (s.serveOwed e).line e (s.peerId e) := by
  obtain ⟨u, hu⟩ : ∃ u, u = s.modLine fun l => { l with owed := l.owed.set e false } := ⟨_, rfl⟩
  have slots : u.line.slots = s.line.slots := by rw [hu]; rfl
  have holds : u.line.holdsStatus e ↔ s.line.holdsStatus e := by unfold Line.holdsStatus; rw [slots]
  have serve : s.serveOwed e = u.raiseStatus e := by rw [hu]; rfl
  rw [serve]
  by_cases hs : s.line.holdsStatus e
  · obtain ⟨i, f, hi, hf, hk, he⟩ := slotOf_some_of (holds.mpr hs)
    rw [raiseStatus_merged hi hf]
    subst hu
    exact ⟨serves_refresh hf ⟨hk, he⟩ ⟨rfl, rfl⟩, .merged hs (slot_set_self ..) (free_refresh hf _) rfl⟩
  · have none_ := slotOf_none_of (fun h => hs (holds.mp h))
    cases full : u.line.emptySlot with
    | some i =>
      have empty := emptySlot_none full
      rw [raiseStatus_placed none_ full]
      subst hu
      exact ⟨serves_place empty ⟨rfl, rfl⟩, .queued hs (slot_set_self ..) (free_place empty _) rfl
        ⟨i, _, slot_set_self .., rfl, rfl, rfl, rfl, rfl⟩⟩
    | none =>
      rw [raiseStatus_unplaced none_ full]
      have free : u.line.free = 0 := Nat.eq_zero_of_not_pos fun h => (free_pos_iff _).mp h full
      have twice : (u.modLine fun l => { l with owed := l.owed.set e true }) = s.modLine fun l => { l with owed := l.owed.set e true } := by
        rw [hu]
        simp [State.modLine]
      rw [twice]
      refine ⟨serves_owe .., .owed hs (slot_set_self ..) ?_ rfl rfl⟩
      rw [← free]
      unfold Line.free
      rw [slots]

/-! ### The three ends in turn -/

/-- An end whose STATUS is owed and does not wait. -/
def State.needs (s : State) (e : EndNo) : Bool :=
  s.line.owed[e] && !s.line.slots.toList.any fun x => x.any fun f => decide (f.kind = .status) && decide (f.e = e)

/-- How many such ends there are below a number. -/
def State.before (s : State) (k : Nat) : Nat := (ends.filter fun e => decide (e.val < k) && s.needs e).length

theorem needs_iff (s : State) (e : EndNo) : s.needs e = true ↔ s.line.owed[e] = true ∧ ¬s.line.holdsStatus e := by
  rw [State.needs, Bool.and_eq_true, ← statusWaits_iff, Bool.not_eq_true', Bool.not_eq_true]

theorem filter_below_succ (needs : EndNo → Bool) (e : EndNo) : (ends.filter fun e' => decide (e'.val < e.val + 1) && needs e').length =
    (ends.filter fun e' => decide (e'.val < e.val) && needs e').length + if needs e then 1 else 0 := by
  revert e needs
  decide

theorem before_succ (s : State) (e : EndNo) : s.before (e.val + 1) = s.before e.val + if s.needs e then 1 else 0 :=
  filter_below_succ s.needs e

theorem before_zero (s : State) : s.before 0 = 0 := by simp [State.before]

/-- The ends below a number have been served. -/
structure State.ServedBelow (s : State) (k : Nat) (v : State) : Prop where
  rest : v = { s with line := { s.line with
    listenUntil := none, slots := v.line.slots, nextSeq := v.line.nextSeq, owed := v.line.owed } }
  kept : ∀ (i : Fin 8) (f : Frame), s.line.slots[i] = some f → f.kind ≠ .status ∨ s.line.owed[f.e] = false → v.line.slots[i] = some f
  later : ∀ e : EndNo, k ≤ e.val → v.line.owed[e] = s.line.owed[e] ∧ (v.line.holdsStatus e ↔ s.line.holdsStatus e)
  cleared : ∀ e : EndNo, e.val < k → s.line.owed[e] = false ∨ s.line.holdsStatus e → v.line.owed[e] = false
  queued : ∀ e : EndNo, e.val < k → s.needs e = true → s.before e.val < s.line.free →
    v.line.owed[e] = false ∧ v.slotHolds .status e (s.peerId e) [] (s.line.nextSeq + s.before e.val)
  unserved : ∀ e : EndNo, e.val < k → s.needs e = true → s.line.free ≤ s.before e.val → v.line.owed[e] = true ∧ ¬v.line.holdsStatus e
  free : v.line.free = s.line.free - s.before k
  number : v.line.nextSeq = s.line.nextSeq + min (s.before k) s.line.free

/-- One end's turn. -/
def State.serveEnd (s : State) (e : EndNo) : State := if s.line.owed[e] then s.serveOwed e else s

theorem servedBelow_zero (s : State) : s.ServedBelow 0 (s.modLine fun l => { l with listenUntil := none }) where
  rest := rfl
  kept _ _ h _ := h
  later _ _ := ⟨rfl, Iff.rfl⟩
  cleared _ h := absurd h (Nat.not_lt_zero _)
  queued _ h := absurd h (Nat.not_lt_zero _)
  unserved _ h := absurd h (Nat.not_lt_zero _)
  free := by rw [before_zero]; rfl
  number := by rw [before_zero, Nat.zero_min]; rfl

section
variable {s v : State} {e : EndNo}

/-- The turn of an end to which nothing is owed. -/
theorem servedBelow_skip (h : s.ServedBelow e.val v) (unowed : s.line.owed[e] = false) : s.ServedBelow (e.val + 1) v := by
  have needless : s.needs e = false := Bool.eq_false_iff.mpr fun hn => by cases unowed.symm.trans ((needs_iff s e).mp hn).1
  have same : s.before (e.val + 1) = s.before e.val := by rw [before_succ, needless]; rfl
  have below {e' : EndNo} (he : e'.val < e.val + 1) : e'.val < e.val ∨ e' = e := by
    rw [← Fin.val_inj]
    omega
  refine ⟨h.rest, h.kept, fun e' he => h.later e' (by omega), fun e' he hc => ?_, fun e' he hn => ?_, fun e' he hn => ?_,
    by rw [same]; exact h.free, by rw [same]; exact h.number⟩
  · rcases below he with he | rfl
    · exact h.cleared e' he hc
    · exact (h.later e' (Nat.le_refl _)).1.trans unowed
  · rcases below he with he | rfl
    · exact h.queued e' he hn
    · cases needless.symm.trans hn
  · rcases below he with he | rfl
    · exact h.unserved e' he hn
    · cases needless.symm.trans hn

theorem serveOwed_state (s : State) (e : EndNo) : s.serveOwed e = { s with line := (s.serveOwed e).line } := by
  unfold State.serveOwed
  rw [raiseStatus_rest]
  rfl

/-- The turn of an end whose STATUS is owed. -/
theorem servedBelow_serve (h : s.ServedBelow e.val v) (owed : s.line.owed[e] = true) : s.ServedBelow (e.val + 1) (v.serveOwed e) := by
  obtain ⟨serves, served⟩ := serveOwed_serves v e
  obtain ⟨-, waiting⟩ := h.later e (Nat.le_refl _)
  have below {e' : EndNo} (he : e'.val < e.val + 1) : e'.val < e.val ∨ e' = e := by
    rw [← Fin.val_inj]
    omega
  have apart {e' : EndNo} (he : e'.val < e.val) : e' ≠ e := fun h => by rw [h] at he; omega
  have peer : v.peerId e = s.peerId e := by rw [h.rest]; rfl
  have count := before_succ s e
  have free := h.free
  have number := h.number
  refine ⟨?_, fun i f hf hk => ?_, fun e' he => ?_, fun e' he hc => ?_, fun e' he hn room => ?_, fun e' he hn full => ?_, ?_, ?_⟩
  · rw [serveOwed_state, serves.rest, h.rest]
  · refine serves.kept i f (h.kept i f hf hk) fun ⟨hs, he⟩ => ?_
    rcases hk with hk | hk
    · exact hk hs
    · subst he
      cases owed.symm.trans hk
  · have other : e' ≠ e := fun h => by rw [h] at he; omega
    obtain ⟨owed', holds⟩ := h.later e' (by omega)
    exact ⟨(serves.owed e' other).trans owed', (serves.holds other).trans holds⟩
  · rcases below he with he | rfl
    · exact (serves.owed e' (apart he)).trans (h.cleared e' he hc)
    · have waits := hc.resolve_left (by rw [owed]; decide)
      cases served with
      | merged _ cleared => exact cleared
      | queued alone => exact absurd (waiting.mpr waits) alone
      | owed alone => exact absurd (waiting.mpr waits) alone
  · rcases below he with he | rfl
    · obtain ⟨cleared, i, f, hf, hk, hfe, hr⟩ := h.queued e' he hn room
      exact ⟨(serves.owed e' (apart he)).trans cleared, i, f, serves.kept i f hf fun ⟨_, h⟩ => apart he (hfe.symm.trans h), hk, hfe, hr⟩
    · have alone := ((needs_iff s e').mp hn).2
      cases served with
      | merged waits => exact absurd (waiting.mp waits) alone
      | queued _ cleared _ _ holds =>
        rw [peer, number, Nat.min_eq_left (Nat.le_of_lt room)] at holds
        exact ⟨cleared, holds⟩
      | owed _ _ none_ => omega
  · rcases below he with he | rfl
    · obtain ⟨still, alone⟩ := h.unserved e' he hn full
      exact ⟨(serves.owed e' (apart he)).trans still, fun hs => alone ((serves.holds (apart he)).mp hs)⟩
    · have alone := ((needs_iff s e').mp hn).2
      cases served with
      | merged waits => exact absurd (waiting.mp waits) alone
      | queued _ _ left => omega
      | owed none_ still _ slots =>
        refine ⟨still, fun hs => none_ ?_⟩
        unfold Line.holdsStatus at hs ⊢
        rwa [slots] at hs
  all_goals
    cases served with
    | merged waits _ left seq =>
      have needless : s.needs e = false := Bool.eq_false_iff.mpr fun hn => ((needs_iff s e).mp hn).2 (waiting.mp waits)
      rw [needless, if_neg (by decide)] at count
      omega
    | queued alone _ left seq =>
      rw [(needs_iff s e).mpr ⟨owed, fun hs => alone (waiting.mpr hs)⟩, if_pos rfl] at count
      omega
    | owed alone _ none_ slots seq =>
      have same : (v.serveOwed e).line.free = v.line.free := by unfold Line.free; rw [slots]
      rw [(needs_iff s e).mpr ⟨owed, fun hs => alone (waiting.mpr hs)⟩, if_pos rfl] at count
      omega

theorem servedBelow_succ (h : s.ServedBelow e.val v) : s.ServedBelow (e.val + 1) (v.serveEnd e) := by
  unfold State.serveEnd
  rw [(h.later e (Nat.le_refl _)).1]
  cases owed : s.line.owed[e]
  · exact servedBelow_skip h owed
  · exact servedBelow_serve h owed

end

/-- The state in which every STATUS owed has been served. -/
def State.served (s : State) : State := ends.foldl State.serveEnd (s.modLine fun l => { l with listenUntil := none })

theorem served_below (s : State) : s.ServedBelow 3 s.served :=
  servedBelow_succ (e := 2) (servedBelow_succ (e := 1) (servedBelow_succ (e := 0) (servedBelow_zero s)))

theorem listeningPeriodEnd_eq {s : State} (active : s.active = true) (due : expired s.now s.line.listenUntil = true) :
    s.listeningPeriodEnd = s.served.judgeKeyAtStart := if_pos (by rw [active, due]; rfl)

/-! ### The key found at OUT (R165, R175) -/

section
variable {s : State}

/-- The key found at OUT is to be judged. -/
def State.keyJudged (s : State) : Prop :=
  s.switching.startWatch = true ∧ s.switching.proved = some .keyOut ∧ s.switching.state = .inUse

theorem judgeKeyAtStart_idle (h : ¬s.keyJudged) : s.judgeKeyAtStart = s := if_neg h

theorem judgeKeyAtStart_refused (h : s.keyJudged) {x : Failing} (hx : s.proposalConditions = some x) :
    s.judgeKeyAtStart = s.refuseLocally .out x.reason x.concern := by
  refine (if_pos h).trans ?_
  unfold State.proposeOut
  rw [hx]

theorem judgeKeyAtStart_proposes (h : s.keyJudged) (hx : s.proposalConditions = none) : s.judgeKeyAtStart = s.sendProposals .out := by
  refine (if_pos h).trans ?_
  unfold State.proposeOut
  rw [hx]

end

/-! ### What the end of the listening period leaves -/

theorem sendProposals_promised {s : State} {e : EndNo} (h : s.statusPromised e) (d : Direction) : (s.sendProposals d).statusPromised e := by
  have asked (u : State) (k : FrameKind) (e : EndNo) (p : List Byte) : KeepsPromises u (u.requestSwitch k e p) := request_keepsPromises ..
  have recorded {u v : State} (hu : u.statusPromised e) (hl : v.line = u.line) : v.statusPromised e := by
    rwa [statusPromised_iff, hl]
  unfold State.sendProposals
  dsimp only
  split
  · exact recorded h (switchRecord_line ..)
  · split
    · exact recorded ((sendAbandon_keepsPromises _ d _ true).promised e ((asked _ _ _ _).promised e h)) (switchRecord_line ..)
    · exact recorded (((asked _ _ _ _).trans (asked _ _ _ _)).promised e h) (formProposal_line ..)

theorem judgeKeyAtStart_promised {s : State} {e : EndNo} (h : s.statusPromised e) : s.judgeKeyAtStart.statusPromised e := by
  by_cases judged : s.keyJudged
  · cases hx : s.proposalConditions with
    | none => rw [judgeKeyAtStart_proposes judged hx]; exact sendProposals_promised h _
    | some x =>
      rw [judgeKeyAtStart_refused judged hx, statusPromised_iff]
      unfold State.refuseLocally
      rwa [switchRecord_line]
  · rwa [judgeKeyAtStart_idle judged]

/-- A STATUS owed waits or is owed after every end's turn. -/
theorem served_promised {s : State} {e : EndNo} (owed : s.line.owed[e] = true) : s.served.statusPromised e := by
  have below := served_below s
  by_cases waits : s.line.holdsStatus e
  · have promised : (s.modLine fun l => { l with listenUntil := none }).statusPromised e := .inr owed
    refine (foldl_acts (σ := ⟨fun _ => False, fun _ _ => True, False⟩) ends State.serveEnd (fun u a _ => ?_) _).promised promised
    unfold State.serveEnd
    split
    · exact serveOwed_acts u trivial
    · exact .refl u
  · have needs := (needs_iff s e).mpr ⟨owed, waits⟩
    by_cases room : s.before e.val < s.line.free
    · obtain ⟨-, i, f, hf, hk, he, -⟩ := below.queued e e.isLt needs room
      exact .inl ⟨i, f, hf, hk, he⟩
    · exact .inr (below.unserved e e.isLt needs (Nat.le_of_not_lt room)).1

theorem served_base (s : State) : s.served.base = s.base := by
  rw [(served_below s).rest]
  rfl

/-- Settles O40: the refresh by the three cases of a STATUS raised, the listening period by the three ends in turn. -/
theorem statusIsRaisedOrOwed : Obligations.StatusIsRaisedOrOwed := by
  intro s quiet active
  refine ⟨fun e due => ?_, fun due => ⟨?_, ?_⟩⟩
  · have runs : exec (.statusRefreshExpiry e) s = .next ((s.unrefreshed e).raiseStatus e) :=
      next_quiet (statusRefreshExpiry_eq active due) (show State.quiet _ by unfold State.quiet; rwa [raiseStatus_switching])
    have rest := raiseStatus_rest (s.unrefreshed e) e
    refine ⟨_, runs, ?_, ?_, ?_, raiseStatus_promised .., fun i f => raiseStatus_merges (s := s.unrefreshed e),
      fun waits room => ?_, fun waits full => ?_⟩
    · rw [rest]; rfl
    · rw [rest]; rfl
    · rw [rest]; rfl
    · exact raiseStatus_queues (fun h => by cases waits.symm.trans ((statusWaits_iff ..).mpr h)) room
    · exact raiseStatus_owes (fun h => by cases waits.symm.trans ((statusWaits_iff ..).mpr h)) full
  · have runs : exec .listeningPeriodEnd s = .next s.served.judgeKeyAtStart.settle := next_settle (listeningPeriodEnd_eq active due)
    have orderly : s.served.Orderly s.served.judgeKeyAtStart.settle := by simp
    refine ⟨_, runs, State.sameFrame_of_base (by rw [settle_base, judgeKeyAtStart_base, served_base]), ?_, ?_, fun e owed => ?_⟩
    · rw [orderly.line.rest, (served_below s).rest]
    · rw [settle_blocks, judgeKeyAtStart_blocks, (served_below s).rest]
    · exact (settle_keepsPromises _).promised e (judgeKeyAtStart_promised (served_promised owed))
  · have below := served_below s
    have rest := below.rest
    have link : s.served.line.link = s.line.link := by rw [rest]
    have switching : s.served.switching = s.switching := by rw [rest]
    have conditions : s.served.proposalConditions = s.proposalConditions := by rw [rest]; exact proposalConditions_congr rfl
    have servedQuiet : s.served.quiet := by unfold State.quiet; rwa [switching]
    have judging : s.served.keyJudged ↔ s.keyJudged := by unfold State.keyJudged; rw [switching]
    have due := listeningPeriodEnd_eq active due
    refine ⟨s.served, by rw [rest], by rw [rest], link, by rw [rest], below.kept, fun e he => ?_, fun e owed waits => ?_, fun idle => ?_,
      fun x judged failed => ?_, fun judged passed => ?_⟩
    · exact below.cleared e e.isLt (he.imp id (statusWaits_iff ..).mp)
    · have alone : ¬s.line.holdsStatus e := fun h => by cases waits.symm.trans ((statusWaits_iff ..).mpr h)
      have needs := (needs_iff s e).mpr ⟨owed, alone⟩
      dsimp only
      simp only [Bool.and_assoc]
      refine ⟨fun room => below.queued e e.isLt needs room, fun full => ?_⟩
      obtain ⟨still, unheld⟩ := below.unserved e e.isLt needs full
      exact ⟨still, fun i f hf status => unheld ⟨i, f, hf, status⟩⟩
    · exact next_quiet (due.trans (judgeKeyAtStart_idle fun h => idle (judging.mp h))) servedQuiet
    · refine (next_settle (due.trans (judgeKeyAtStart_refused (judging.mpr judged) (conditions.trans failed)))).trans ?_
      rw [refuseLocally_settle servedQuiet]
      rfl
    · refine ⟨_, next_settle (due.trans (judgeKeyAtStart_proposes (judging.mpr judged) (conditions.trans passed))), ?_⟩
      exact sendProposals_proposes servedQuiet (by rw [switching, judged.2.2]; decide) .out

end Sys2Proof.Machine
end

section
/-! PROOFS. The frame codec (R92 to R97): the check, the header's fields, the characters judged, and the levels read, with O31. -/

namespace Sys2Proof.Machine

/-! ### The check (R96) -/

/-- One bit taken into the register: the polynomial is added where the bit differs from the register's highest. -/
def crcBit (r : BitVec 16) (bit : Bool) : BitVec 16 := if r.msb = bit then r <<< 1 else (r <<< 1) ^^^ 0x1021#16

/-- What is added to the register before a shift comes out shifted, its highest bit as the bit taken. -/
theorem crcShift_xor (r z : BitVec 16) : crcShift (r ^^^ z) = crcBit r z.msb ^^^ (z <<< 1) := by
  unfold crcShift crcBit
  rw [BitVec.msb_xor, BitVec.shiftLeft_xor_distrib]
  cases r.msb <;> cases z.msb <;> simp <;> ac_rfl

/-- The register takes a character most significant bit first. -/
theorem crcByte_eq (r : BitVec 16) (c : Byte) : crcByte r c = (List.range 8).foldl (fun r k => crcBit r (c.getLsbD (7 - k))) r := by
  have bit (k : Nat) (hk : k < 8) : ((c.setWidth 16 <<< 8) <<< k).msb = c.getLsbD (7 - k) := by
    rw [← BitVec.shiftLeft_add, BitVec.msb_eq_getLsbD_last, BitVec.getLsbD_shiftLeft]
    have inside : 16 - 1 - (8 + k) = 7 - k := by omega
    have first : ¬15 < 8 + k := by omega
    have low : 7 - k < 16 := by omega
    simp [inside, first, low]
  have step (k : Nat) (hk : k < 8) (r : BitVec 16) : crcShift (r ^^^ ((c.setWidth 16 <<< 8) <<< k)) =
      crcBit r (c.getLsbD (7 - k)) ^^^ ((c.setWidth 16 <<< 8) <<< (k + 1)) := by
    rw [crcShift_xor, bit k hk, BitVec.shiftLeft_add _ k 1]
  have start : r ^^^ (c.setWidth 16 <<< 8) = r ^^^ ((c.setWidth 16 <<< 8) <<< 0) := by simp
  have out : (c.setWidth 16 <<< 8) <<< 8 = 0#16 := by
    rw [← BitVec.shiftLeft_add]
    exact BitVec.shiftLeft_eq_zero (by decide)
  unfold crcByte
  rw [start, step 0 (by decide), step 1 (by decide), step 2 (by decide), step 3 (by decide), step 4 (by decide), step 5 (by decide),
    step 6 (by decide), step 7 (by decide), out, BitVec.xor_zero]
  rfl

/-! ### The fields of the header (R94) -/

theorem testBit_eq (n k : Nat) : n.testBit k = decide (n / 2 ^ k % 2 = 1) := Nat.testBit_eq_decide_div_mod_eq

theorem rev2_bit {v : Nat} (hv : v < 4) {k : Nat} (hk : k < 2) : (rev2 v).testBit k = v.testBit (1 - k) := by
  revert k v
  decide

theorem rev3_bit {v : Nat} (hv : v < 8) {k : Nat} (hk : k < 3) : (rev3 v).testBit k = v.testBit (2 - k) := by
  revert k v
  decide

theorem rev4_bit {v : Nat} (hv : v < 16) {k : Nat} (hk : k < 4) : (rev4 v).testBit k = v.testBit (3 - k) := by
  revert k v
  decide

theorem rev2_lt (v : Nat) : rev2 v < 4 := by unfold rev2; omega

theorem rev3_lt (v : Nat) : rev3 v < 8 := by unfold rev3; omega

theorem rev4_lt (v : Nat) : rev4 v < 16 := by unfold rev4; omega

theorem rev2_rev2 {v : Nat} (hv : v < 4) : rev2 (rev2 v) = v := by
  revert v
  decide

theorem rev3_rev3 {v : Nat} (hv : v < 8) : rev3 (rev3 v) = v := by
  revert v
  decide

theorem rev4_rev4 {v : Nat} (hv : v < 16) : rev4 (rev4 v) = v := by
  revert v
  decide

theorem byte_toNat {n : Nat} (h : n < 256) : (byte n).toNat = n := by
  rw [byte, BitVec.toNat_ofNat]
  exact Nat.mod_eq_of_lt h

/-- Two fields in a character: the low one of `m` bits, and the one above it. -/
theorem byte_fields {a b m p : Nat} (hp : p = 2 ^ m) (ha : a < p) {k : Nat} (hk : k < 8) :
    (byte (a + p * b)).getLsbD k = if k < m then a.testBit k else b.testBit (k - m) := by
  subst hp
  rw [byte, BitVec.getLsbD_ofNat, Nat.add_comm, Nat.testBit_two_pow_mul_add b ha, decide_eq_true hk, Bool.true_and]

theorem code_lt (k : FrameKind) : k.code < 16 := by cases k <;> decide

theorem cls_lt (k : FrameKind) : k.cls < 4 := by cases k <;> decide

theorem kindLength_le (k : FrameKind) : k.length ≤ 6 := by cases k <;> decide

theorem frameKind_ofCode_code (k : FrameKind) : FrameKind.ofCode k.code = some k := by cases k <;> rfl

/-- The first header character. -/
theorem header0_bits {cls sender : Nat} (hc : cls < 4) (hs : sender < 16) :
    (∀ k < 2, (byte (rev2 cls + 4 * rev4 sender)).getLsbD k = cls.testBit (1 - k)) ∧
      (∀ k < 4, (byte (rev2 cls + 4 * rev4 sender)).getLsbD (2 + k) = sender.testBit (3 - k)) ∧
      ∀ k < 2, (byte (rev2 cls + 4 * rev4 sender)).getLsbD (6 + k) = false := by
  refine ⟨fun k hk => ?_, fun k hk => ?_, fun k hk => ?_⟩
  · rw [byte_fields (m := 2) (p := 4) rfl (rev2_lt cls) (k := k) (by omega), if_pos hk, rev2_bit hc hk]
  · rw [byte_fields (m := 2) (p := 4) rfl (rev2_lt cls) (k := 2 + k) (by omega), if_neg (by omega), Nat.add_sub_cancel_left, rev4_bit hs hk]
  · rw [byte_fields (m := 2) (p := 4) rfl (rev2_lt cls) (k := 6 + k) (by omega), if_neg (by omega)]
    exact Nat.testBit_lt_two_pow (Nat.lt_of_lt_of_le (rev4_lt sender) (Nat.pow_le_pow_right (n := 2) (by decide) (by omega : 4 ≤ 6 + k - 2)))

/-- The second header character. -/
theorem header1_bits {code dest : Nat} (hc : code < 16) (hd : dest < 16) :
    (∀ k < 4, (byte (rev4 code + 16 * rev4 dest)).getLsbD k = code.testBit (3 - k)) ∧
      ∀ k < 4, (byte (rev4 code + 16 * rev4 dest)).getLsbD (4 + k) = dest.testBit (3 - k) := by
  refine ⟨fun k hk => ?_, fun k hk => ?_⟩
  · rw [byte_fields (m := 4) (p := 16) rfl (rev4_lt code) (k := k) (by omega), if_pos hk, rev4_bit hc hk]
  · rw [byte_fields (m := 4) (p := 16) rfl (rev4_lt code) (k := 4 + k) (by omega), if_neg (by omega), Nat.add_sub_cancel_left, rev4_bit hd hk]

/-- The third header character. -/
theorem header2_bits {e n : Nat} (he : e < 4) (hn : n < 8) :
    (∀ k < 2, (byte (rev2 e + 4 * rev3 n)).getLsbD k = e.testBit (1 - k)) ∧
      (∀ k < 3, (byte (rev2 e + 4 * rev3 n)).getLsbD (2 + k) = n.testBit (2 - k)) ∧
      ∀ k < 3, (byte (rev2 e + 4 * rev3 n)).getLsbD (5 + k) = false := by
  refine ⟨fun k hk => ?_, fun k hk => ?_, fun k hk => ?_⟩
  · rw [byte_fields (m := 2) (p := 4) rfl (rev2_lt e) (k := k) (by omega), if_pos hk, rev2_bit he hk]
  · rw [byte_fields (m := 2) (p := 4) rfl (rev2_lt e) (k := 2 + k) (by omega), if_neg (by omega), Nat.add_sub_cancel_left, rev3_bit hn hk]
  · rw [byte_fields (m := 2) (p := 4) rfl (rev2_lt e) (k := 5 + k) (by omega), if_neg (by omega)]
    exact Nat.testBit_lt_two_pow (Nat.lt_of_lt_of_le (rev3_lt n) (Nat.pow_le_pow_right (n := 2) (by decide) (by omega : 3 ≤ 5 + k - 2)))

theorem headerPayloadLength_byte {n : Nat} (e : Nat) (hn : n < 8) : headerPayloadLength (byte (rev2 e + 4 * rev3 n)) = n := by
  have he := rev2_lt e
  have back := rev3_rev3 hn
  have small := rev3_lt n
  unfold headerPayloadLength
  rw [byte_toNat (by omega)]
  generalize rev3 n = r at back small
  rw [show (rev2 e + 4 * r) / 4 = r by omega, show (rev2 e + 4 * r) / 8 = r / 2 by omega, show (rev2 e + 4 * r) / 16 = r / 4 by omega]
  exact back

theorem headerPayloadLength_seven {x : Byte} (h : ∀ k < 3, x.getLsbD (2 + k) = true) : headerPayloadLength x = 7 := by
  have bit (k : Nat) (hk : k < 3) : x.toNat / 2 ^ (2 + k) % 2 = 1 := by
    have := h k hk
    rw [BitVec.getLsbD, testBit_eq] at this
    exact of_decide_eq_true this
  have b0 := bit 0 (by decide)
  have b1 := bit 1 (by decide)
  have b2 := bit 2 (by decide)
  unfold headerPayloadLength
  norm_num at b0 b1 b2
  omega

/-! ### A frame sent and judged (R95, R96) -/

theorem byte_append (n : Nat) : byte (hi n) ++ byte (lo n) = BitVec.ofNat 16 n := by
  apply BitVec.eq_of_toNat_eq
  rw [BitVec.toNat_append, byte_toNat (by unfold hi; omega), byte_toNat (by unfold lo; omega), BitVec.toNat_ofNat,
    ← Nat.shiftLeft_add_eq_or_of_lt (by unfold lo; omega)]
  unfold hi lo
  omega

theorem byte_append_crc (r : BitVec 16) : byte (hi r.toNat) ++ byte (lo r.toNat) = r := by
  rw [byte_append, BitVec.ofNat_toNat, BitVec.setWidth_eq]

section
variable {f : RxFrame} (hc : f.cls = f.kind.cls) (hs : 1 ≤ f.sender) (hs' : f.sender ≤ 15) (hd : f.dest ≤ 15) (he : f.senderEnd ≤ 3)
  (hp : f.payload.length = f.kind.length)
include hp

theorem payload_le : f.payload.length ≤ 6 := hp ▸ kindLength_le f.kind

/-- What is judged, where the check that is read is the two characters `x` and `y`. -/
theorem judgeChars_body (x y : Byte) : judgeChars (f.body ++ [x, y]) =
    if [x, y] = bytes2 (crc16 f.body).toNat then judgeChars f.chars else .badCrc := by
  have small := payload_le hp
  have length := headerPayloadLength_byte f.senderEnd (n := f.payload.length) (by omega)
  by_cases h : [x, y] = bytes2 (crc16 f.body).toNat
  · rw [if_pos h, h]
    rfl
  · rw [if_neg h]
    unfold RxFrame.body judgeChars
    dsimp only [List.cons_append]
    rw [length, if_pos ⟨by simp, small⟩, List.take_left, List.drop_left]
    exact if_neg h

include hc hs hs' hd he

theorem judgeChars_chars : judgeChars f.chars = .sound f := by
  have small := payload_le hp
  have length := headerPayloadLength_byte f.senderEnd (n := f.payload.length) (by omega)
  have cls := cls_lt f.kind
  have code := code_lt f.kind
  have r2 := rev2_lt f.cls
  have r4 := rev4_lt f.sender
  have c4 := rev4_lt f.kind.code
  have d4 := rev4_lt f.dest
  have e2 := rev2_lt f.senderEnd
  have n3 := rev3_lt f.payload.length
  unfold RxFrame.chars RxFrame.body judgeChars
  dsimp only [List.cons_append]
  rw [length, if_pos ⟨by simp [bytes2], small⟩, List.take_left, List.drop_left, if_pos rfl, byte_toNat (by omega), byte_toNat (by omega),
    byte_toNat (by omega)]
  rw [show (rev2 f.cls + 4 * rev4 f.sender) % 4 = rev2 f.cls by omega, show (rev2 f.cls + 4 * rev4 f.sender) / 4 % 16 = rev4 f.sender by omega,
    show (rev4 f.kind.code + 16 * rev4 f.dest) % 16 = rev4 f.kind.code by omega,
    show (rev4 f.kind.code + 16 * rev4 f.dest) / 16 = rev4 f.dest by omega,
    show (rev2 f.senderEnd + 4 * rev3 f.payload.length) % 4 = rev2 f.senderEnd by omega,
    rev2_rev2 (v := f.cls) (by omega), rev4_rev4 (v := f.sender) (by omega), rev4_rev4 code, rev4_rev4 (v := f.dest) (by omega),
    rev2_rev2 (v := f.senderEnd) (by omega), frameKind_ofCode_code]
  dsimp only
  rw [if_pos ⟨by omega, by omega, hs, hc, hp⟩]

end

/-! ### Levels read (R92, R93) -/

theorem charsLevels_append (l m : List Byte) : charsLevels (l ++ m) = charsLevels l ++ charsLevels m := by simp [charsLevels]

/-- The levels of a character stand in its ten bit times. -/
theorem charsLevels_drop {l : List Byte} {k : Nat} {c : Byte} (h : l[k]? = some c) (more : List LineLevel) :
    ∃ rest, (charsLevels l ++ more).drop (10 * k) = charLevels c ++ rest := by
  induction l generalizing k with
  | nil => cases h
  | cons b l ih =>
    cases k with
    | zero =>
      cases h
      exact ⟨charsLevels l ++ more, by simp⟩
    | succ k =>
      obtain ⟨rest, hr⟩ := ih (k := k) (by simpa using h)
      refine ⟨rest, ?_⟩
      rw [charsLevels_cons, List.append_assoc, Nat.mul_succ, Nat.add_comm, ← List.drop_drop, ← charLevels_length b, List.drop_left,
        charLevels_length, hr]

theorem charsLevels_getElem? {l : List Byte} {k : Nat} {c : Byte} (h : l[k]? = some c) {j : Nat} (hj : j < 10) :
    (charsLevels l)[10 * k + j]? = (charLevels c)[j]? := by
  obtain ⟨rest, hr⟩ := charsLevels_drop h []
  rw [List.append_nil] at hr
  rw [← List.getElem?_drop, hr, List.getElem?_append_left (by simpa using hj)]

theorem charLevels_getElem? (c : Byte) {j : Nat} (hj : j < 10) : (charLevels c)[j]? = some ((charLevels c).getD j .idle) := by
  have inside : j < (charLevels c).length := by simpa using hj
  rw [List.getD_eq_getElem _ _ inside, List.getElem?_eq_getElem inside]

/-- The bits of a byte, added up by their values. -/
theorem byte_bits (c : Byte) : byte (((List.range 8).map fun k => if c.getLsbD k then 2 ^ k else 0).sum) = c := by
  have bit (k : Nat) : (if c.getLsbD k then 2 ^ k else 0) = 2 ^ k * (c.toNat / 2 ^ k % 2) := by
    rw [BitVec.getLsbD, testBit_eq]
    rcases Nat.mod_two_eq_zero_or_one (c.toNat / 2 ^ k) with h | h <;> simp [h]
  have small := c.isLt
  have sum : ((List.range 8).map fun k => if c.getLsbD k then 2 ^ k else 0).sum = c.toNat := by
    simp only [bit, List.range_succ, List.range_zero]
    norm_num
    omega
  rw [sum, byte, BitVec.ofNat_toNat, BitVec.setWidth_eq]

theorem readChar_charLevels (c : Byte) (more : List LineLevel) : readChar (charLevels c ++ more) = .char c := by
  have get {j : Nat} (hj : j < 10) : (charLevels c ++ more).getD j .idle = (charLevels c).getD j .idle := by
    rw [List.getD_eq_getElem?_getD, List.getElem?_append_left (by simpa using hj), ← List.getD_eq_getElem?_getD]
  have bits : (List.range 8).map (fun k => if (charLevels c ++ more).getD (k + 1) .idle = .idle then 2 ^ k else 0) =
      (List.range 8).map fun k => if c.getLsbD k then 2 ^ k else 0 := by
    refine List.map_congr_left fun k hk => ?_
    have hk := List.mem_range.mp hk
    rw [get (by omega), Nat.add_comm k 1, charLevels_data c hk, bitLevel]
    cases c.getLsbD k <;> rfl
  unfold readChar
  rw [get (by decide), get (by decide), charLevels_start, charLevels_stop c (Nat.le_refl 9), if_neg (by decide), if_neg (by decide), bits, byte_bits]

/-- No character is read where the line is idle at its start bit, or driven at its stop bit. -/
theorem readChar_broken {samples : List LineLevel} (h : samples.getD 0 .idle = .idle ∨ samples.getD 9 .idle = .driven) (c : Byte) :
    readChar samples ≠ .char c := by
  unfold readChar
  by_cases start : samples.getD 0 .idle = .idle
  · rw [if_pos start]
    simp
  · rw [if_neg start, if_pos (h.resolve_left start)]
    simp

theorem readChars_charsLevels (l : List Byte) (more : List LineLevel) : readChars l.length (charsLevels l ++ more) = some l := by
  induction l with
  | nil => rfl
  | cons c l ih =>
    have rest : (charLevels c ++ (charsLevels l ++ more)).drop 10 = charsLevels l ++ more := by
      rw [← charLevels_length c, List.drop_left]
    rw [charsLevels_cons, List.append_assoc, List.length_cons, readChars, readChar_charLevels]
    dsimp only
    rw [rest, ih]
    rfl

/-- Characters are read up to one that is not. -/
theorem readChars_broken {n k : Nat} {samples : List LineLevel} (hk : k < n) (h : ∀ c, readChar (samples.drop (10 * k)) ≠ .char c) :
    readChars n samples = none := by
  induction k generalizing n samples with
  | zero =>
    obtain ⟨n, rfl⟩ := Nat.exists_eq_add_of_lt hk
    rw [Nat.zero_add, readChars]
    split
    · rename_i c hc
      exact absurd hc (h c)
    · rfl
    · rfl
  | succ k ih =>
    obtain ⟨m, rfl⟩ : ∃ m, n = m + 1 := ⟨n - 1, by omega⟩
    rw [readChars]
    split
    · rw [ih (by omega) fun c => by rw [List.drop_drop, Nat.add_comm, ← Nat.mul_succ]; exact h c]
      rfl
    · rfl
    · rfl

theorem readAcknowledge_broken {samples : List LineLevel} (h : ∀ c, readChar samples ≠ .char c) : readAcknowledge samples = none := by
  unfold readAcknowledge
  split
  · rename_i c hc
    exact absurd hc (h c)
  · rfl
  · rfl

/-! ### A frame read (R93) -/

/-- The header and the characters after it, where the header is read. -/
theorem readFrameChars_of {samples : List LineLevel} {a b c : Byte} (h : readChars 3 samples = some [a, b, c]) : readFrameChars samples =
    if headerPayloadLength c ≤ 6 then readChars (headerPayloadLength c + 5) samples else none := by
  unfold readFrameChars
  rw [h]

theorem readFrameChars_broken_header {samples : List LineLevel} (h : readChars 3 samples = none) : readFrameChars samples = none := by
  unfold readFrameChars
  rw [h]

theorem readFrameChars_long (a b : Byte) {c : Byte} (h : headerPayloadLength c = 7) (more : List LineLevel) :
    readFrameChars (charsLevels [a, b, c] ++ more) = none := by
  rw [readFrameChars_of (readChars_charsLevels [a, b, c] more), h]
  rfl

section
variable {l : List Byte} {a b c : Byte} (hl : l.length = headerPayloadLength c + 2) (hc : headerPayloadLength c ≤ 6)
include hl hc

theorem readFrameChars_charsLevels (more : List LineLevel) :
    readFrameChars (charsLevels (a :: b :: c :: l) ++ more) = some (a :: b :: c :: l) := by
  have header : readChars 3 (charsLevels (a :: b :: c :: l) ++ more) = some [a, b, c] := by
    rw [show charsLevels (a :: b :: c :: l) ++ more = charsLevels [a, b, c] ++ (charsLevels l ++ more) by simp [charsLevels]]
    exact readChars_charsLevels [a, b, c] _
  rw [readFrameChars_of header, if_pos hc, show headerPayloadLength c + 5 = (a :: b :: c :: l).length by simp [hl]]
  exact readChars_charsLevels ..

/-- A level of one character put wrong breaks the frame off, where that character is not read. -/
theorem readFrameChars_set {k j : Nat} {x : LineLevel} (hk : k < l.length + 3) (hj : 10 * k ≤ j)
    (h : ∀ d, readChar (((charsLevels (a :: b :: c :: l)).set j x).drop (10 * k)) ≠ .char d) :
    readFrameChars ((charsLevels (a :: b :: c :: l)).set j x) = none := by
  by_cases first : k < 3
  · exact readFrameChars_broken_header (readChars_broken first h)
  · have header : readChars 3 ((charsLevels (a :: b :: c :: l)).set j x) = some [a, b, c] := by
      have after : ¬j < (charsLevels [a, b, c]).length := by rw [charsLevels_length]; simp; omega
      rw [show charsLevels (a :: b :: c :: l) = charsLevels [a, b, c] ++ charsLevels l by simp [charsLevels], List.set_append, if_neg after]
      exact readChars_charsLevels [a, b, c] _
    rw [readFrameChars_of header, if_pos hc]
    exact readChars_broken (by omega) h

end

/-- The level put at a bit time of a character, seen from the start of that character. -/
theorem set_drop_getD {l : List Byte} {k : Nat} {c : Byte} (h : l[k]? = some c) {j : Nat} (hj : j < 10) (x : LineLevel) :
    (((charsLevels l).set (10 * k + j) x).drop (10 * k)).getD j .idle = x := by
  have inside : 10 * k + j < (charsLevels l).length := by
    have := (List.getElem?_eq_some_iff.mp h).1
    rw [charsLevels_length]
    omega
  rw [List.getD_eq_getElem?_getD, List.getElem?_drop, List.getElem?_set_self inside]
  rfl

/-- The levels of the characters of a list, each in its ten bit times. -/
theorem charsLevels_at {l : List Byte} {k : Nat} {c : Byte} (h : l[k]? = some c) : (charsLevels l)[10 * k]? = some .driven ∧
    (∀ j < 8, (charsLevels l)[10 * k + 1 + j]? = some (if c.getLsbD j then .idle else .driven)) ∧ (charsLevels l)[10 * k + 9]? = some .idle := by
  have level {j : Nat} (hj : j < 10) : (charsLevels l)[10 * k + j]? = some ((charLevels c).getD j .idle) :=
    (charsLevels_getElem? h hj).trans (charLevels_getElem? c hj)
  refine ⟨level (j := 0) (by decide), fun j hj => ?_, ?_⟩
  · rw [Nat.add_assoc, level (by omega), charLevels_data c hj, bitLevel]
  · rw [level (by decide), charLevels_stop c (Nat.le_refl 9)]

theorem readAcknowledge_charLevels (c : Byte) : readAcknowledge (charLevels c) = some c ∧
    readAcknowledge ((charLevels c).set 0 .idle) = none ∧ readAcknowledge ((charLevels c).set 9 .driven) = none := by
  refine ⟨?_, readAcknowledge_broken (readChar_broken (.inl rfl)), readAcknowledge_broken (readChar_broken (.inr rfl))⟩
  have read := readChar_charLevels c []
  rw [List.append_nil] at read
  rw [readAcknowledge, read]

/-- A frame is broken off by an idle start bit, and by a driven stop bit, of any of its characters. -/
theorem readFrameChars_broken {l : List Byte} {a b c : Byte} (hl : l.length = headerPayloadLength c + 2) (hc : headerPayloadLength c ≤ 6)
    {k : Nat} {d : Byte} (h : (a :: b :: c :: l)[k]? = some d) :
    readFrameChars ((charsLevels (a :: b :: c :: l)).set (10 * k) .idle) = none ∧
      readFrameChars ((charsLevels (a :: b :: c :: l)).set (10 * k + 9) .driven) = none := by
  have inside : k < l.length + 3 := (List.getElem?_eq_some_iff.mp h).1
  exact ⟨readFrameChars_set hl hc inside (Nat.le_refl _) (readChar_broken (.inl (set_drop_getD h (j := 0) (by decide) _))),
    readFrameChars_set hl hc inside (Nat.le_add_right ..) (readChar_broken (.inr (set_drop_getD h (j := 9) (by decide) _)))⟩

/-- Settles O31: the check by the register's linearity in what is added to it, the frame's fields by their places in the three header characters, and
the frame on the line by the ten bit times of each character. -/
theorem sentFrameIsDecoded : Obligations.SentFrameIsDecoded := by
  intro f hc hs hs' hd he hp
  have small := payload_le hp
  have length : headerPayloadLength (byte (rev2 f.senderEnd + 4 * rev3 f.payload.length)) = f.payload.length :=
    headerPayloadLength_byte _ (by omega)
  have after : (f.payload ++ bytes2 (crc16 f.body).toNat).length =
      headerPayloadLength (byte (rev2 f.senderEnd + 4 * rev3 f.payload.length)) + 2 := by
    rw [length, List.length_append]
    rfl
  have cls : f.cls < 4 := hc ▸ cls_lt f.kind
  obtain ⟨clsBits, senderBits, zeros⟩ := header0_bits cls (sender := f.sender) (by omega)
  obtain ⟨codeBits, destBits⟩ := header1_bits (code_lt f.kind) (dest := f.dest) (by omega)
  obtain ⟨endBits, lengthBits, zeros'⟩ := header2_bits (e := f.senderEnd) (n := f.payload.length) (by omega) (by omega)
  refine ⟨judgeChars_chars hc hs hs' hd he hp, _, _, _, byte (hi (crc16 f.body).toNat), byte (lo (crc16 f.body).toNat), rfl, ?_,
    fun x y hxy => ?_, clsBits, senderBits, zeros, codeBits, destBits, endBits, lengthBits, zeros', charsLevels_length _, fun k c hk => ?_,
    readFrameChars_charsLevels after (by omega), fun x more hx => readFrameChars_long _ _ (headerPayloadLength_seven hx) more⟩
  · rw [byte_append_crc]
    exact congrArg (fun g => List.foldl g 0xFFFF#16 f.body) (funext₂ crcByte_eq)
  · have differs : [x, y] ≠ bytes2 (crc16 f.body).toNat := by
      rintro h
      cases h
      exact hxy rfl
    exact (judgeChars_body hp x y).trans (if_neg differs)
  · obtain ⟨start, data, stop⟩ := charsLevels_at hk
    obtain ⟨noStart, noStop⟩ := readFrameChars_broken after (by omega) hk
    exact ⟨start, data, stop, noStart, noStop, readAcknowledge_charLevels c⟩

end Sys2Proof.Machine
end
